-- ==== Sys2Proof/Word.lean ====
section
/-! DEFINITION. The word types of the Lomant PF64: bytes, 16-bit fields, and the 32-bit counts and positions that
wrap (00_scope.md 4.2, 4.4; R2). -/

namespace Sys2Proof

abbrev Byte := BitVec 8
abbrev Half := BitVec 16
abbrev Word := BitVec 32

/-- The difference of two slot counts, "taken after wrapping as signed numbers" (R2). -/
def Word.diff (a b : Word) : Int := BitVec.toInt (BitVec.sub a b)

end Sys2Proof
end

