-- ==== Sys2Proof/Config.lean ====
section
/-! DEFINITION. What is fixed for every PF64 (sizes, spans, defaults that are plain numbers) and the values the spec
leaves open, as constants with no body. -/

namespace Sys2Proof.Config

/-- IDENTIFY's codes and serial number: R186 names them and gives no value (log 15). -/
opaque vendorCode : Nat
opaque partCode : Nat
opaque siliconRevision : Nat
opaque serialNumber : BitVec 64

/-- What an erased page reads as, sample by sample: the spec gives no value (log 14). -/
opaque erasedSample : Nat → Int

/-- R1: entries a ring holds. -/
def ringSize : Nat := 64
/-- R114: logical sectors, physical data sectors, and the settings sector's number. -/
def logicalSectors : Nat := 4096
def dataSectors : Nat := 4160
def settingsSector : Nat := 4160
/-- R174, R173, R157: the spans of HOLD, LOAD and GANG WAIT in output periods. -/
def holdPeriods : Nat := 200
def loadPeriods : Nat := 260
def presenceWindow : Nat := 8000
/-- R113, R125: output periods of a program step, of an erase, and until an erase times out. -/
def programPeriods : Nat := 2
def erasePeriods : Nat := 12
def eraseTimeout : Nat := 200
/-- R166: good slots that bring a link UP. -/
def goodSlots : Nat := 8
/-- R145, R146, R148: ticks taken or missed that join, isolate or make absent. -/
def gangCount : Nat := 40
/-- R46, R119, R96, R130, R169. -/
def cueRecords : Nat := 256
def clips : Nat := 128
def journalSize : Nat := 64
def scrubQueueSize : Nat := 8
def completionQueue : Nat := 2
/-- R36: the soft-jump timer's load. -/
def softJump : Nat := 4000
/-- The largest position and 32-bit count, 4,294,967,295. -/
def maxPosition : Nat := 4294967295

end Sys2Proof.Config
end

