-- ==== Sys2Proof/Syntax.lean ====
section
/-! DEFINITION. The commands of spec/opcode_table.json, one constructor each, and the types of their operands.
The table gives no operands and no bits; the operands are those the rules name (log 10). -/

namespace Sys2Proof

/-- Rig A and rig B (00_scope.md 3). -/
inductive Rig where | a | b
deriving DecidableEq, Repr

/-- The six show-link ports (00_scope.md 3). -/
inductive Port where | ra | rb | o1 | o2 | gu | gd
deriving DecidableEq, Repr

/-- The four ports that carry CONTROL (R168, R177). -/
inductive CtlPort where | ra | rb | o1 | o2
deriving DecidableEq, Repr

/-- The GANG ROLE strap's level (R142). -/
inductive Strap where | low | high
deriving DecidableEq, Repr

/-- R63's table of sources. -/
inductive Source where | mute | a | b | bed
deriving DecidableEq, Repr

inductive Urgency where | immediate | atBoundary
deriving DecidableEq, Repr

inductive HealthState where | offline | qualifying | stopped | healthy | suspect | failed
deriving DecidableEq, Repr

inductive StepState where | outOfStep | drifting | inStep
deriving DecidableEq, Repr

inductive GangState where | leader | discovering | joined | isolated
deriving DecidableEq, Repr

inductive Grant where | full | observe | none
deriving DecidableEq, Repr

/-- A page read's ECC outcome (R129). -/
inductive Ecc where | clean | corrected | uncorrectable
deriving DecidableEq, Repr

/-- A show position: cue number and position (00_scope.md 4.2). -/
structure ShowPos where
  cue : Half
  pos : Word
deriving DecidableEq, Repr

/-- Eight like things, one per switch group 0 to 7. -/
structure Oct (α : Type) where
  g0 : α
  g1 : α
  g2 : α
  g3 : α
  g4 : α
  g5 : α
  g6 : α
  g7 : α
deriving DecidableEq, Repr

/-- Four like things, one per CONTROL port. -/
structure Four (α : Type) where
  ra : α
  rb : α
  o1 : α
  o2 : α
deriving DecidableEq, Repr

/-- A main frame as it came in on the line: whether both its marks arrived in the slot, and the bytes between them. -/
structure RawFrame where
  marks : Bool
  bytes : List Byte
deriving DecidableEq, Repr

/-- The health limits of 02 section 2.8, as a request gives them (unchecked). -/
structure HealthLimits where
  gap : Nat
  warn : Nat
  corrupt : Nat
  pilotChannel : Option Nat
  pilotFloor : Nat
  pilotHold : Nat
  qualify : Nat
  recovery : Nat
  auto : Bool
deriving DecidableEq, Repr

/-- A cue's policy: the fields of a cue record but its number (03 section 3.1, R47). -/
structure CuePolicy where
  length : Option Nat
  framesPerBeat : Nat
  beatOffset : Nat
  zones : List (Nat × Nat)
  clip : Option Nat
  bedStart : Nat
  revertAllowed : Bool
  bedAllowed : Bool
deriving DecidableEq, Repr

structure CueRecord where
  cue : Nat
  policy : CuePolicy
deriving DecidableEq, Repr

/-- A route entry (05 section 5.1), as a request gives it (unchecked). -/
structure RouteEntry where
  group : Nat
  rigA : Option Nat
  rigB : Option Nat
  track : Option Nat
deriving DecidableEq, Repr

/-- A group policy record (04 section 4.2), as a request gives it (unchecked). -/
structure GroupPolicy where
  fallback : List Source
  operatorLevel : Nat
  healthLevel : Nat
  revertLevel : Nat
  fade : Nat
  deferral : Nat
  revertOn : Bool
  revertSettle : Nat
  hardAllowed : Bool
  dSet : Nat
  startGrace : Nat
  gangLead : Nat
deriving DecidableEq, Repr

/-- An entry of the gang state vector (R144). -/
structure VecEntry where
  source : Source
  effective : ShowPos
  order : Byte
  fade : Nat
  urgency : Urgency
deriving DecidableEq, Repr

/-- A GANG TICK (R144). -/
structure Tick where
  hop : Nat
  size : Nat
  leader : ShowPos
  vector : Oct VecEntry
deriving DecidableEq, Repr

/-- A unit entry of a GANG REPORT (R147). -/
structure UnitEntry where
  position : Nat
  state : GangState
  healthA : HealthState
  healthB : HealthState
  stepA : StepState
  stepB : StepState
  emergency : Oct Bool
  applied : Oct (Option Byte)
deriving DecidableEq, Repr

/-- Twelve 16-bit samples of each of four tracks: one clip frame (R121). -/
structure BedFrame where
  t0 : List Int
  t1 : List Int
  t2 : List Int
  t3 : List Int
deriving DecidableEq, Repr

/-- A request's rig parameter; `other` is any value that names no rig (R178). -/
inductive RigArg where | a | b | both | other
deriving DecidableEq, Repr

/-- The parts of READ STATUS; `other` is a part not in R186's table. -/
inductive StatusPart where | unit | program | rigs | groupsLow | groupsHigh | gang | ports | other
deriving DecidableEq, Repr

inductive BankArg where | active | shadow | other
deriving DecidableEq, Repr

inductive CommitTiming where | now | atCueChange
deriving DecidableEq, Repr

/-- The head of a CONTROL that R168 has routed to the management agent: its port, its unit address and tag, and
whether the parameters' length agrees with the kind (R176 step 10). -/
structure CtlHead where
  port : CtlPort
  addr : Byte
  tag : Byte
  lengthOk : Bool
deriving DecidableEq, Repr

/-- A request with its parameters as named fields (R178). A `none` where a kind of value is named is a value
outside it. -/
inductive Request where
  | identify
  | readStatus (part : StatusPart)
  | readHealth (rig : RigArg)
  | setHealthLimits (rig : RigArg) (limits : HealthLimits)
  | requalifyRig (rig : RigArg)
  | readBadFrame (rig : RigArg)
  | readFault
  | clearFault
  | readJournal (start : Nat)
  | writeCue (rec : CueRecord) (zoneCount : Nat)
  | readCue (cue : Nat)
  | deleteCue (cue : Nat)
  | listCues (start : Nat)
  | writeRoute (first count : Nat) (entries : List RouteEntry)
  | readRoute (bank : BankArg) (first count : Nat)
  | commitRoutes (timing : Option CommitTiming)
  | writeGroup (group : Nat) (policy : GroupPolicy)
  | readGroup (group : Nat)
  | forceSource (groups : List (Fin 8)) (target : Option Source) (urgency : Option Urgency) (hard : Bool)
  | releaseForce (groups : List (Fin 8))
  | stopProgram
  | showLock
  | showUnlock
  | bedOpen (clip length loopStart loopLength : Nat)
  | bedData (clip offset : Nat) (f0 f1 : BedFrame)
  | bedSeal (clip : Nat)
  | bedAbort (clip : Nat)
  | bedDelete (clip : Nat)
  | bedList (start : Nat)
  | bedStatus
  | saveSettings
  | writePortGrants (grants : Four (Option Grant))
  | resetUnit
deriving DecidableEq, Repr

/-- The typed reading of a side frame's body past the bytes section 9.3 lays out: a CONTROL's parameters (none when
their length does not agree with the kind), a tick, a report, or nothing. -/
inductive SideBody where
  | control (params : Option Request)
  | tick (t : Tick)
  | report (entries : List UnitEntry)
  | plain
deriving DecidableEq, Repr

/-- What the outside decides at one output period: the ECC outcome of the bed player's read and of the engine's copy
read if one is served, whether the program or mark that completes verifies, whether the settings image reads
whole with a good CRC (log 6), whether output assembly reads the groups before the switches of the period (log 9),
and the GANG ROLE strap's level should a requested reset fall in it (log 7). -/
structure PeriodInput where
  playerEcc : Ecc
  copyEcc : Ecc
  verified : Bool
  imageGood : Bool
  assembleFirst : Bool
  strap : Strap
deriving DecidableEq, Repr

/-- The commands: one constructor for each row of spec/opcode_table.json. -/
inductive Instr where
  | powerOn (strap : Strap)
  | supplyLoss
  | resetPin (strap : Strap)
  | resetPinRelease
  | holdExpiry
  | loadEnd (imageGood : Bool)
  | presenceWindowEnd
  | lockAcquired (p : Port)
  | lockLost (p : Port) (stepFirst : Bool)
  | linkUp (p : Port)
  | mainFrame (p : Port) (slot : Option RawFrame)
  | stall (r : Rig)
  | pilotLost (r : Rig)
  | rigQualified (r : Rig) (audio : Bool)
  | recoveryHoldExpiry (r : Rig)
  | softJumpExpiry (r : Rig)
  | startGraceExpiry
  | heldAnchorDue
  | stepLost (r : Rig)
  | fadeComplete (g : Fin 8)
  | deferralLimit (g : Fin 8)
  | outputPeriod (i : PeriodInput)
  | pageRead (ecc : Ecc)
  | pageProgramComplete (verified : Bool)
  | markProgramComplete (verified : Bool)
  | eraseComplete
  | eraseTimeout
  | sideFrame (p : Port) (raw : RawFrame) (body : SideBody)
  | gangTick (p : Port) (t : Tick)
  | gangReport (p : Port) (entries : List UnitEntry)
  | followerJoined
  | followerIsolated
  | unitAbsent (row : Fin 3)
  | identify (h : CtlHead)
  | readStatus (h : CtlHead) (part : StatusPart)
  | readHealth (h : CtlHead) (rig : RigArg)
  | setHealthLimits (h : CtlHead) (rig : RigArg) (limits : HealthLimits)
  | requalifyRig (h : CtlHead) (rig : RigArg)
  | readBadFrame (h : CtlHead) (rig : RigArg)
  | readFault (h : CtlHead)
  | clearFault (h : CtlHead)
  | readJournal (h : CtlHead) (start : Nat)
  | writeCue (h : CtlHead) (rec : CueRecord) (zoneCount : Nat)
  | readCue (h : CtlHead) (cue : Nat)
  | deleteCue (h : CtlHead) (cue : Nat)
  | listCues (h : CtlHead) (start : Nat)
  | writeRoute (h : CtlHead) (first count : Nat) (entries : List RouteEntry)
  | readRoute (h : CtlHead) (bank : BankArg) (first count : Nat)
  | commitRoutes (h : CtlHead) (timing : Option CommitTiming)
  | writeGroup (h : CtlHead) (group : Nat) (policy : GroupPolicy)
  | readGroup (h : CtlHead) (group : Nat)
  | forceSource (h : CtlHead) (groups : List (Fin 8)) (target : Option Source) (urgency : Option Urgency) (hard : Bool)
  | releaseForce (h : CtlHead) (groups : List (Fin 8))
  | stopProgram (h : CtlHead)
  | showLock (h : CtlHead)
  | showUnlock (h : CtlHead)
  | bedOpen (h : CtlHead) (clip length loopStart loopLength : Nat)
  | bedData (h : CtlHead) (clip offset : Nat) (f0 f1 : BedFrame)
  | bedSeal (h : CtlHead) (clip : Nat)
  | bedAbort (h : CtlHead) (clip : Nat)
  | bedDelete (h : CtlHead) (clip : Nat)
  | bedList (h : CtlHead) (start : Nat)
  | bedStatus (h : CtlHead)
  | saveSettings (h : CtlHead)
  | writePortGrants (h : CtlHead) (grants : Four (Option Grant))
  | resetUnit (h : CtlHead)
  | requestedReset (strap : Strap)
  | unknownRequest (h : CtlHead) (kind : Byte)
deriving DecidableEq, Repr

end Sys2Proof
end

