-- ==== Sys2Proof/Machine/State.lean ====
section
/-! DEFINITION. The state of the PF64 as plain data: every register, ring, table, record, queue and pin the spec gives
the unit, and the machine right after reset. INVENTORY.md lists each field with its rule and reset value. -/

namespace Sys2Proof.Machine

/-- Rig A's and rig B's copies of one thing. -/
structure Pair (α : Type) where
  a : α
  b : α
deriving DecidableEq, Repr

/-- One thing per port. -/
structure Six (α : Type) where
  ra : α
  rb : α
  o1 : α
  o2 : α
  gu : α
  gd : α
deriving DecidableEq, Repr

/-- One thing for each of units 1 to 3 (R148). -/
structure Three (α : Type) where
  u1 : α
  u2 : α
  u3 : α
deriving DecidableEq, Repr

/-! ## Link receivers (R166) -/

inductive LinkState where | down | training | up
deriving DecidableEq, Repr

structure PortLink where
  state : LinkState
  run : Nat
  expected : Option Half
  breaks : Nat
deriving DecidableEq, Repr

/-! ## Alignment buffer (01) -/

structure RingEntry where
  pos : ShowPos
  arrival : Word
  channels : Nat
  samples : List (List Int)
deriving DecidableEq, Repr

structure StepRec where
  state : StepState
  streak : Nat
  miss : Nat
  lastSkew : Option Int
deriving DecidableEq, Repr

structure AlignRig where
  ring : List RingEntry
  slotCount : Word
  stopMark : Option Word
  newestAudio : Option Bool
  step : StepRec
deriving DecidableEq, Repr

structure HeldAnchor where
  rig : Rig
  pos : ShowPos
  arrival : Word
deriving DecidableEq, Repr

inductive ProgState where | stopped | running | free
deriving DecidableEq, Repr

structure Program where
  state : ProgState
  pos : ShowPos
  due : Option Word
  held : Option HeldAnchor
  anchorPending : Bool
  stopHold : Bool
  grace : Option Nat
  graceSpent : Bool
  dInForce : Nat
  prevCue : Half
  /-- The model's own: HELD_ANCHOR_DUE has set this output period's due slot (log 58). -/
  dueSet : Bool
  /-- The model's own: the slot E is measured from at an anchor set since the last output period (R5, log 58). -/
  eSlot : Option Word
deriving DecidableEq, Repr

structure Align where
  rigs : Pair AlignRig
  prog : Program
deriving DecidableEq, Repr

/-! ## Health monitors (02) -/

inductive HardCond where | stall | corrupt | pilotLost | jump | declared | noStart
deriving DecidableEq, Repr

/-- The hard conditions that hold (2.1). -/
structure HardSet where
  stall : Bool
  corrupt : Bool
  pilotLost : Bool
  jump : Bool
  declared : Bool
  noStart : Bool
deriving DecidableEq, Repr

inductive FrameKind where | idle | audio
deriving DecidableEq, Repr

/-- R30's reasons. -/
inductive HealthReason where
  | hard (c : HardCond) | warn | jump | linkDown | linkUp | recovered | requested | frame (k : FrameKind)
deriving DecidableEq, Repr

structure HealthEvent where
  before : HealthState
  after : HealthState
  reason : HealthReason
deriving DecidableEq, Repr

structure ContRef where
  pos : ShowPos
  arrival : Word
deriving DecidableEq, Repr

/-- The bad-frame capture (2.6). -/
structure BadCapture where
  locked : Bool
  kind : Byte
  seq : Half
  cue : Half
  pos : Word
  channels : Byte
  arrival : Word
  received : Option Word
  computed : Option Word
deriving DecidableEq, Repr

structure HealthRec where
  state : HealthState
  hard : HardSet
  warn : Bool
  playing : Bool
  gap : Nat
  repeatStall : Bool
  bucket : Nat
  pilotCount : Nat
  pilotPeak : Nat
  ref : Option ContRef
  softJump : Option Nat
  qual : Nat
  lastSeq : Option Half
  recovery : Option Nat
  requalifyReady : Bool
  patches : Nat
  capture : BadCapture
  limits : HealthLimits
  event : Option HealthEvent
deriving DecidableEq, Repr

/-! ## Cue map (03) -/

inductive StagedAction where
  | write (p : CuePolicy)
  | delete
deriving DecidableEq, Repr

structure Staged where
  cue : Nat
  action : StagedAction
  isNew : Bool
deriving DecidableEq, Repr

structure CueMap where
  records : List CueRecord
  staged : Option Staged
  inUse : Option Nat
deriving DecidableEq, Repr

/-! ## Switch controller (04) -/

inductive Cause where | operator | health | revert | gang | localEmergency
deriving DecidableEq, Repr

inductive SwitchOutcome where | late | atLimit | reversed | cutShort | hard | seamless
deriving DecidableEq, Repr

/-- A pending switch request (4.5); its cause is the slot it stands in. -/
structure SwitchReq where
  target : Option Source
  urgency : Urgency
  level : Nat
  hard : Bool
  latched : Word
deriving DecidableEq, Repr

/-- A placed AT BOUNDARY switch (R93): `point` none is an open switch point; `pin` is the level of an OPERATOR request
satisfied by it; `moved` says the deferral limit has moved it (R94). -/
structure Placed where
  cause : Cause
  level : Nat
  target : Source
  hard : Bool
  point : Option ShowPos
  moved : Bool
  pin : Option Nat
  latched : Word
deriving DecidableEq, Repr

/-- R66: SETTLED on one source, or FADING from one origin to one destination. -/
inductive GroupState where
  | settled (src : Source)
  | fading (origin dest : Source) (len : Nat) (start : Word) (ret : Bool)
deriving DecidableEq, Repr

/-- A group record (4.3). `healthMoved`: the group's current source has changed since the pending HEALTH request was latched or
made IMMEDIATE (R72, R88). -/
structure Group where
  st : GroupState
  h : Nat
  op : Option SwitchReq
  health : Option SwitchReq
  healthMoved : Bool
  revert : Option SwitchReq
  timer : Option Nat
  limitReached : Bool
  placed : Option Placed
deriving DecidableEq, Repr

structure JournalEntry where
  number : Half
  group : Fin 8
  origin : Source
  dest : Source
  cause : Cause
  level : Nat
  urgency : Urgency
  outcome : SwitchOutcome
  pos : ShowPos
  count : Word
deriving DecidableEq, Repr

structure Journal where
  entries : List JournalEntry
  next : Half
deriving DecidableEq, Repr

/-- The good-since stamps of R69. -/
structure Stamps where
  a : Option Word
  b : Option Word
  bed : Option Word
deriving DecidableEq, Repr

structure Controller where
  groups : Oct Group
  policies : Oct GroupPolicy
  stamps : Stamps
  journal : Journal
deriving DecidableEq, Repr

/-! ## Route table (05) -/

structure RouteTable where
  active : List RouteEntry
  shadow : List RouteEntry
  commit : Option CommitTiming
deriving DecidableEq, Repr

/-! ## Bed store (06) -/

/-- The clip parameters an index-0 header carries (6.3). -/
structure ClipParams where
  length : Nat
  loopStart : Nat
  loopLength : Nat
deriving DecidableEq, Repr

/-- A sector header (6.3); the two marks stand beside it in the sector. -/
structure Header where
  logical : Nat
  clip : Nat
  index : Nat
  params : Option ClipParams
  generation : Byte
deriving DecidableEq, Repr

/-- The contents of one physical data sector. `touched`: a page program was begun since the last erase.
`disturbed`: an erase was begun and has not completed. A sector with every field at its least is blank. -/
structure FlashSector where
  header : Option Header
  sealMarker : Bool
  retire : Bool
  pages : List (Nat × List BedFrame)
  touched : Bool
  disturbed : Bool
deriving DecidableEq, Repr

/-- What the settings image holds (6.7). -/
structure Settings where
  cues : List CueRecord
  routes : List RouteEntry
  policies : Oct GroupPolicy
  limits : Pair HealthLimits
  grants : Four Grant
deriving DecidableEq, Repr

/-- What page 0 of the settings image holds: "every part except the cue map" (R132). -/
structure ImageTables where
  routes : List RouteEntry
  policies : Oct GroupPolicy
  limits : Pair HealthLimits
  grants : Four Grant
deriving DecidableEq, Repr

/-- The part of the image one page holds (R132). -/
inductive PagePart where
  | tables (t : ImageTables)
  | cues (l : List CueRecord)
deriving DecidableEq, Repr

/-- What closes the image on its last page (R132). -/
structure ImageClose where
  pages : Nat
  crc : Word
deriving DecidableEq, Repr

/-- A programmed page of the settings sector. -/
structure SettingsPage where
  part : PagePart
  close : Option ImageClose
deriving DecidableEq, Repr

/-- The settings sector: its programmed pages, in order; `disturbed` says that an erase or a page program was begun and did not end
well. With no page and not disturbed the sector is erased throughout. -/
structure SettingsSector where
  pages : List SettingsPage
  disturbed : Bool
deriving DecidableEq, Repr

end Sys2Proof.Machine

namespace Sys2Proof.Config

/-- The CRC-32 over the pages of a settings image: the spec gives the pages no bytes, so the value is free (log 27). -/
opaque imageCrc : List Machine.PagePart → Word

end Sys2Proof.Config

namespace Sys2Proof.Machine

inductive LogicalState where | erased | allocated | damaged | dirty
deriving DecidableEq, Repr

inductive ClipState where | writing | sealed | damaged
deriving DecidableEq, Repr

structure DirEntry where
  id : Nat
  first : Nat
  count : Nat
  length : Nat
  loopStart : Nat
  loopLength : Nat
  state : ClipState
  writer : CtlPort
  next : Nat
  damageSeen : Bool
  storeFault : Bool
deriving DecidableEq, Repr

/-- A page buffer handed to the write engine. -/
structure PageBuf where
  page : Nat
  frames : List BedFrame
deriving DecidableEq, Repr

/-- Why a sector is being copied: a page that failed verify, a failed seal marker, or a scrub. -/
inductive CopyKind where
  | failedPage (page : Nat) (frames : List BedFrame)
  | sealMark
  | scrub
deriving DecidableEq, Repr

/-- One program step of a copy: a page of the source, or the failed buffer's page. -/
inductive CopyAct where
  | copy (page : Nat)
  | failed (page : Nat)
deriving DecidableEq, Repr

/-- A relocation (R126) or scrub (R130) in progress; `target` is none until a spare is taken. -/
structure CopyJob where
  logical : Nat
  source : Nat
  kind : CopyKind
  target : Option Nat
  plan : List CopyAct
deriving DecidableEq, Repr

inductive Job where | clip | save | scrub | backlog
deriving DecidableEq, Repr

inductive FlashOp where
  | page (phys page : Nat) (frames : List BedFrame) (header : Option Header) (sealed : Bool)
  | sealMark (phys : Nat)
  | retireMark (phys : Nat)
  | erase (phys : Nat)
  | settingsPage (page : Nat)
deriving DecidableEq, Repr

/-- The write engine's step in flight (R124). `orphan`: its clip was aborted and its outcome is ignored (R123). -/
structure EngineStep where
  op : FlashOp
  job : Job
  start : Word
  progress : Nat
  suspended : Bool
  orphan : Bool
deriving DecidableEq, Repr

/-- The settings save (R133): erase first, then `next` of `pages` pages. -/
structure SaveJob where
  port : CtlPort
  erased : Bool
  next : Nat
  pages : Nat
deriving DecidableEq, Repr

/-- The store controller's records. `backlogFirst` names, of the backlog's sectors, those that were a clip's index-0 sector, with
the clip's id (R120). `clipMark`, `scrubMark` and `backlogMark` are the RETIRED sectors that wait for their retire mark, under the job
that retired them (R116). -/
structure Store where
  flash : List (Nat × FlashSector)
  settings : SettingsSector
  remap : List (Nat × Nat)
  spares : List (Nat × Bool)
  relocating : List Nat
  retired : List Nat
  logical : List (Nat × LogicalState)
  corrected : List (Nat × Nat)
  dir : List DirEntry
  fill : Option PageBuf
  handed : List PageBuf
  clipCopy : Option CopyJob
  clipMark : List Nat
  sealing : Bool
  sealAfterMark : Bool
  dataHeld : Bool
  save : Option SaveJob
  scrubQueue : List Nat
  scrub : Option CopyJob
  scrubErase : Option Nat
  scrubMark : List Nat
  backlog : List Nat
  backlogFirst : List (Nat × Nat)
  backlogWait : Option (Nat × Nat)
  backlogMark : List Nat
  engine : Option EngineStep
  orphanTarget : Option Nat
  /-- The banks that have served a page read in this output period (R124). -/
  readBanks : List Nat
deriving DecidableEq, Repr

/-! ## Bed player (6.8) -/

structure PageSlot where
  clip : Nat
  page : Nat
  frames : List BedFrame
  zero : Bool
deriving DecidableEq, Repr

structure Prime where
  cue : Half
  clip : Nat
  bedStart : Nat
  offset : Int
  slots : List PageSlot
deriving DecidableEq, Repr

/-- An outstanding page read whose clip has left the directory: the clip, its logical sector and the page of that sector (R139). -/
structure LostRead where
  clip : Nat
  sector : Nat
  page : Nat
deriving DecidableEq, Repr

structure Player where
  tracked : Option (Nat × Nat)
  window : List PageSlot
  reading : Option (Nat × Nat)
  lostRead : Option LostRead
  prime : Option Prime
  lastPrime : Option Half
deriving DecidableEq, Repr

/-! ## Gang agent (07) -/

inductive Role where | leader | follower
deriving DecidableEq, Repr

/-- A waiting entry (R151); `point` none waits for the next cue change to be given a position (R156). -/
structure Waiting where
  entry : VecEntry
  point : Option ShowPos
  urgency : Urgency
deriving DecidableEq, Repr

structure ReportRow where
  present : Bool
  silence : Nat
  last : Option UnitEntry
  taken : Bool
deriving DecidableEq, Repr

structure Gang where
  role : Role
  position : Nat
  size : Nat
  state : GangState
  silence : Nat
  run : Nat
  tickTaken : Bool
  everTick : Bool
  leaderPos : ShowPos
  leaderPrevCue : Option Half
  vector : Oct (Option VecEntry)
  received : Oct (Option VecEntry)
  waiting : Oct (Option Waiting)
  applied : Oct (Option Byte)
  emergency : Oct Bool
  rows : Three ReportRow
  below : List UnitEntry
  relay : Option Tick
deriving DecidableEq, Repr

/-! ## Fault capture (08) -/

/-- The 18 fault kinds, in code order (8.3). -/
inductive FaultKind where
  | rigLinkDown | rigStall | rigPilotLost | rigCorrupt | rigJump | rigDeclared | rigNoStart | stepLost
  | deferralLimit | groupMuted | bedRead | storeProgram | storeErase | sparesExhausted | gangLost | gangLate
  | settingsDefaulted | unitReset
deriving DecidableEq, Repr

inductive FaultOrigin where
  | ra | rb | o1 | o2 | gu | store
  | group (g : Fin 8)
  | unit
  | unitN (n : Nat)
deriving DecidableEq, Repr

inductive ImageReason where | noImage | badCrc | badContent
deriving DecidableEq, Repr

/-- The detail of each kind (8.3's table). -/
inductive FaultDetail where
  | health (h : HealthState)
  | lastSequence (s : Option Half)
  | magnitude (m : Nat)
  | bucket (n : Nat)
  | carried (p : ShowPos)
  | sequence (s : Half)
  | startGrace (n : Nat)
  | skew (s : Option Int)
  | waited (cause : Option Cause) (frames : Nat)
  | source (s : Source)
  | bedRead (clip : Option Nat) (logical page : Nat)
  | program (phys page : Nat)
  | erase (phys : Nat) (page : Option Nat)
  | logical (l : Nat)
  | leaderPos (p : Option ShowPos)
  | gangState (g : Option GangState)
  | order (n : Byte) (p : ShowPos)
  | image (r : ImageReason)
  | pin
  | request
deriving DecidableEq, Repr

/-- The first-fault fields of a locked record. -/
structure FirstFault where
  kind : FaultKind
  origin : FaultOrigin
  pos : ShowPos
  count : Word
  detail : FaultDetail
deriving DecidableEq, Repr

/-- The fault record (8.1). `locked` is `first` being there; the second-fault flag is `later` not being empty (R161). -/
structure FaultRecord where
  first : Option FirstFault
  later : List FaultKind
deriving DecidableEq, Repr

/-! ## Management agent and output framer (09, 10) -/

/-- The request kinds of R178, in code order. -/
inductive ReqKind where
  | identify | readStatus | readHealth | setHealthLimits | requalifyRig | readBadFrame | readFault | clearFault
  | readJournal | writeCue | readCue | deleteCue | listCues | writeRoute | readRoute | commitRoutes | writeGroup
  | readGroup | forceSource | releaseForce | stopProgram | showLock | showUnlock | bedOpen | bedData | bedSeal
  | bedAbort | bedDelete | bedList | bedStatus | saveSettings | writePortGrants | resetUnit
deriving DecidableEq, Repr

/-- R180's completion codes. -/
inductive Completion where
  | done | kept | busy | locked | denied | malformed | outOfRange | notFound | full | notLeader | storeFault
deriving DecidableEq, Repr

inductive RunState where | off | hold | load | gangWait | running
deriving DecidableEq, Repr

/-- The clock source of output periods (R172). -/
inductive Clock where
  | localOsc
  | link (r : Rig)
deriving DecidableEq, Repr

/-- A request in service past its slot (R179). -/
structure Service where
  kind : ReqKind
  tag : Byte
deriving DecidableEq, Repr

inductive EngineState where | idle | program | erase | eraseSuspended
deriving DecidableEq, Repr

/-- BED STATUS (R140). -/
structure BedStatusData where
  engine : EngineState
  job : Option Job
  spares : Nat
  erasedSpares : Nat
  retired : Nat
  backlog : Nat
  scrubQueue : Nat
  erased : Nat
  damaged : Nat
  openClip : Option DirEntry
  saving : Bool
deriving DecidableEq, Repr

/-- The status summary (R111). -/
structure Summary where
  sources : Oct Source
  healthA : HealthState
  stepA : StepState
  healthB : HealthState
  stepB : StepState
  faultLocked : Bool
  showLock : Bool
  bedReady : Bool
  bypass : Bool
  position : Nat
  size : Nat
deriving DecidableEq, Repr

/-- READ STATUS UNIT (R186). -/
structure UnitStatus where
  run : RunState
  bypass : Bool
  clock : Clock
  count : Word
  lock : Bool
  commit : Option CommitTiming
  bedReady : Bool
  saving : Bool
deriving DecidableEq, Repr

/-- READ STATUS PROGRAM (R186); `e` is reported while the program is RUNNING or FREE (R5). -/
structure ProgramStatus where
  state : ProgState
  pos : ShowPos
  due : Option Word
  dInForce : Nat
  e : Option Int
  held : Option HeldAnchor
  anchorPending : Bool
  stopHold : Bool
  grace : Option Nat
  stopMarks : Pair (Option Word)
deriving DecidableEq, Repr

structure RigStatus where
  link : LinkState
  breaks : Nat
  health : HealthState
  step : StepState
  streak : Nat
  miss : Nat
  lastSkew : Option Int
deriving DecidableEq, Repr

structure GangStatus where
  role : Role
  state : GangState
  position : Nat
  size : Nat
  silence : Nat
  run : Nat
  leaderPos : ShowPos
  received : Oct (Option Byte)
  applied : Oct (Option Byte)
  waiting : Oct (Option Waiting)
  emergency : Oct Bool
  rows : Three ReportRow
deriving DecidableEq, Repr

/-- A group's state as a reply shows it: a fade with its progress k beside its start (R65). -/
inductive GroupStateReport where
  | settled (src : Source)
  | fading (origin dest : Source) (len : Nat) (start : Word) (k : Nat) (ret : Bool)
deriving DecidableEq, Repr

/-- A group record as READ GROUP and READ STATUS return it (R65, 4.3). -/
structure GroupReport where
  st : GroupStateReport
  h : Nat
  op : Option SwitchReq
  health : Option SwitchReq
  revert : Option SwitchReq
  timer : Option Nat
  limitReached : Bool
  placed : Option Placed
deriving DecidableEq, Repr

structure PortStatus where
  link : LinkState
  breaks : Nat
  grant : Option Grant
  inService : Bool
  completions : Nat
deriving DecidableEq, Repr

inductive StatusData where
  | unit (u : UnitStatus)
  | program (p : ProgramStatus)
  | rigs (a b : RigStatus) (stamps : Stamps)
  | groups (g0 g1 g2 g3 : GroupReport)
  | gang (g : GangStatus)
  | ports (p : Six PortStatus)
deriving DecidableEq, Repr

/-- What a reply carries past its completion code. -/
inductive ReplyData where
  | none
  | field (n : Nat)
  | staged (s : Bool)
  | firstSector (l : Nat)
  | identity (vendor part revision : Nat) (serial : BitVec 64) (position size : Nat)
  | status (s : StatusData)
  | health (h : HealthRec)
  | capture (c : BadCapture)
  | fault (f : FaultRecord)
  | journal (held : Nat) (newest : Option Half) (entries : List JournalEntry)
  | cue (record : Option CueRecord) (staged : Option StagedAction)
  | cueList (cues : List Nat) (more : Bool) (occupancy : Nat) (staged : Option Nat)
  | routes (entries : List RouteEntry)
  | group (p : GroupPolicy) (g : GroupReport)
  | clips (entries : List DirEntry) (more : Bool) (held : Nat)
  | bedStatus (b : BedStatusData)
deriving DecidableEq, Repr

/-- A REPLY (R179, 9.3). -/
structure Reply where
  addr : Byte
  tag : Byte
  kind : Byte
  code : Completion
  data : ReplyData
deriving DecidableEq, Repr

/-- The reply holders of one port (R169). -/
structure Holders where
  short : List Reply
  completion : List Reply
deriving DecidableEq, Repr

/-- A main frame as the part sends it (9.3). -/
structure MainFrame where
  kind : FrameKind
  stopped : Bool
  declared : Bool
  pilot : Bool
  seq : Half
  pos : ShowPos
  channels : List (List Int)
  role : Byte
  summary : Summary
deriving DecidableEq, Repr

/-- The main-frame part of an outbound slot: a frame of the part's, or the relay's traffic while bypassed. -/
inductive OutMain where
  | frame (f : MainFrame)
  | relay
deriving DecidableEq, Repr

inductive OutSide where
  | reply (r : Reply)
  | tick (t : Tick)
  | report (entries : List UnitEntry)
deriving DecidableEq, Repr

structure OutSlot where
  main : Option OutMain
  side : Option OutSide
deriving DecidableEq, Repr

/-- RESET UNIT taken on a port, and whether the slot of its DONE reply has passed (R185). -/
structure ResetReq where
  port : CtlPort
  sent : Bool
deriving DecidableEq, Repr

/-- The output framer's records. `clock` is the source of the latest output period; the source now is clockNow (R172). -/
structure Framer where
  run : RunState
  holdCount : Nat
  loadCount : Nat
  waitCount : Nat
  pinAsserted : Bool
  count : Word
  clock : Clock
  periodSlot : Option Word
  bypass : Bool
  seqs : Six Half
  holders : Four Holders
  out : Six OutSlot
  resetReq : Option ResetReq
deriving DecidableEq, Repr

structure Mgmt where
  grants : Four Grant
  inService : Four (Option Service)
  lock : Bool
  saveBuffer : Option Settings
deriving DecidableEq, Repr

/-! ## The whole state -/

structure State where
  framer : Framer
  links : Six PortLink
  align : Align
  health : Pair HealthRec
  cues : CueMap
  ctl : Controller
  routes : RouteTable
  store : Store
  player : Player
  gang : Gang
  fault : FaultRecord
  mgmt : Mgmt
  pending : List Instr
deriving DecidableEq, Repr

/-- Why a step stops with a fault. The spec calls no command's behaviour undefined and its "faults" are events of the
fault record, so there is no constructor: no step of this model faults. -/
inductive Fault where
deriving DecidableEq, Repr

/-- Why a step has no meaning. -/
inductive Refusal where
  /-- A command not modelled yet, by its mnemonic; raised by exec's refused arms alone. Safe. No arm uses it now. -/
  | notModelled (mnemonic : String)
deriving DecidableEq, Repr

/-! ## Reset values -/

namespace Reset

def show0 : ShowPos := { cue := 0, pos := 0 }

def link : PortLink := { state := .down, run := 0, expected := none, breaks := 0 }

/-- "Put out of step" (R3). -/
def step : StepRec := { state := .outOfStep, streak := 0, miss := 0, lastSkew := none }

def alignRig : AlignRig := { ring := [], slotCount := 0, stopMark := none, newestAudio := none, step := step }

def program : Program :=
  { state := .stopped, pos := show0, due := none, held := none, anchorPending := false, stopHold := false, grace := none,
    graceSpent := false, dInForce := 12, prevCue := 0, dueSet := false, eSlot := none }

def hard : HardSet :=
  { stall := false, corrupt := false, pilotLost := false, jump := false, declared := false, noStart := false }

def capture : BadCapture :=
  { locked := false, kind := 0, seq := 0, cue := 0, pos := 0, channels := 0, arrival := 0, received := none, computed := none }

/-- The default limits of 2.8. -/
def limits : HealthLimits :=
  { gap := 8, warn := 32, corrupt := 128, pilotChannel := none, pilotFloor := 4096, pilotHold := 40, qualify := 400,
    recovery := 4000, auto := true }

/-- R44. -/
def health : HealthRec :=
  { state := .offline, hard := hard, warn := false, playing := false, gap := 0, repeatStall := false, bucket := 0, pilotCount := 0,
    pilotPeak := 0, ref := none, softJump := none, qual := 0, lastSeq := none, recovery := none, requalifyReady := false, patches := 0,
    capture := capture, limits := limits, event := none }

/-- The default policy of a group (4.2), with F 0 for group 0. -/
def policy (fade : Nat) : GroupPolicy :=
  { fallback := [.a, .b, .bed], operatorLevel := 3, healthLevel := 2, revertLevel := 1, fade := fade, deferral := 8000,
    revertOn := false, revertSettle := 40000, hardAllowed := true, dSet := 12, startGrace := 40, gangLead := 4 }

def policies : Oct GroupPolicy :=
  { g0 := policy 0, g1 := policy 4, g2 := policy 4, g3 := policy 4, g4 := policy 4, g5 := policy 4, g6 := policy 4, g7 := policy 4 }

/-- A group settled on `src` with nothing pending (R98). -/
def group (src : Source) : Group :=
  { st := .settled src, h := 0, op := none, health := none, healthMoved := false, revert := none, timer := none, limitReached := false,
    placed := none }

def groups : Oct Group :=
  { g0 := group .a, g1 := group .a, g2 := group .a, g3 := group .a, g4 := group .a, g5 := group .a, g6 := group .a, g7 := group .a }

def journal : Journal := { entries := [], next := 0 }

def ctl : Controller :=
  { groups := groups, policies := policies, stamps := { a := none, b := none, bed := none }, journal := journal }

/-- The default entry of output channel `n` (5.1). -/
def route (n : Nat) : RouteEntry := { group := 0, rigA := some n, rigB := some n, track := none }

def bank : List RouteEntry := (List.range 64).map route

def routes : RouteTable := { active := bank, shadow := bank, commit := none }

/-- The store with everything the scan rebuilds lost (R141), over given flash contents. -/
def store (flash : List (Nat × FlashSector)) (settings : SettingsSector) : Store :=
  { flash := flash, settings := settings, remap := [], spares := [], relocating := [], retired := [], logical := [], corrected := [],
    dir := [], fill := none, handed := [], clipCopy := none, clipMark := [], sealing := false, sealAfterMark := false,
    dataHeld := false, save := none, scrubQueue := [], scrub := none, scrubErase := none, scrubMark := [], backlog := [],
    backlogFirst := [], backlogWait := none, backlogMark := [], engine := none, orphanTarget := none, readBanks := [] }

/-- The settings sector as manufactured: erased throughout (log 5). -/
def settings : SettingsSector := { pages := [], disturbed := false }

def player : Player := { tracked := none, window := [], reading := none, lostRead := none, prime := none, lastPrime := none }

def octNone (α : Type) : Oct (Option α) :=
  { g0 := none, g1 := none, g2 := none, g3 := none, g4 := none, g5 := none, g6 := none, g7 := none }

def octFalse : Oct Bool :=
  { g0 := false, g1 := false, g2 := false, g3 := false, g4 := false, g5 := false, g6 := false, g7 := false }

/-- R158; its silence count starts at 0 (log 5). -/
def row : ReportRow := { present := false, silence := 0, last := none, taken := false }

/-- R158, with the role the strap gives (R142). -/
def gang (strap : Strap) : Gang :=
  { role := match strap with | .low => .leader | .high => .follower
    position := 0, size := 1
    state := match strap with | .low => .leader | .high => .discovering
    silence := 0, run := 0, tickTaken := false, everTick := false, leaderPos := show0, leaderPrevCue := none,
    vector := octNone VecEntry, received := octNone VecEntry, waiting := octNone Waiting, applied := octNone Byte,
    emergency := octFalse, rows := { u1 := row, u2 := row, u3 := row }, below := [], relay := none }

def fault : FaultRecord := { first := none, later := [] }

def holders : Holders := { short := [], completion := [] }

def outSlot : OutSlot := { main := none, side := none }

def framer (run : RunState) (pin : Bool) : Framer :=
  { run := run, holdCount := 0, loadCount := 0, waitCount := 0, pinAsserted := pin, count := 0, clock := .localOsc, periodSlot := none,
    bypass := true, seqs := { ra := 0, rb := 0, o1 := 0, o2 := 0, gu := 0, gd := 0 },
    holders := { ra := holders, rb := holders, o1 := holders, o2 := holders },
    out := { ra := outSlot, rb := outSlot, o1 := outSlot, o2 := outSlot, gu := outSlot, gd := outSlot }, resetReq := none }

/-- R177's defaults; R187. -/
def mgmt : Mgmt :=
  { grants := { ra := .observe, rb := .observe, o1 := .full, o2 := .full },
    inService := { ra := none, rb := none, o1 := none, o2 := none }, lock := false, saveBuffer := none }

end Reset

/-- Every volatile record at its reset value, in run state `run`, over the store contents that survive (R141), with the journal and
fault record as given (R96, R165). -/
def State.volatileReset (run : RunState) (pin : Bool) (strap : Strap) (flash : List (Nat × FlashSector)) (settings : SettingsSector)
    (journal : Journal) (fault : FaultRecord) (pending : List Instr) : State :=
  { framer := Reset.framer run pin
    links := { ra := Reset.link, rb := Reset.link, o1 := Reset.link, o2 := Reset.link, gu := Reset.link, gd := Reset.link }
    align := { rigs := { a := Reset.alignRig, b := Reset.alignRig }, prog := Reset.program }
    health := { a := Reset.health, b := Reset.health }
    cues := { records := [], staged := none, inUse := none }
    ctl := { Reset.ctl with journal := journal }
    routes := Reset.routes
    store := Reset.store flash settings
    player := Reset.player
    gang := Reset.gang strap
    fault := fault
    mgmt := Reset.mgmt
    pending := pending }

/-- The machine right after power-on: in HOLD, with a store as manufactured and the strap low (log 5). -/
def State.reset : State := State.volatileReset .hold false .low [] Reset.settings Reset.journal Reset.fault []

end Sys2Proof.Machine
end

