-- ==== Sys2Proof/Machine/Ops.lean ====
section
/-! DEFINITION. The named operations every block shares: access to the per-rig, per-port and per-group records, the
updates of each block's record, the sparse tables and the flash memory, the taking of a fault, and the placing of
replies. -/

namespace Sys2Proof

/-! ## Names -/

def Rig.other : Rig → Rig | .a => .b | .b => .a
def Rig.port : Rig → Port | .a => .ra | .b => .rb
def Rig.source : Rig → Source | .a => .a | .b => .b
def Rig.origin : Rig → Machine.FaultOrigin | .a => .ra | .b => .rb
def Source.rig : Source → Option Rig | .a => some .a | .b => some .b | .mute => none | .bed => none
def Port.rig : Port → Option Rig | .ra => some .a | .rb => some .b | _ => none
def Port.ctl : Port → Option CtlPort
  | .ra => some .ra | .rb => some .rb | .o1 => some .o1 | .o2 => some .o2 | .gu => none | .gd => none
def CtlPort.port : CtlPort → Port | .ra => .ra | .rb => .rb | .o1 => .o1 | .o2 => .o2
def CtlPort.origin : CtlPort → Machine.FaultOrigin | .ra => .ra | .rb => .rb | .o1 => .o1 | .o2 => .o2

/-! ## Access -/

def Four.get {α : Type} (p : Four α) : CtlPort → α | .ra => p.ra | .rb => p.rb | .o1 => p.o1 | .o2 => p.o2
def Four.set {α : Type} (p : Four α) (q : CtlPort) (v : α) : Four α :=
  match q with
  | .ra => { p with ra := v } | .rb => { p with rb := v } | .o1 => { p with o1 := v } | .o2 => { p with o2 := v }

def Oct.get {α : Type} (o : Oct α) (g : Fin 8) : α :=
  match g with
  | 0 => o.g0 | 1 => o.g1 | 2 => o.g2 | 3 => o.g3 | 4 => o.g4 | 5 => o.g5 | 6 => o.g6 | 7 => o.g7
def Oct.set {α : Type} (o : Oct α) (g : Fin 8) (v : α) : Oct α :=
  match g with
  | 0 => { o with g0 := v } | 1 => { o with g1 := v } | 2 => { o with g2 := v } | 3 => { o with g3 := v }
  | 4 => { o with g4 := v } | 5 => { o with g5 := v } | 6 => { o with g6 := v } | 7 => { o with g7 := v }
def Oct.map {α β : Type} (f : α → β) (o : Oct α) : Oct β :=
  { g0 := f o.g0, g1 := f o.g1, g2 := f o.g2, g3 := f o.g3, g4 := f o.g4, g5 := f o.g5, g6 := f o.g6, g7 := f o.g7 }
def Oct.all {α : Type} (f : α → Bool) (o : Oct α) : Bool :=
  f o.g0 && f o.g1 && f o.g2 && f o.g3 && f o.g4 && f o.g5 && f o.g6 && f o.g7
def Oct.any {α : Type} (f : α → Bool) (o : Oct α) : Bool :=
  f o.g0 || f o.g1 || f o.g2 || f o.g3 || f o.g4 || f o.g5 || f o.g6 || f o.g7

/-- The request kind that a request with its parameters is of. -/
def Request.kind : Request → Machine.ReqKind
  | .identify => .identify
  | .readStatus _ => .readStatus
  | .readHealth _ => .readHealth
  | .setHealthLimits _ _ => .setHealthLimits
  | .requalifyRig _ => .requalifyRig
  | .readBadFrame _ => .readBadFrame
  | .readFault => .readFault
  | .clearFault => .clearFault
  | .readJournal _ => .readJournal
  | .writeCue _ _ => .writeCue
  | .readCue _ => .readCue
  | .deleteCue _ => .deleteCue
  | .listCues _ => .listCues
  | .writeRoute _ _ _ => .writeRoute
  | .readRoute _ _ _ => .readRoute
  | .commitRoutes _ => .commitRoutes
  | .writeGroup _ _ => .writeGroup
  | .readGroup _ => .readGroup
  | .forceSource _ _ _ _ => .forceSource
  | .releaseForce _ => .releaseForce
  | .stopProgram => .stopProgram
  | .showLock => .showLock
  | .showUnlock => .showUnlock
  | .bedOpen _ _ _ _ => .bedOpen
  | .bedData _ _ _ _ => .bedData
  | .bedSeal _ => .bedSeal
  | .bedAbort _ => .bedAbort
  | .bedDelete _ => .bedDelete
  | .bedList _ => .bedList
  | .bedStatus => .bedStatus
  | .saveSettings => .saveSettings
  | .writePortGrants _ => .writePortGrants
  | .resetUnit => .resetUnit

namespace Machine

def Pair.get {α : Type} (p : Pair α) : Rig → α | .a => p.a | .b => p.b
def Pair.set {α : Type} (p : Pair α) (r : Rig) (v : α) : Pair α :=
  match r with | .a => { p with a := v } | .b => { p with b := v }

def Six.get {α : Type} (p : Six α) : Port → α
  | .ra => p.ra | .rb => p.rb | .o1 => p.o1 | .o2 => p.o2 | .gu => p.gu | .gd => p.gd
def Six.set {α : Type} (p : Six α) (q : Port) (v : α) : Six α :=
  match q with
  | .ra => { p with ra := v } | .rb => { p with rb := v } | .o1 => { p with o1 := v }
  | .o2 => { p with o2 := v } | .gu => { p with gu := v } | .gd => { p with gd := v }

/-- The groups in the order the controller takes them (R71). -/
def allGroups : List (Fin 8) := [0, 1, 2, 3, 4, 5, 6, 7]

def Three.get {α : Type} (t : Three α) (n : Fin 3) : α := match n with | 0 => t.u1 | 1 => t.u2 | 2 => t.u3
def Three.set {α : Type} (t : Three α) (n : Fin 3) (v : α) : Three α :=
  match n with | 0 => { t with u1 := v } | 1 => { t with u2 := v } | 2 => { t with u3 := v }

/-! ## One update per block -/

namespace State

def setFramer (s : State) (v : Framer) : State := { s with framer := v }
def setLinks (s : State) (v : Six PortLink) : State := { s with links := v }
def setAlign (s : State) (v : Align) : State := { s with align := v }
def setHealth (s : State) (v : Pair HealthRec) : State := { s with health := v }
def setCues (s : State) (v : CueMap) : State := { s with cues := v }
def setCtl (s : State) (v : Controller) : State := { s with ctl := v }
def setRoutes (s : State) (v : RouteTable) : State := { s with routes := v }
def setStore (s : State) (v : Store) : State := { s with store := v }
def setPlayer (s : State) (v : Player) : State := { s with player := v }
def setGang (s : State) (v : Gang) : State := { s with gang := v }
def setFault (s : State) (v : FaultRecord) : State := { s with fault := v }
def setMgmt (s : State) (v : Mgmt) : State := { s with mgmt := v }
def setPending (s : State) (v : List Instr) : State := { s with pending := v }

def setLink (s : State) (p : Port) (v : PortLink) : State := s.setLinks (s.links.set p v)
def setAlignRig (s : State) (r : Rig) (v : AlignRig) : State := s.setAlign { s.align with rigs := s.align.rigs.set r v }
def setProg (s : State) (v : Program) : State := s.setAlign { s.align with prog := v }
def setStep (s : State) (r : Rig) (v : StepRec) : State := s.setAlignRig r { s.align.rigs.get r with step := v }
def setRigHealth (s : State) (r : Rig) (v : HealthRec) : State := s.setHealth (s.health.set r v)
def setGroup (s : State) (g : Fin 8) (v : Group) : State := s.setCtl { s.ctl with groups := s.ctl.groups.set g v }
def setStamps (s : State) (v : Stamps) : State := s.setCtl { s.ctl with stamps := v }

def group (s : State) (g : Fin 8) : Group := s.ctl.groups.get g
def policy (s : State) (g : Fin 8) : GroupPolicy := s.ctl.policies.get g
def prog (s : State) : Program := s.align.prog
def rig (s : State) (r : Rig) : AlignRig := s.align.rigs.get r
def monitor (s : State) (r : Rig) : HealthRec := s.health.get r

end State

/-! ## Sparse tables: strictly rising keys, no entry at its default -/

def Sparse.get {α : Type} (d : Nat → α) (k : Nat) : List (Nat × α) → α
  | [] => d k
  | (j, v) :: m => if j = k then v else Sparse.get d k m

def Sparse.insert {α : Type} (k : Nat) (v : α) : List (Nat × α) → List (Nat × α)
  | [] => [(k, v)]
  | (j, w) :: m => if k < j then (k, v) :: (j, w) :: m else if k = j then (k, v) :: m else (j, w) :: Sparse.insert k v m

def Sparse.erase {α : Type} (k : Nat) (m : List (Nat × α)) : List (Nat × α) := m.filter (fun e => decide (e.1 ≠ k))

/-- Writing the default removes the entry, so equal tables are equal lists. -/
def Sparse.put {α : Type} [DecidableEq α] (d : Nat → α) (k : Nat) (v : α) (m : List (Nat × α)) : List (Nat × α) :=
  if v = d k then Sparse.erase k m else Sparse.insert k v m

/-- Keys strictly above `lo` and strictly rising, no entry at its default. -/
def Sparse.wfAbove {α : Type} [DecidableEq α] (d : Nat → α) : Option Nat → List (Nat × α) → Bool
  | _, [] => true
  | lo, (k, v) :: m =>
    (match lo with | none => true | some l => decide (l < k)) && decide (v ≠ d k) && Sparse.wfAbove d (some k) m

/-! ## The flash memory (06 6.1) -/

/-- A sector erased throughout: what an unlisted sector is. -/
def blankSector : FlashSector :=
  { header := none, sealMarker := false, retire := false, pages := [], touched := false, disturbed := false }

def Memory.read (m : List (Nat × FlashSector)) (p : Nat) : FlashSector := Sparse.get (fun _ => blankSector) p m
def Memory.write (m : List (Nat × FlashSector)) (p : Nat) (v : FlashSector) : List (Nat × FlashSector) :=
  Sparse.put (fun _ => blankSector) p v m
/-- The canonical form of the flash. -/
def Memory.wf (m : List (Nat × FlashSector)) : Bool := Sparse.wfAbove (fun _ => blankSector) none m

/-! ## Sources and rigs -/

/-- R66: a group's current source. -/
def GroupState.current : GroupState → Source
  | .settled s => s
  | .fading _ d _ _ _ => d

/-- R36, R19: the group is settled on the rig or fades from or to it. -/
def GroupState.uses (r : Rig) : GroupState → Bool
  | .settled s => s == Rig.source r
  | .fading o d _ _ _ => o == Rig.source r || d == Rig.source r

def State.usedBy (s : State) (r : Rig) : Bool := s.ctl.groups.any (fun g => g.st.uses r)

/-- R6. -/
def State.timingSource (s : State) : Source := s.ctl.groups.g0.st.current
def State.timingRig (s : State) : Option Rig := Source.rig s.timingSource

/-- R20: the timing rig's step state reads IN STEP. -/
def State.stepOf (s : State) (r : Rig) : StepState :=
  if s.timingRig = some r then .inStep else (s.rig r).step.state

/-- R174: the blocks that wait for the tables act from GANG WAIT on. -/
def State.acting (s : State) : Bool := s.framer.run == .gangWait || s.framer.run == .running

def State.isUp (s : State) (p : Port) : Bool := (s.links.get p).state == .up

/-- The program position is kept while RUNNING or FREE. -/
def State.playing (s : State) : Bool := s.prog.state == .running || s.prog.state == .free

/-- R5: the running delay. From an anchor to the next output period the anchor's own slot stands for the period slot (log 58). -/
def State.delayE (s : State) : Int :=
  match s.prog.eSlot.or s.framer.periodSlot, s.prog.due with
  | some k, some d => Word.diff k d
  | _, _ => 0

/-! ## Fault capture (R159 to R161) -/

def FaultKind.code : FaultKind → Nat
  | .rigLinkDown => 1 | .rigStall => 2 | .rigPilotLost => 3 | .rigCorrupt => 4 | .rigJump => 5 | .rigDeclared => 6
  | .rigNoStart => 7 | .stepLost => 8 | .deferralLimit => 9 | .groupMuted => 10 | .bedRead => 11 | .storeProgram => 12
  | .storeErase => 13 | .sparesExhausted => 14 | .gangLost => 15 | .gangLate => 16 | .settingsDefaulted => 17 | .unitReset => 18

/-- A kind joins the set once; the list is kept in ascending code (R162). -/
def FaultKind.join (k : FaultKind) : List FaultKind → List FaultKind
  | [] => [k]
  | j :: m => if k.code < j.code then k :: j :: m else if k.code = j.code then j :: m else j :: FaultKind.join k m

def FaultRecord.locked (f : FaultRecord) : Bool := f.first.isSome
/-- R161: set exactly while the later-kinds set is not empty. -/
def FaultRecord.second (f : FaultRecord) : Bool := !f.later.isEmpty

/-- R159, R161: a fault reaches the record. -/
def FaultRecord.take (f : FaultRecord) (x : FirstFault) : FaultRecord :=
  match f.first with
  | none => { f with first := some x }
  | some _ => { f with later := x.kind.join f.later }

/-- R160: a fault is stamped with the position and count held when it is taken. -/
def State.raise (s : State) (k : FaultKind) (o : FaultOrigin) (d : FaultDetail) : State :=
  s.setFault (s.fault.take { kind := k, origin := o, pos := s.prog.pos, count := s.framer.count, detail := d })

/-! ## Requests and replies (R178 to R180) -/

def ReqKind.code : ReqKind → Nat
  | .identify => 1 | .readStatus => 2 | .readHealth => 3 | .setHealthLimits => 4 | .requalifyRig => 5 | .readBadFrame => 6
  | .readFault => 7 | .clearFault => 8 | .readJournal => 9 | .writeCue => 10 | .readCue => 11 | .deleteCue => 12
  | .listCues => 13 | .writeRoute => 14 | .readRoute => 15 | .commitRoutes => 16 | .writeGroup => 17 | .readGroup => 18
  | .forceSource => 19 | .releaseForce => 20 | .stopProgram => 21 | .showLock => 22 | .showUnlock => 23 | .bedOpen => 24
  | .bedData => 25 | .bedSeal => 26 | .bedAbort => 27 | .bedDelete => 28 | .bedList => 29 | .bedStatus => 30
  | .saveSettings => 31 | .writePortGrants => 32 | .resetUnit => 33

def allReqKinds : List ReqKind :=
  [.identify, .readStatus, .readHealth, .setHealthLimits, .requalifyRig, .readBadFrame, .readFault, .clearFault, .readJournal,
   .writeCue, .readCue, .deleteCue, .listCues, .writeRoute, .readRoute, .commitRoutes, .writeGroup, .readGroup, .forceSource,
   .releaseForce, .stopProgram, .showLock, .showUnlock, .bedOpen, .bedData, .bedSeal, .bedAbort, .bedDelete, .bedList, .bedStatus,
   .saveSettings, .writePortGrants, .resetUnit]

def ReqKind.ofCode (b : Byte) : Option ReqKind := allReqKinds.find? (fun k => k.code == b.toNat)

/-- R178, column "Read". -/
def ReqKind.isRead : ReqKind → Bool
  | .identify | .readStatus | .readHealth | .readBadFrame | .readFault | .readJournal | .readCue | .listCues | .readRoute
  | .readGroup | .bedList | .bedStatus => true
  | _ => false

/-- R178, column "Address 15". -/
def ReqKind.farEnd : ReqKind → Bool
  | .identify | .readStatus | .readHealth | .readFault | .readJournal | .readCue | .listCues | .readRoute
  | .readGroup | .bedList | .bedStatus => true
  | _ => false

/-- R178, column "Under lock": LOCKED (R182). -/
def ReqKind.underLock : ReqKind → Bool
  | .setHealthLimits | .writeRoute | .commitRoutes | .writeGroup | .bedOpen | .bedData | .bedSeal | .bedAbort | .bedDelete
  | .writePortGrants | .resetUnit => true
  | _ => false

/-- R181: the requests taken before GANG WAIT. -/
def ReqKind.early : ReqKind → Bool
  | .identify | .readStatus | .readHealth | .readBadFrame | .readFault | .clearFault | .readJournal | .resetUnit => true
  | _ => false

def State.holders (s : State) (p : CtlPort) : Holders := s.framer.holders.get p
def State.setHolders (s : State) (p : CtlPort) (v : Holders) : State :=
  s.setFramer { s.framer with holders := s.framer.holders.set p v }

/-- R179: the address of a reply is this unit's gang position. -/
def State.reply (s : State) (tag : Byte) (kind : Byte) (code : Completion) (data : ReplyData) : Reply :=
  { addr := BitVec.ofNat 8 s.gang.position, tag := tag, kind := kind, code := code, data := data }

/-- R179: a short reply goes to the port's short holder. -/
def State.answerKind (s : State) (h : CtlHead) (kind : Byte) (code : Completion) (data : ReplyData) : State :=
  s.setHolders h.port { s.holders h.port with short := (s.holders h.port).short ++ [s.reply h.tag kind code data] }

def State.answer (s : State) (h : CtlHead) (k : ReqKind) (code : Completion) (data : ReplyData) : State :=
  s.answerKind h (BitVec.ofNat 8 k.code) code data

def State.setService (s : State) (p : CtlPort) (v : Option Service) : State :=
  s.setMgmt { s.mgmt with inService := s.mgmt.inService.set p v }

/-- R179: a long request is accepted and is in service. -/
def State.accept (s : State) (h : CtlHead) (k : ReqKind) : State :=
  s.setService h.port (some { kind := k, tag := h.tag })

/-- R179: a long request ends, and its completion reply is placed in the port's completion holder. -/
def State.complete (s : State) (p : CtlPort) (code : Completion) : State :=
  match s.mgmt.inService.get p with
  | none => s
  | some q =>
    (s.setHolders p { s.holders p with
        completion := (s.holders p).completion ++ [s.reply q.tag (BitVec.ofNat 8 q.kind.code) code .none] }).setService p none

/-- R179: a port whose completion queue is full takes no request that would be long. -/
def State.completionFull (s : State) (p : CtlPort) : Bool :=
  decide (Config.completionQueue ≤ (s.holders p).completion.length)

end Machine
end Sys2Proof
end

