-- ==== Sys2Proof/Machine/Operands.lean ====
section
/-! DEFINITION. The operand forms: main frames and side frames as bytes on the line, their checks (R167, R168), the
CRC-32, and the bytes of what the part sends (9.3). -/

namespace Sys2Proof

/-- R63's codes. -/
def Source.code : Source → Nat | .mute => 0 | .a => 1 | .b => 2 | .bed => 3
/-- R111's codes. -/
def HealthState.code : HealthState → Nat
  | .offline => 0 | .qualifying => 1 | .stopped => 2 | .healthy => 3 | .suspect => 4 | .failed => 5
def StepState.code : StepState → Nat | .outOfStep => 0 | .drifting => 1 | .inStep => 2

namespace Machine

/-! ## CRC-32 (9.3) -/

/-- One bit into the register, generator 0x04C11DB7. -/
def crcBit (reg : Word) (bit : Bool) : Word :=
  if Bool.xor (reg.getLsbD 31) bit then (reg <<< 1) ^^^ 0x04C11DB7#32 else reg <<< 1

/-- One byte, least significant bit first. -/
def crcByte (reg : Word) (b : Byte) : Word :=
  [0, 1, 2, 3, 4, 5, 6, 7].foldl (fun r i => crcBit r (b.getLsbD i)) reg

/-- The register with its bits in the opposite order. -/
def reflect32 (w : Word) : Word :=
  (List.range 32).foldl (fun r i => (r <<< 1) ||| (if w.getLsbD i then 1#32 else 0#32)) 0#32

/-- Initial register 0xFFFFFFFF; reflected and complemented at the end. -/
def crc32 (bytes : List Byte) : Word := ~~~ (reflect32 (bytes.foldl crcByte 0xFFFFFFFF#32))

/-! ## Fields, most significant byte first -/

def byteAt (bs : List Byte) (i : Nat) : Byte := bs.getD i 0
def halfAt (bs : List Byte) (i : Nat) : Half := byteAt bs i ++ byteAt bs (i + 1)
def wordAt (bs : List Byte) (i : Nat) : Word := halfAt bs i ++ halfAt bs (i + 2)
def wordBytes (w : Word) : List Byte :=
  [w.extractLsb' 24 8, w.extractLsb' 16 8, w.extractLsb' 8 8, w.extractLsb' 0 8]
def halfBytes (w : Half) : List Byte := [w.extractLsb' 8 8, w.extractLsb' 0 8]

/-- A 24-bit two's complement sample. -/
def sampleAt (bs : List Byte) (i : Nat) : Int := BitVec.toInt (byteAt bs i ++ halfAt bs (i + 1))
def sampleBytes (x : Int) : List Byte :=
  let w := BitVec.ofInt 24 x
  [w.extractLsb' 16 8, w.extractLsb' 8 8, w.extractLsb' 0 8]

/-- `n` samples of three bytes each. -/
def samplesOf : Nat → List Byte → List Int
  | 0, _ => []
  | n + 1, bs => sampleAt bs 0 :: samplesOf n (bs.drop 3)

/-- `n` channels of 12 samples each. -/
def channelsOf : Nat → List Byte → List (List Int)
  | 0, _ => []
  | n + 1, bs => samplesOf 12 bs :: channelsOf n (bs.drop 36)

/-! ## Main frames in (R167) -/

/-- A main frame that passed every check. -/
structure InFrame where
  kind : FrameKind
  stopped : Bool
  declared : Bool
  pilot : Bool
  seq : Half
  pos : ShowPos
  count : Nat
  channels : List (List Int)
deriving DecidableEq, Repr

/-- A discarded main frame: the bytes that arrived and the two CRCs (R40, R167). -/
structure Discard where
  bytes : List Byte
  received : Word
  computed : Word
deriving DecidableEq, Repr

inductive SlotOutcome where
  | valid (f : InFrame)
  | discarded (d : Discard)
deriving DecidableEq, Repr

/-- The received CRC: the last four bytes, or 0 where fewer arrived. -/
def lastCrc (bs : List Byte) : Word := if bs.length < 4 then 0 else wordAt bs (bs.length - 4)
def crcBody (bs : List Byte) : List Byte := bs.take (bs.length - 4)

/-- Step 1: whole, at least a header and a CRC, and as long as the channel count calls for. -/
def mainWhole (f : RawFrame) : Bool :=
  f.marks && decide (24 ≤ f.bytes.length) && decide (f.bytes.length = 24 + 36 * (byteAt f.bytes 10).toNat)
/-- Step 2. -/
def crcGood (bs : List Byte) : Bool := crc32 (crcBody bs) == lastCrc bs
/-- Steps 3 and 4: the kind, with the channel counts it admits. -/
def mainKind (bs : List Byte) : Option FrameKind :=
  if byteAt bs 0 = 0 then (if (byteAt bs 10).toNat = 0 then some .idle else none)
  else if byteAt bs 0 = 1 then
    (if 1 ≤ (byteAt bs 10).toNat ∧ (byteAt bs 10).toNat ≤ 64 then some .audio else none)
  else none

def readMain (k : FrameKind) (bs : List Byte) : InFrame :=
  { kind := k, stopped := (byteAt bs 1).getLsbD 0, declared := (byteAt bs 1).getLsbD 1, pilot := (byteAt bs 1).getLsbD 2,
    seq := halfAt bs 2, pos := { cue := halfAt bs 4, pos := wordAt bs 6 }, count := (byteAt bs 10).toNat,
    channels := channelsOf (byteAt bs 10).toNat (bs.drop 20) }

def discardOf (bs : List Byte) : SlotOutcome :=
  .discarded { bytes := bs, received := lastCrc bs, computed := crc32 (crcBody bs) }

/-- R167's four steps; a slot without a main frame is a discarded frame with no bytes. -/
def checkMain : Option RawFrame → SlotOutcome
  | none => discardOf []
  | some f =>
    if mainWhole f && crcGood f.bytes then
      match mainKind f.bytes with
      | some k => .valid (readMain k f.bytes)
      | none => discardOf f.bytes
    else discardOf f.bytes

/-! ## Side frames in (R168) -/

/-- A side frame that passed: its kind (2 to 5) and body bytes. -/
structure InSide where
  kind : Nat
  body : List Byte
deriving DecidableEq, Repr

def checkSide (f : RawFrame) : Option InSide :=
  let n := (byteAt f.bytes 1).toNat
  if f.marks ∧ n ≤ 240 ∧ f.bytes.length = n + 6 ∧ crcGood f.bytes = true ∧ 2 ≤ (byteAt f.bytes 0).toNat ∧ (byteAt f.bytes 0).toNat ≤ 5
  then some { kind := (byteAt f.bytes 0).toNat, body := (f.bytes.drop 2).take n }
  else none

/-! ## Frames out (9.3) -/

def nibbles (hi lo : Nat) : Byte := BitVec.ofNat 8 (hi * 16 + lo)

def bitIf (b : Bool) (n : Nat) : Nat := if b then n else 0

/-- The eight bytes of the status summary. -/
def Summary.toBytes (m : Summary) : List Byte :=
  [nibbles m.sources.g0.code m.sources.g1.code, nibbles m.sources.g2.code m.sources.g3.code,
   nibbles m.sources.g4.code m.sources.g5.code, nibbles m.sources.g6.code m.sources.g7.code,
   nibbles m.healthA.code m.stepA.code, nibbles m.healthB.code m.stepB.code,
   BitVec.ofNat 8 (bitIf m.faultLocked 1 + bitIf m.showLock 2 + bitIf m.bedReady 4 + bitIf m.bypass 8),
   nibbles m.position m.size]

/-- A frame's bytes closed by its CRC-32. -/
def closeCrc (bs : List Byte) : List Byte := bs ++ wordBytes (crc32 bs)

def FrameKind.code : FrameKind → Byte | .idle => 0 | .audio => 1

/-- The main frame header and payload of section 9.3. -/
def MainFrame.toBytes (f : MainFrame) : List Byte :=
  closeCrc ([f.kind.code, BitVec.ofNat 8 (bitIf f.stopped 1 + bitIf f.declared 2 + bitIf f.pilot 4)] ++ halfBytes f.seq
    ++ halfBytes f.pos.cue ++ wordBytes f.pos.pos ++ [BitVec.ofNat 8 f.channels.length, f.role] ++ f.summary.toBytes
    ++ f.channels.flatMap (fun c => c.flatMap sampleBytes))

/-- A side frame of section 9.3 around a body. -/
def sideBytes (kind : Nat) (body : List Byte) : List Byte :=
  closeCrc ([BitVec.ofNat 8 kind, BitVec.ofNat 8 body.length] ++ body)

/-- R180's codes. -/
def Completion.code : Completion → Nat
  | .done => 0 | .kept => 1 | .busy => 2 | .locked => 3 | .denied => 4 | .malformed => 5 | .outOfRange => 6 | .notFound => 7
  | .full => 8 | .notLeader => 9 | .storeFault => 10

/-- The head of a REPLY body; the bytes of the data past it are not laid out by the spec (log 10). -/
def Reply.headBytes (r : Reply) : List Byte := [r.addr, r.tag, r.kind, BitVec.ofNat 8 r.code.code]

end Machine
end Sys2Proof
end

