-- ==== Sys2Proof/Machine/Flags.lean ====
section
/-! DEFINITION. The conditions and flags that blocks read in one another: the policy in use, the bed player's
readiness, gang health and gang step, the status summary and the role of a return frame. -/

namespace Sys2Proof.Machine

/-! ## Cue policy (R47, R48, R54) -/

/-- R47: the policy of a cue with no record. -/
def defaultPolicy : CuePolicy :=
  { length := none, framesPerBeat := 0, beatOffset := 0, zones := [], clip := none, bedStart := 0, revertAllowed := true,
    bedAllowed := false }

def CueMap.record (m : CueMap) (c : Nat) : Option CueRecord := m.records.find? (fun r => r.cue == c)

/-- R47: a lookup of cue `c`. -/
def CueMap.lookup (m : CueMap) (c : Nat) : CuePolicy :=
  match m.record c with
  | some r => r.policy
  | none => defaultPolicy

/-- R54: the policy in use; the default while there is no cue in use. -/
def State.policyInUse (s : State) : CuePolicy :=
  match s.cues.inUse with
  | some c => s.cues.lookup c
  | none => defaultPolicy

/-- R56: position `p` is a switch position under a policy. -/
def CuePolicy.switchPosition (p : CuePolicy) (x : Nat) : Bool :=
  (p.framesPerBeat == 0 || (decide (p.beatOffset ≤ x) && (x - p.beatOffset) % p.framesPerBeat == 0))
    && p.zones.all (fun z => decide (x < z.1) || decide (z.2 ≤ x))
    && (match p.length with | none => true | some n => decide (x < n))

/-! ## Clip directory and bed player (R119, R135, R137) -/

def Store.clip (t : Store) (id : Nat) : Option DirEntry := t.dir.find? (fun e => e.id == id)

/-- R135: SEALED or DAMAGED. -/
def DirEntry.playable (e : DirEntry) : Bool := e.state == .sealed || e.state == .damaged

/-- R135: the effective frame of a clip offset. -/
def DirEntry.effective (e : DirEntry) (off : Int) : Option Nat :=
  if off < 0 then none
  else if off.toNat < e.length then some off.toNat
  else if 0 < e.loopLength then some (e.loopStart + (off.toNat - e.loopStart) % e.loopLength)
  else none

/-- R135: the clip offset of the program position. -/
def State.clipOffset (s : State) (bedStart : Nat) : Int := (s.prog.pos.pos.toNat : Int) - (bedStart : Int)

def holdsPage (slots : List PageSlot) (clip page : Nat) : Bool := slots.any (fun x => x.clip == clip && x.page == page)

/-- R137. -/
def State.bedReady (s : State) : Bool :=
  match s.player.tracked with
  | none => false
  | some (clip, start) =>
    match s.store.clip clip with
    | none => false
    | some e =>
      match e.effective (s.clipOffset start) with
      | none => true
      | some f => holdsPage s.player.window clip (f / 16)

/-! ## Gang health and gang step (R149) -/

/-- R149's ranking from worst; FAILED stands before OFFLINE, so that it is the result when both occur. -/
def HealthState.rank : HealthState → Nat
  | .failed => 0 | .offline => 1 | .stopped => 2 | .qualifying => 3 | .suspect => 4 | .healthy => 5

def HealthState.worse (x y : HealthState) : HealthState := if HealthState.rank y < HealthState.rank x then y else x

def StepState.worse (x y : StepState) : StepState := if y.code < x.code then y else x

def UnitEntry.healthOf (e : UnitEntry) : Rig → HealthState | .a => e.healthA | .b => e.healthB
def UnitEntry.stepOf (e : UnitEntry) : Rig → StepState | .a => e.stepA | .b => e.stepB

/-- The last entries of a leader's present rows. -/
def Gang.presentEntries (g : Gang) : List UnitEntry :=
  [g.rows.u1, g.rows.u2, g.rows.u3].filterMap (fun r => if r.present then r.last else none)

/-- R148: present rows. -/
def Gang.presentCount (g : Gang) : Nat := ([g.rows.u1, g.rows.u2, g.rows.u3].filter (fun r => r.present)).length

/-- A leader with at least one present follower. -/
def State.leadsFollowers (s : State) : Bool := s.gang.role == .leader && decide (0 < s.gang.presentCount)

/-- The health and step the switch controller reads of a rig (R149). -/
def State.ctlHealth (s : State) (r : Rig) : HealthState :=
  if s.leadsFollowers then s.gang.presentEntries.foldl (fun x e => HealthState.worse x (UnitEntry.healthOf e r)) (s.monitor r).state
  else (s.monitor r).state

def State.ctlStep (s : State) (r : Rig) : StepState :=
  if s.leadsFollowers then s.gang.presentEntries.foldl (fun x e => StepState.worse x (UnitEntry.stepOf e r)) (s.stepOf r)
  else s.stepOf r

/-! ## Status summary (R111) and role (R171) -/

def State.summary (s : State) : Summary :=
  { sources := s.ctl.groups.map (fun g => g.st.current)
    healthA := (s.monitor .a).state, stepA := s.stepOf .a, healthB := (s.monitor .b).state, stepB := s.stepOf .b
    faultLocked := s.fault.locked, showLock := s.mgmt.lock, bedReady := s.bedReady, bypass := s.framer.bypass
    position := s.gang.position, size := s.gang.size }

/-- R171's role of a rig, the first row that holds. -/
def State.role (s : State) (r : Rig) : Byte :=
  if (s.monitor r).state = .failed then 5
  else if s.timingRig = some r then 1
  else if s.usedBy r then 2
  else if (s.monitor r).state = .stopped then 4
  else 3

/-! ## Store operations held (R124) -/

/-- The WRITING clip, of which there is at most one (R119). -/
def Store.writing (t : Store) : Option DirEntry := t.dir.find? (fun e => e.state == .writing)

def isStoreKind : ReqKind → Bool
  | .saveSettings | .bedData | .bedSeal => true
  | _ => false

/-- R124: a port holds a store operation. -/
def State.holdsStore (s : State) (p : CtlPort) : Bool :=
  (match s.store.writing with | some e => e.writer == p | none => false)
    || (match s.mgmt.inService.get p with | some q => isStoreKind q.kind | none => false)

def allCtlPorts : List CtlPort := [.ra, .rb, .o1, .o2]

def State.otherHoldsStore (s : State) (p : CtlPort) : Bool := allCtlPorts.any (fun q => decide (q ≠ p) && s.holdsStore q)

end Sys2Proof.Machine
end

