-- ==== Sys2Proof/Machine/Health.lean ====
section
/-! DEFINITION. Rig health monitoring (02, R23 to R44): slot outcomes, hard and soft conditions, the health states,
recovery, qualification, the bad-frame capture and the limits. -/

namespace Sys2Proof.Machine

/-! ## Hard conditions -/

def HardSet.get (h : HardSet) : HardCond → Bool
  | .stall => h.stall | .corrupt => h.corrupt | .pilotLost => h.pilotLost | .jump => h.jump | .declared => h.declared
  | .noStart => h.noStart

def HardSet.set (h : HardSet) (c : HardCond) (b : Bool) : HardSet :=
  match c with
  | .stall => { h with stall := b } | .corrupt => { h with corrupt := b } | .pilotLost => { h with pilotLost := b }
  | .jump => { h with jump := b } | .declared => { h with declared := b } | .noStart => { h with noStart := b }

def HardSet.isEmpty (h : HardSet) : Bool :=
  !h.stall && !h.corrupt && !h.pilotLost && !h.jump && !h.declared && !h.noStart

/-- The table after R38: the fault of each condition. -/
def HardCond.fault : HardCond → FaultKind
  | .stall => .rigStall | .corrupt => .rigCorrupt | .pilotLost => .rigPilotLost | .jump => .rigJump | .declared => .rigDeclared
  | .noStart => .rigNoStart

/-- R27: a soft condition holds. -/
def HealthRec.soft (m : HealthRec) : Bool := m.warn || m.softJump.isSome

def HealthRec.graded (m : HealthRec) : Bool := m.state == .stopped || m.state == .healthy || m.state == .suspect

namespace State

/-- R69: the good-since stamp of a rig becomes none. -/
def clearStamp (s : State) (r : Rig) : State :=
  s.setStamps (match r with | .a => { s.ctl.stamps with a := none } | .b => { s.ctl.stamps with b := none })

/-- R30: a change of health state raises a health-change event, which the controller takes at once (R72). -/
def healthChange (s : State) (r : Rig) (after : HealthState) (reason : HealthReason) : State :=
  let m := s.monitor r
  if m.state = after then s
  else
    let s1 := s.setRigHealth r { m with state := after, event := some { before := m.state, after := after, reason := reason } }
    if m.state = .healthy then s1.clearStamp r else s1

/-- R28: a hard condition becomes set. -/
def setHard (s : State) (r : Rig) (c : HardCond) (d : FaultDetail) : State :=
  let m := s.monitor r
  if m.state = .offline ∨ m.hard.get c = true then s
  else
    let s1 := (s.setRigHealth r { m with hard := m.hard.set c true }).raise c.fault (Rig.origin r) d
    let m1 := s1.monitor r
    if m.state = .failed then s1.setRigHealth r { m1 with recovery := none, requalifyReady := false }
    else (s1.setRigHealth r { m1 with qual := 0 }).healthChange r .failed (.hard c)

/-- R28: clearing removes the condition and does not change the health state. -/
def clearHard (s : State) (r : Rig) (c : HardCond) : State :=
  s.setRigHealth r { s.monitor r with hard := (s.monitor r).hard.set c false }

/-- R29: the recovery hold starts at the event that clears the last condition of a FAILED rig; `before` says whether a
condition held before the event. -/
def startRecovery (s : State) (r : Rig) (before : Bool) : State :=
  let m := s.monitor r
  if m.state = .failed ∧ m.hard.isEmpty = true ∧ before = true then s.setRigHealth r { m with recovery := some m.limits.recovery }
  else s

/-- R27: a qualified rig is graded anew; `k` is the frame kind the event names. WARN is the reason when the soft JUMP holds too (log 41). -/
def regrade (s : State) (r : Rig) (k : FrameKind) : State :=
  let m := s.monitor r
  if m.graded = false then s
  else if m.playing = false then s.healthChange r .stopped (.frame k)
  else if m.soft = true then s.healthChange r .suspect (if m.warn then .warn else .jump)
  else s.healthChange r .healthy (.frame k)

/-! ## The monitors (R31 to R38) -/

/-- R32: the fault record is locked on this rig's RIG STALL. -/
def lockedOnStall (s : State) (r : Rig) : Bool :=
  match s.fault.first with
  | some x => x.kind == .rigStall && x.origin == Rig.origin r
  | none => false

/-- R31, R32: the gap timer reaches the gap limit. -/
def stallReached (s : State) (r : Rig) : State :=
  let again := s.lockedOnStall r
  let m := s.monitor r
  let s1 := if again then s.setRigHealth r { m with repeatStall := true } else s
  if m.hard.stall then
    (if again then s1.raise .rigStall (Rig.origin r) (.lastSequence m.lastSeq) else s1)
  else s1.setHard r .stall (.lastSequence m.lastSeq)

/-- R31: the gap timer at a slot outcome. -/
def gapSlot (s : State) (r : Rig) (live : Bool) : State :=
  let m := s.monitor r
  if live then (s.setRigHealth r { m with gap := 0 }).clearHard r .stall
  else
    let g := min 400 (m.gap + 1)
    let s1 := s.setRigHealth r { m with gap := g }
    if m.limits.gap ≤ g ∧ (m.gap < m.limits.gap ∨ m.hard.stall = false) then s1.stallReached r else s1

/-- R33: the CRC bucket at a slot outcome, WARN and CORRUPT. -/
def bucketSlot (s : State) (r : Rig) (valid : Bool) : State :=
  let m := s.monitor r
  let b := if valid then m.bucket - 1 else min 1024 (m.bucket + 16)
  let s1 := s.setRigHealth r { m with bucket := b, warn := decide (m.limits.warn ≤ b) }
  if m.limits.corrupt ≤ b then s1.setHard r .corrupt (.bucket b)
  else if b < m.limits.warn then s1.clearHard r .corrupt
  else s1

/-- R34: the largest absolute value among a channel's samples; 0 for a channel the frame does not carry. -/
def pilotMagnitude (f : InFrame) (c : Nat) : Nat := ((f.channels.getD c []).map Int.natAbs).foldl max 0

def carriesPilot (m : HealthRec) (f : InFrame) (c : Nat) : Bool :=
  f.pilot && decide (c < f.count) && decide (m.limits.pilotFloor ≤ pilotMagnitude f c)

/-- R34: the pilot hold count reaches the pilot hold. -/
def pilotReached (s : State) (r : Rig) : State := s.setHard r .pilotLost (.magnitude (s.monitor r).pilotPeak)

/-- R34: the pilot check at a valid frame. -/
def pilotSlot (s : State) (r : Rig) (f : InFrame) : State :=
  let m := s.monitor r
  match m.limits.pilotChannel with
  | none => (s.setRigHealth r { m with pilotCount := 0, pilotPeak := 0 }).clearHard r .pilotLost
  | some c =>
    match f.kind with
    | .idle => s.setRigHealth r { m with pilotCount := 0, pilotPeak := 0 }
    | .audio =>
      if carriesPilot m f c then (s.setRigHealth r { m with pilotCount := 0, pilotPeak := 0 }).clearHard r .pilotLost
      else
        let n := min 4000 (m.pilotCount + 1)
        let s1 := s.setRigHealth r { m with pilotCount := n, pilotPeak := max m.pilotPeak (pilotMagnitude f c) }
        if m.limits.pilotHold ≤ n then s1.pilotReached r else s1

/-- R35: a frame continues the reference. An AUDIO frame carrying cue 0 never does (log 19). -/
def continues (x : ContRef) (p : ShowPos) (slot : Word) : Bool :=
  decide (p.cue ≠ 0) &&
    ((decide (p.cue = x.pos.cue) && decide (p.pos = x.pos.pos + (slot - x.arrival)))
      || (decide (p.cue ≠ x.pos.cue) && decide (p.pos.toNat ≤ 3)))

/-- R36: a JUMP, hard when some group uses the rig, soft otherwise. -/
def jumped (s : State) (r : Rig) (p : ShowPos) : State :=
  if s.usedBy r then s.setHard r .jump (.carried p)
  else s.setRigHealth r { s.monitor r with softJump := some Config.softJump }

/-- R35: position continuity at a valid frame. With reference none an AUDIO frame carrying cue 0 is accepted too (log 50). -/
def continuitySlot (s : State) (r : Rig) (f : InFrame) (slot : Word) : State :=
  let m := s.monitor r
  let s1 := s.setRigHealth r { m with ref := some { pos := f.pos, arrival := slot } }
  match f.kind with
  | .idle => if f.stopped then (s.setRigHealth r { m with ref := none }).clearHard r .jump else s
  | .audio =>
    match m.ref with
    | none => s1
    | some x => if continues x f.pos slot then s1.clearHard r .jump else s1.jumped r f.pos

/-- R37. -/
def declaredSlot (s : State) (r : Rig) (f : InFrame) : State :=
  if f.declared then s.setHard r .declared (.sequence f.seq) else s.clearHard r .declared

/-- R38: NO START clears at the first valid AUDIO frame. -/
def noStartSlot (s : State) (r : Rig) (f : InFrame) : State :=
  match f.kind with | .audio => s.clearHard r .noStart | .idle => s

/-! ## Qualification (R26) -/

/-- The qualification count reaches the qualify count: the rig leaves QUALIFYING for the state the frame gives. -/
def qualified (s : State) (r : Rig) (k : FrameKind) : State :=
  match k with
  | .idle => s.healthChange r .stopped (.frame .idle)
  | .audio =>
    if (s.monitor r).soft then s.healthChange r .suspect (if (s.monitor r).warn then .warn else .jump)
    else s.healthChange r .healthy (.frame .audio)

def qualifySlot (s : State) (r : Rig) (k : FrameKind) (inRun : Bool) : State :=
  let m := s.monitor r
  if m.state = .qualifying then
    let q := if inRun then m.qual + 1 else 1
    let s1 := s.setRigHealth r { m with qual := q }
    if m.limits.qualify ≤ q then s1.qualified r k else s1
  else s

/-! ## Bad-frame capture (R40) -/

def captureValid (s : State) (r : Rig) (f : InFrame) (slot : Word) : State :=
  let m := s.monitor r
  if m.capture.locked then s
  else s.setRigHealth r { m with capture := {
    locked := false, kind := f.kind.code, seq := f.seq, cue := f.pos.cue, pos := f.pos.pos,
    channels := BitVec.ofNat 8 f.count, arrival := slot, received := none, computed := none } }

def captureDiscard (s : State) (r : Rig) (d : Discard) (slot : Word) : State :=
  let m := s.monitor r
  if m.capture.locked then s
  else s.setRigHealth r { m with capture := {
    locked := true, kind := byteAt d.bytes 0, seq := halfAt d.bytes 2, cue := halfAt d.bytes 4,
    pos := wordAt d.bytes 6, channels := byteAt d.bytes 10, arrival := slot, received := some d.received,
    computed := some d.computed } }

/-! ## A slot outcome (R24) -/

/-- R24: an IDLE frame without the stopped flag from a rig that was playing is not live. -/
def liveFrame (m : HealthRec) (f : InFrame) : Bool :=
  match f.kind with
  | .audio => true
  | .idle => f.stopped || !m.playing

def playingAfter (m : HealthRec) (f : InFrame) : Bool :=
  match f.kind with
  | .audio => true
  | .idle => if f.stopped then false else m.playing

/-- The outcome of a valid frame at the rig's monitor. -/
def validSlot (s : State) (r : Rig) (f : InFrame) (slot : Word) : State :=
  let m := s.monitor r
  let before := !m.hard.isEmpty
  let inRun := decide (m.lastSeq = some (f.seq - 1))
  let s1 := (s.captureValid r f slot)
  let s2 := s1.setRigHealth r { s1.monitor r with playing := playingAfter m f, lastSeq := some f.seq }
  let s3 := ((s2.declaredSlot r f).gapSlot r (liveFrame m f)).bucketSlot r true
  let s4 := ((s3.pilotSlot r f).continuitySlot r f slot).noStartSlot r f
  ((s4.startRecovery r before).regrade r f.kind).qualifySlot r f.kind inRun

/-- The outcome of a discarded frame, or of no main frame, at the rig's monitor. -/
def discardSlot (s : State) (r : Rig) (d : Discard) (slot : Word) : State :=
  let m := s.monitor r
  let before := !m.hard.isEmpty
  let s1 := ((s.captureDiscard r d slot).gapSlot r false).bucketSlot r false
  let s2 := (s1.startRecovery r before).regrade r .audio
  if (s2.monitor r).state = .qualifying then s2.setRigHealth r { s2.monitor r with qual := 0 } else s2

/-! ## Link loss and link up (R25) -/

/-- R25: the changes of the rig's link going DOWN; a link that was UP raises RIG LINK DOWN. -/
def healthLinkDown (s : State) (r : Rig) : State :=
  let m := s.monitor r
  let s1 := s.setRigHealth r { m with
    hard := Reset.hard, warn := false, playing := false, gap := 0, bucket := 0, pilotCount := 0,
    pilotPeak := 0, qual := 0, ref := none, lastSeq := none, softJump := none, recovery := none, requalifyReady := false }
  s1.healthChange r .offline .linkDown

/-- R25: the link enters UP. -/
def healthLinkUp (s : State) (r : Rig) : State :=
  (s.setRigHealth r { s.monitor r with qual := 0 }).healthChange r .qualifying .linkUp

/-! ## Time (R29, R36, R43) -/

/-- R29: the recovery hold timer reaches 0. -/
def recoveryReached (s : State) (r : Rig) : State :=
  let m := s.monitor r
  let s1 := s.setRigHealth r { m with recovery := none }
  if m.limits.auto then (s1.setRigHealth r { s1.monitor r with qual := 0 }).healthChange r .qualifying .recovered
  else s1.setRigHealth r { s1.monitor r with requalifyReady := true }

/-- R36: the soft-jump timer reaches 0, ending the soft JUMP; the kind its event names is AUDIO (log 41). -/
def softJumpReached (s : State) (r : Rig) : State :=
  (s.setRigHealth r { s.monitor r with softJump := none }).regrade r .audio

def recoveryTick (s : State) (r : Rig) : State :=
  match (s.monitor r).recovery with
  | none => s
  | some n => if n ≤ 1 then s.recoveryReached r else s.setRigHealth r { s.monitor r with recovery := some (n - 1) }

def softJumpTick (s : State) (r : Rig) : State :=
  match (s.monitor r).softJump with
  | none => s
  | some n => if n ≤ 1 then s.softJumpReached r else s.setRigHealth r { s.monitor r with softJump := some (n - 1) }

/-- R43: auto-requalify set while requalify ready is set. -/
def readyTick (s : State) (r : Rig) : State :=
  let m := s.monitor r
  if m.requalifyReady ∧ m.limits.auto ∧ m.state = .failed then
    (s.setRigHealth r { m with requalifyReady := false, qual := 0 }).healthChange r .qualifying .recovered
  else s

/-- The monitor's work at an output period. -/
def healthPeriod (s : State) (r : Rig) : State := ((s.readyTick r).recoveryTick r).softJumpTick r

/-! ## NO START, limits and requalification (R38, R42, R43) -/

/-- R38: NO START, by the rig's state. -/
def noStart (s : State) (r : Rig) : State :=
  let grace := s.ctl.policies.g0.startGrace
  if (s.monitor r).state = .offline then s.raise .rigNoStart (Rig.origin r) (.startGrace grace)
  else s.setHard r .noStart (.startGrace grace)

/-- R43's checks of a limit set. -/
def limitsValid (l : HealthLimits) : Bool :=
  decide (2 ≤ l.gap ∧ l.gap ≤ 400 ∧ 1 ≤ l.warn ∧ l.warn ≤ 1023 ∧ 2 ≤ l.corrupt ∧ l.corrupt ≤ 1024 ∧ l.warn < l.corrupt
    ∧ 1 ≤ l.pilotFloor ∧ l.pilotFloor ≤ 8388607 ∧ 4 ≤ l.pilotHold ∧ l.pilotHold ≤ 4000 ∧ 40 ≤ l.qualify ∧ l.qualify ≤ 40000
    ∧ 400 ≤ l.recovery ∧ l.recovery ≤ 400000)
    && (match l.pilotChannel with | none => true | some c => decide (c ≤ 63))

/-- R43: new limits replace the old; the lowered recovery hold and the cleared pilot hold are effects of the acceptance (log 51). -/
def applyLimits (s : State) (r : Rig) (l : HealthLimits) : State :=
  let m := s.monitor r
  let before := !m.hard.isEmpty
  let pilot := decide (l.pilotChannel ≠ m.limits.pilotChannel ∨ l.pilotFloor ≠ m.limits.pilotFloor)
  let s1 := s.setRigHealth r { m with limits := l, recovery := m.recovery.map (fun n => min n l.recovery) }
  if pilot then
    ((s1.setRigHealth r { s1.monitor r with pilotCount := 0, pilotPeak := 0 }).clearHard r .pilotLost).startRecovery r before
  else s1

/-- R42: a taken REQUALIFY RIG. The end of a running soft JUMP is a change of soft condition, which grades the rig anew (R27). -/
def requalifyTaken (s : State) (r : Rig) : State :=
  let m := s.monitor r
  let s1 := s.setRigHealth r { m with patches := 0, repeatStall := false, softJump := none }
  match m.state with
  | .qualifying => s1.setRigHealth r { s1.monitor r with qual := 0 }
  | .failed => (s1.setRigHealth r { s1.monitor r with qual := 0, requalifyReady := false }).healthChange r .qualifying .requested
  | .stopped | .healthy | .suspect => if m.softJump.isSome then s1.regrade r .audio else s1
  | .offline => s1

/-- R42: the request is refused in FAILED without requalify ready. -/
def requalifyRefused (m : HealthRec) : Bool := m.state == .failed && !m.requalifyReady

/-- R39: the patch count advances by one, stopping at 65,535. -/
def patchNotice (s : State) (r : Rig) : State :=
  s.setRigHealth r { s.monitor r with patches := min 65535 ((s.monitor r).patches + 1) }

end State

end Sys2Proof.Machine
end

