-- ==== Sys2Proof/Machine/Cue.lean ====
section
/-! DEFINITION. The cue map (03, R45 to R62): the record checks, edits and the staged slot, their application at a cue
change or a stop, and the search for a switch point. -/

namespace Sys2Proof.Machine

/-! ## Records (R45) -/

/-- R45: each zone's start is below its end, the end at most 4,294,967,295. -/
def zoneOk (z : Nat × Nat) : Bool := decide (z.1 < z.2) && decide (z.2 ≤ Config.maxPosition)

/-- R45: sorted and not overlapping. -/
def zonesSorted : List (Nat × Nat) → Bool
  | [] => true
  | [_] => true
  | z :: y :: m => decide (z.2 ≤ y.1) && zonesSorted (y :: m)

/-- R45: the number, in the order of its list, of the first check that fails; none for a valid record. -/
def firstBadField (r : CueRecord) : Option Nat :=
  let p := r.policy
  if r.cue < 1 ∨ 65535 < r.cue then some 1
  else if (match p.length with | none => false | some n => decide (n < 1) || decide (Config.maxPosition < n)) then some 2
  else if p.framesPerBeat ≠ 0 ∧ (p.framesPerBeat < 240 ∨ 24000 < p.framesPerBeat) then some 3
  else if (p.framesPerBeat = 0 ∧ p.beatOffset ≠ 0) ∨ (p.framesPerBeat ≠ 0 ∧ p.framesPerBeat ≤ p.beatOffset) then some 4
  else if 4 < p.zones.length ∨ p.zones.all zoneOk = false then some 5
  else if zonesSorted p.zones = false then some 6
  else if (match p.length, p.zones.getLast? with | some n, some z => decide (n < z.2) | _, _ => false) then some 7
  else if (match p.clip with | none => false | some c => decide (c < 1) || decide (255 < c)) then some 8
  else none

def CueRecordValid (r : CueRecord) : Bool := (firstBadField r).isNone

/-! ## The map (R46) -/

/-- R46: a record is put in place of the old one, or inserted in cue-number order. -/
def putRecord (r : CueRecord) : List CueRecord → List CueRecord
  | [] => [r]
  | x :: m => if r.cue < x.cue then r :: x :: m else if r.cue = x.cue then r :: m else x :: putRecord r m

def dropRecord (c : Nat) (m : List CueRecord) : List CueRecord := m.filter (fun r => decide (r.cue ≠ c))

namespace CueMap

/-- 3.2: the records in the map and a staged write of a new one. -/
def occupancy (m : CueMap) : Nat :=
  m.records.length +
    (match m.staged with
     | some x => if x.isNew then 1 else 0
     | none => 0)

def hasRecord (m : CueMap) (c : Nat) : Bool := (m.record c).isSome

/-- The slot holds a new WRITE. -/
def stagedNew (m : CueMap) : Bool := match m.staged with | some x => x.isNew | none => false

/-- R52: the staged edit is applied and the slot emptied. -/
def applyStaged (m : CueMap) : CueMap :=
  match m.staged with
  | none => m
  | some x =>
    match x.action with
    | .write p => { m with records := putRecord { cue := x.cue, policy := p } m.records, staged := none }
    | .delete => { m with records := dropRecord x.cue m.records, staged := none }

/-- The outcome of a cue edit: the map after it, its reply, and whether a record-changed notice is raised. -/
structure Edited where
  map : CueMap
  code : Completion
  data : ReplyData
  notice : Bool

/-- R49, R51: WRITE CUE of a record. -/
def write (m : CueMap) (r : CueRecord) : Edited :=
  match firstBadField r with
  | some n => { map := m, code := .outOfRange, data := .field n, notice := false }
  | none =>
    if m.inUse = some r.cue then
      if m.hasRecord r.cue then
        { map := { m with staged := some { cue := r.cue, action := .write r.policy, isNew := false } },
          code := .done, data := .staged true, notice := false }
      else if m.occupancy < Config.cueRecords ∨ m.stagedNew = true then
        { map := { m with staged := some { cue := r.cue, action := .write r.policy, isNew := true } },
          code := .done, data := .staged true, notice := false }
      else { map := m, code := .full, data := .none, notice := false }
    else if m.hasRecord r.cue = true ∨ m.occupancy < Config.cueRecords then
      { map := { m with records := putRecord r m.records }, code := .done, data := .staged false, notice := true }
    else { map := m, code := .full, data := .none, notice := false }

/-- R50, R51: DELETE CUE. -/
def delete (m : CueMap) (c : Nat) : Edited :=
  if m.inUse = some c then
    if m.hasRecord c then
      { map := { m with staged := some { cue := c, action := .delete, isNew := false } },
        code := .done, data := .staged true, notice := false }
    else
      match m.staged with
      | some _ => { map := { m with staged := none }, code := .done, data := .staged true, notice := false }
      | none => { map := m, code := .notFound, data := .none, notice := false }
  else if m.hasRecord c then
    { map := { m with records := dropRecord c m.records }, code := .done, data := .staged false, notice := true }
  else { map := m, code := .notFound, data := .none, notice := false }

end CueMap

/-! ## The search for a switch point (R58) -/

/-- Step 2: up to the first grid position at or above `x`. -/
def toGrid (p : CuePolicy) (x : Nat) : Nat :=
  if p.framesPerBeat = 0 then x
  else if x < p.beatOffset then p.beatOffset
  else x + (p.framesPerBeat - (x - p.beatOffset) % p.framesPerBeat) % p.framesPerBeat

/-- The zone a position lies in. -/
def zoneAt (p : CuePolicy) (x : Nat) : Option (Nat × Nat) := p.zones.find? (fun z => decide (z.1 ≤ x) && decide (x < z.2))

/-- Steps 2 to 5, with one move to a zone's end for each unit of fuel; none is NEXT CUE. -/
def searchFrom (p : CuePolicy) : Nat → Nat → Option Nat
  | fuel, x =>
    let y := toGrid p x
    if Config.maxPosition < y then none
    else
      match zoneAt p y, fuel with
      | some z, n + 1 => searchFrom p n z.2
      | some _, 0 => none
      | none, _ =>
        match p.length with
        | some n => if n ≤ y then none else some y
        | none => some y

/-- R58: the first switch position at or above `x`; none is NEXT CUE. The zones are at most four. -/
def search (p : CuePolicy) (x : Nat) : Option Nat :=
  if Config.maxPosition < x then none else searchFrom p (p.zones.length + 1) x

end Sys2Proof.Machine
end

