-- ==== Sys2Proof/Machine/Player.lean ====
section
/-! DEFINITION. The bed player (06 section 6.8, R135 to R139, R55): tracking, the window and its reads, priming for the
next cue, and the samples it gives. -/

namespace Sys2Proof.Machine

/-! ## Play order (R136) -/

def lastPage (e : DirEntry) : Nat := (e.length - 1) / 16

/-- The page that follows `p` in play order; none after the last page of a clip that does not loop (log 22). -/
def nextPage (e : DirEntry) (p : Nat) : Option Nat :=
  if 0 < e.loopLength then
    if p = (e.loopStart + e.loopLength - 1) / 16 ∨ lastPage e ≤ p then some (e.loopStart / 16) else some (p + 1)
  else if p < lastPage e then some (p + 1)
  else none

/-- At most `n` distinct pages in play order from `p`. -/
def playFrom (e : DirEntry) : Nat → Nat → List Nat → List Nat
  | 0, _, acc => acc
  | n + 1, p, acc =>
    if p ∈ acc then acc
    else
      match nextPage e p with
      | none => acc ++ [p]
      | some q => playFrom e n q (acc ++ [p])

/-- The page play order begins with: page 0 before the clip, none after it. -/
def startPage (e : DirEntry) (off : Int) : Option Nat :=
  if off < 0 then some 0
  else
    match e.effective off with
    | none => none
    | some f => some (f / 16)

def pagesFor (e : DirEntry) (off : Int) (n : Nat) : List Nat :=
  match startPage e off with
  | none => []
  | some p => playFrom e n p []

namespace State

/-! ## Tracking (R135) -/

/-- R135: the clip the player is to track, with its bed start. -/
def trackTarget (s : State) : Option (Nat × Nat) :=
  if s.playing then
    match s.policyInUse.clip with
    | none => none
    | some c =>
      match s.store.clip c with
      | none => none
      | some e => if e.playable then some (c, s.policyInUse.bedStart) else none
  else none

/-- R135: tracking starts and stops with its condition; when it stops, the window's slots are emptied. A change to a policy that names
the same clip and bed start is no stop (log 47). An outstanding read runs on and its page is dropped (log 66). -/
def playerRetrack (s : State) : State :=
  if s.player.tracked = s.trackTarget then s
  else s.setPlayer { s.player with tracked := s.trackTarget, window := [] }

/-- R138: at a program cue change the prime's slots join the window, or are emptied; the prime ends in both cases (log 57). -/
def playerCueChange (s : State) : State :=
  let joined :=
    match s.player.prime with
    | none => []
    | some p =>
      if p.cue = s.prog.pos.cue ∧ s.trackTarget = some (p.clip, p.bedStart) then p.slots else []
  let s1 := s.playerRetrack
  let fresh := joined.filter (fun x => !holdsPage s1.player.window x.clip x.page)
  s1.setPlayer { s1.player with window := s1.player.window ++ fresh, prime := none, lastPrime := none }

/-! ## Priming (R55, R138) -/

/-- R138: the prime for a cue, from the ring's oldest entry of that cue. -/
def makePrime (s : State) (ring : List RingEntry) (c : Half) : Option Prime :=
  let pol := s.cues.lookup c.toNat
  match pol.clip, ring.find? (fun x => x.pos.cue == c) with
  | some id, some x =>
    match s.store.clip id with
    | none => none
    | some e =>
      if e.playable then
        some { cue := c, clip := id, bedStart := pol.bedStart, offset := (x.pos.pos.toNat : Int) - (pol.bedStart : Int), slots := [] }
      else none
  | _, _ => none

def clearPrime (s : State) : State := s.setPlayer { s.player with prime := none, lastPrime := none }

/-- R138: the primed clip has left the directory. -/
def primeGone (s : State) : Bool :=
  match s.player.prime with
  | none => false
  | some p => (s.store.clip p.clip).isNone

/-- R138: the primed cue follows the newest entry of the timing rig's ring. A read made for a prime that ends here runs on (log 66). -/
def primeUpdate (s : State) : State :=
  if s.acting = false then s
  else
    match s.timingRig with
    | none => s.clearPrime
    | some r =>
      match (s.rig r).ring.getLast? with
      | none => s.clearPrime
      | some x =>
        if s.cues.inUse = some x.pos.cue.toNat then s.clearPrime
        else if s.player.lastPrime = some x.pos.cue then
          (if s.primeGone then s.setPlayer { s.player with prime := none } else s)
        else s.setPlayer { s.player with prime := s.makePrime (s.rig r).ring x.pos.cue, lastPrime := some x.pos.cue }

/-- R55, R138: a record-changed notice for cue `c`. -/
def recordChanged (s : State) (c : Nat) : State :=
  match s.timingRig, s.player.lastPrime with
  | some r, some l =>
    if l.toNat = c then
      let fresh := s.makePrime (s.rig r).ring l
      let same :=
        match s.player.prime, fresh with
        | some p, some q => p.clip == q.clip && p.bedStart == q.bedStart
        | none, none => true
        | _, _ => false
      if same then s else s.setPlayer { s.player with prime := fresh }
    else s
  | _, _ => s

/-! ## The window and its reads (R136) -/

def trackedEntry (s : State) : Option DirEntry :=
  match s.player.tracked with
  | none => none
  | some (c, _) => s.store.clip c

/-- R136: a prime holds slots. -/
def primeHolds (s : State) : Bool := match s.player.prime with | some p => !p.slots.isEmpty | none => false

/-- R136: the window's pages, four, or two while a prime holds slots. -/
def windowWanted (s : State) : List Nat :=
  match s.player.tracked, s.trackedEntry with
  | some (_, start), some e => pagesFor e (s.clipOffset start) (if s.primeHolds then 2 else 4)
  | _, _ => []

/-- R138: the prime's first two pages. -/
def primeWanted (s : State) : List Nat :=
  match s.player.prime with
  | none => []
  | some p =>
    match s.store.clip p.clip with
    | none => []
    | some e => pagesFor e p.offset 2

/-- R136: slots whose pages are no longer in the window are emptied. -/
def windowTrim (s : State) : State :=
  match s.player.tracked with
  | none => s
  | some (c, _) =>
    s.setPlayer { s.player with window := s.player.window.filter (fun x => x.clip == c && s.windowWanted.contains x.page) }

/-- The page of the effective frame. -/
def effectivePage (s : State) : Option (Nat × Nat) :=
  match s.player.tracked, s.trackedEntry with
  | some (c, start), some e => (e.effective (s.clipOffset start)).map (fun f => (c, f / 16))
  | _, _ => none

/-- R136: with the effective frame's page absent, a read for any other page is discarded. -/
def windowDiscard (s : State) : State :=
  match s.effectivePage with
  | none => s
  | some (c, p) =>
    if holdsPage s.player.window c p = false ∧ s.player.reading ≠ some (c, p) then
      s.setPlayer { s.player with reading := none, lostRead := none }
    else s

/-- R136, R138: the earliest wanted page not held, the window's before the prime's. -/
def nextRead (s : State) : Option (Nat × Nat) :=
  let ofWindow :=
    match s.player.tracked with
    | none => none
    | some (c, _) => (s.windowWanted.find? (fun p => !holdsPage s.player.window c p)).map (fun p => (c, p))
  match ofWindow with
  | some x => some x
  | none =>
    match s.player.prime with
    | none => none
    | some q => (s.primeWanted.find? (fun p => !holdsPage q.slots q.clip p)).map (fun p => (q.clip, p))

/-- R136: with no read outstanding, the next is requested. -/
def windowRequest (s : State) : State :=
  match s.player.reading, s.player.lostRead with
  | none, none => s.setPlayer { s.player with reading := s.nextRead }
  | _, _ => s

/-- The player's work at an output period (R135, R136, R138). -/
def playerPeriod (s : State) : State := s.playerRetrack.primeUpdate.windowTrim.windowDiscard.windowRequest

/-- R136: a page that was read enters its slot, or is discarded. The prime's slots are of the window's four (6.8), so the window is
trimmed as one of them is taken (log 38). -/
def playerDeliver (s : State) (x : PageSlot) : State :=
  let s1 := s.setPlayer { s.player with reading := none }
  let inWindow := (match s.player.tracked with | some (c, _) => c == x.clip | none => false)
    && s.windowWanted.contains x.page && !holdsPage s.player.window x.clip x.page
  if inWindow then s1.setPlayer { s1.player with window := s1.player.window ++ [x] }
  else
    match s1.player.prime with
    | none => s1
    | some p =>
      if p.clip = x.clip ∧ s.primeWanted.contains x.page = true ∧ holdsPage p.slots x.clip x.page = false
      then (s1.setPlayer { s1.player with prime := some { p with slots := p.slots ++ [x] } }).windowTrim
      else s1

/-! ## Samples (R137) -/

def trackOf (f : BedFrame) : Nat → List Int
  | 0 => f.t0 | 1 => f.t1 | 2 => f.t2 | _ => f.t3

def zeros12 : List Int := List.replicate 12 0

/-- R137: 12 samples of a track for the program position; none when the player has no sample for the offset. -/
def bedSamples (s : State) (t : Nat) : Option (List Int) :=
  match s.player.tracked, s.trackedEntry with
  | some (c, start), some e =>
    match e.effective (s.clipOffset start) with
    | none => none
    | some f =>
      match s.player.window.find? (fun x => x.clip == c && x.page == f / 16) with
      | none => none
      | some x => if x.zero then none else (x.frames[f % 16]?).map (fun fr => trackOf fr t)
  | _, _ => none

end State

end Sys2Proof.Machine
end

