-- ==== Sys2Proof/Machine/Align.lean ====
section
/-! DEFINITION. The alignment buffer (01): the rings and their lookups, arrivals, link loss, the step tracker and a change of
timing source (R1 to R4, R8, R10, R14 to R20). The program's own advance is in Program.lean. -/

namespace Sys2Proof.Machine

/-! ## The rings (R1, R4) -/

/-- R4, by slot. -/
def AlignRig.bySlot (a : AlignRig) (k : Word) : Option RingEntry := a.ring.find? (fun e => e.arrival == k)

/-- R4, by show position: the newest. -/
def AlignRig.byPos (a : AlignRig) (p : ShowPos) : Option RingEntry := a.ring.reverse.find? (fun e => e.pos == p)

/-- R1: a new entry at the newest end, the oldest removed at 64. -/
def ringAppend (ring : List RingEntry) (e : RingEntry) : List RingEntry :=
  (if Config.ringSize ≤ ring.length then ring.drop 1 else ring) ++ [e]

/-- R9, R10: what a valid frame leaves in the rig's alignment record. -/
def AlignRig.arrive (a : AlignRig) (f : InFrame) (slot : Word) : AlignRig :=
  match f.kind with
  | .audio =>
    if f.pos.cue = 0 then { a with newestAudio := some true }
    else
      { a with ring := ringAppend a.ring { pos := f.pos, arrival := slot, channels := f.count, samples := f.channels },
               stopMark := none, newestAudio := some true }
  | .idle =>
    if f.stopped ∧ a.stopMark = none then { a with stopMark := some slot, newestAudio := some false }
    else { a with newestAudio := some false }

/-! ## Step records (R18 to R20) -/

/-- R20: IN STEP with a given skew. -/
def inStepAt (k : Int) : StepRec := { state := .inStep, streak := 32, miss := 0, lastSkew := some k }

/-- R18's two match columns. -/
def StepRec.matched (x : StepRec) (k : Int) : StepRec :=
  if x.state ≠ .outOfStep ∧ x.lastSkew = some k then
    { state := if 32 ≤ x.streak + 1 then .inStep else .drifting, streak := min 32 (x.streak + 1), miss := 0, lastSkew := some k }
  else { state := .drifting, streak := 1, miss := 0, lastSkew := some k }

namespace State

/-- R19: the step-lost event, with STEP LOST when some group uses the rig. -/
def stepLostEvent (s : State) (r : Rig) (skew : Option Int) : State :=
  let s1 := s.clearStamp r
  if s.usedBy r then s1.raise .stepLost (Rig.origin r) (.skew skew) else s1

/-- R18, third miss: put out of step, with the step-lost event. -/
def stepLostNow (s : State) (r : Rig) : State :=
  (s.setStep r Reset.step).stepLostEvent r (s.rig r).step.lastSkew

/-- R17: the skew of a match at this output period; none is a miss. -/
def matchSkew (s : State) (r : Rig) : Option Int :=
  match (s.rig r).byPos s.prog.pos, s.prog.due with
  | some e, some d =>
    if -(63 - s.delayE) ≤ Word.diff e.arrival d ∧ Word.diff e.arrival d ≤ s.delayE then some (Word.diff e.arrival d) else none
  | _, _ => none

/-- R18's miss column. -/
def stepMiss (s : State) (r : Rig) : State :=
  let x := (s.rig r).step
  if x.state = .outOfStep then s
  else if 3 ≤ x.miss + 1 then s.stepLostNow r
  else s.setStep r { x with miss := x.miss + 1 }

/-- R17, R18: the evaluation of a rig that is not the timing rig. -/
def stepEvaluate (s : State) (r : Rig) : State :=
  match s.matchSkew r with
  | some k => s.setStep r ((s.rig r).step.matched k)
  | none => s.stepMiss r

/-- The step tracker at an output period (R17, R20, R21). -/
def stepRig (s : State) (r : Rig) : State :=
  if s.playing = true ∧ s.timingRig ≠ some r then s.stepEvaluate r else s

/-- The step tracker's work at an output period, rig A's before rig B's (log 3). -/
def stepPeriod (s : State) : State := (s.stepRig .a).stepRig .b

/-! ## Arrivals (R8) -/

/-- R8's conditions at an AUDIO arrival of rig `r`. -/
def takesAnchor (s : State) (r : Rig) (f : InFrame) : Bool :=
  s.acting && s.prog.state == .stopped && f.kind == .audio && s.timingRig == some r && !s.prog.stopHold && s.prog.held.isNone
    && ((s.monitor r).state == .healthy || (s.monitor r).state == .suspect || (s.monitor r).state == .stopped)

/-- A valid frame at the alignment buffer. -/
def alignArrive (s : State) (r : Rig) (f : InFrame) (slot : Word) : State :=
  let s1 := s.setAlignRig r ((s.rig r).arrive f slot)
  if s.takesAnchor r f then
    s1.setProg { s1.prog with held := some { rig := r, pos := f.pos, arrival := slot }, grace := none }
  else s1

/-! ## Link loss (R3) -/

/-- R3: the step-lost event is due at the loss of this rig's link. -/
def lossLosesStep (s : State) (r : Rig) : Bool := s.playing && s.stepOf r != .outOfStep

/-- R3, R8, R9: the rig's record at the loss of its link. -/
def alignLinkLost (s : State) (r : Rig) : State :=
  let s1 := s.setAlignRig r { s.rig r with ring := [], stopMark := none, newestAudio := none, step := Reset.step }
  match s1.prog.held with
  | some h => if h.rig = r then s1.setProg { s1.prog with held := none } else s1
  | none => s1

/-- R2: the other rig port's count of the slot at hand. RA's slot comes before RB's (log 3), so RB's count is one short of it. -/
def countOfSlot (s : State) : Rig → Word
  | .a => s.align.rigs.b.slotCount + 1
  | .b => s.align.rigs.a.slotCount

/-- R2: the slot count a rig port loads as its link enters UP. -/
def slotLoad (s : State) (r : Rig) : Word :=
  if s.isUp (Rig.port (Rig.other r)) then s.countOfSlot r else s.framer.count

/-! ## A change of timing source (R14 to R16, R20, R86) -/

/-- R20, last paragraph: a rig whose link is not UP is put out of step, whichever row applies. -/
def leaveTiming (s : State) (old : Source) (x : StepRec) : State :=
  match Source.rig old with
  | none => s
  | some r => s.setStep r (if s.isUp (Rig.port r) then x else Reset.step)

/-- R8, R12, R20: the change while the program is STOPPED. -/
def timingStopped (s : State) (old : Source) : State :=
  (s.leaveTiming old Reset.step).setProg { s.prog with held := none, grace := none, graceSpent := false }

/-- R16: the hard-switch anchor. A rig whose link is not UP gives its stopped slot count (log 40). -/
def timingHard (s : State) (old : Source) (r : Rig) : State :=
  let s1 := s.leaveTiming old Reset.step
  s1.setProg { s1.prog with
    state := .running, due := some ((s.rig r).slotCount - BitVec.ofNat 32 s.prog.dInForce), anchorPending := true
    eSlot := some (s.rig r).slotCount }

/-- R14: the rebase. -/
def timingSeamless (s : State) (old : Source) (r : Rig) : State :=
  let k := ((s.rig r).step.lastSkew).getD 0
  let s1 := s.leaveTiming old (inStepAt (-k))
  s1.setProg { s1.prog with state := .running, due := s.prog.due.map (fun d => d + BitVec.ofInt 32 k) }

/-- R15, R16: the timing source becomes BED or MUTE. -/
def timingFree (s : State) (old : Source) : State :=
  let s1 := s.leaveTiming old (inStepAt 0)
  s1.setProg { s1.prog with state := .free, anchorPending := false }

/-- R86: the alignment buffer takes a change of timing source. `hard` says the controller makes it as a hard switch. -/
def timingChange (s : State) (old new : Source) (hard : Bool) : State :=
  if old = new then s
  else if s.playing = false then s.timingStopped old
  else
    match Source.rig new with
    | none => s.timingFree old
    | some r =>
      if hard = true ∨ (s.rig r).step.state = .outOfStep then s.timingHard old r else s.timingSeamless old r

end State

end Sys2Proof.Machine
end

