-- ==== Sys2Proof/Machine/Switch.lean ====
section
/-! DEFINITION. The switch controller (04, R63 to R98; R150 to R156 where it acts for the gang): eligibility, the pending table,
switches, fades, the journal, and the steps of R71 for one group. -/

namespace Sys2Proof.Machine

/-! ## The pending table (R70) -/

/-- The pending requests, in the order equal levels rank (R79). -/
def Group.requests (g : Group) : List (Cause × SwitchReq) :=
  (match g.op with | some q => [(Cause.operator, q)] | none => [])
    ++ (match g.health with | some q => [(Cause.health, q)] | none => [])
    ++ (match g.revert with | some q => [(Cause.revert, q)] | none => [])

def isBoundary (q : Option SwitchReq) : Bool := match q with | some x => x.urgency == .atBoundary | none => false

/-- R70, R93: some AT BOUNDARY request is pending, or a switch is placed. -/
def Group.waits (g : Group) : Bool := isBoundary g.op || isBoundary g.health || isBoundary g.revert || g.placed.isSome

/-- R70: with no AT BOUNDARY request and no placed switch left, the deferral timer becomes idle. -/
def Group.settleTimer (g : Group) : Group := if g.waits then g else { g with timer := none }

def Group.setSlot (g : Group) (c : Cause) (q : Option SwitchReq) : Group :=
  match c with
  | .operator => { g with op := q }
  | .health => { g with health := q }
  | .revert => { g with revert := q }
  | .gang => g
  | .localEmergency => g

/-- R70: a request is latched into the slot of its cause. -/
def Group.latch (g : Group) (c : Cause) (q : SwitchReq) : Group :=
  let g1 := g.setSlot c (some q)
  if q.urgency = .atBoundary ∧ g.waits = false then { g1 with timer := some 0, limitReached := false } else g1.settleTimer

/-- R70: a request leaves the table. -/
def Group.drop (g : Group) (c : Cause) : Group := (g.setSlot c none).settleTimer

/-- R95, R156: pending requests and timers are discarded, and h is 0. -/
def Group.clearTable (g : Group) : Group :=
  { g with op := none, health := none, healthMoved := false, revert := none, timer := none, limitReached := false, placed := none, h := 0 }

/-- R79: ranked by level, highest first, equal levels in the order they stand. -/
def rankInsert (x : Cause × SwitchReq) : List (Cause × SwitchReq) → List (Cause × SwitchReq)
  | [] => [x]
  | y :: m => if y.2.level ≤ x.2.level then x :: y :: m else y :: rankInsert x m

def ranked (l : List (Cause × SwitchReq)) : List (Cause × SwitchReq) := l.foldr rankInsert []

def GroupPolicy.level (p : GroupPolicy) : Cause → Nat
  | .operator => p.operatorLevel | .health => p.healthLevel | .revert => p.revertLevel | .localEmergency => p.healthLevel | .gang => 0

/-! ## The journal (R96) -/

def Journal.push (j : Journal) (e : JournalEntry) : Journal :=
  { entries := (if Config.journalSize ≤ j.entries.length then j.entries.drop 1 else j.entries) ++ [e], next := j.next + 1 }

/-- What a switch carries into the journal besides its group and sources. -/
structure SwitchInfo where
  cause : Cause
  level : Nat
  urgency : Urgency
  outcome : SwitchOutcome
deriving DecidableEq, Repr

namespace State

def journalAdd (s : State) (g : Fin 8) (o t : Source) (w : SwitchInfo) : State :=
  s.setCtl { s.ctl with journal := s.ctl.journal.push {
    number := s.ctl.journal.next, group := g, origin := o, dest := t, cause := w.cause, level := w.level,
    urgency := w.urgency, outcome := w.outcome, pos := s.prog.pos, count := s.framer.count } }

/-! ## Modes (R93, R95, R146) -/

def joined (s : State) : Bool := s.gang.role == .follower && s.gang.state == .joined
def discovering (s : State) : Bool := s.gang.role == .follower && s.gang.state == .discovering
/-- R93: AT BOUNDARY requests go through placement (while the program is STOPPED there is no point to place at, log 34). -/
def placing (s : State) : Bool := s.leadsFollowers && s.playing

/-! ## Eligibility (R67, R68) -/

/-- R67's condition for BED. -/
def bedEligible (s : State) (g : Fin 8) : Bool :=
  (s.policy g).fallback.contains .bed && s.policyInUse.bedAllowed
    && (match s.policyInUse.clip with
        | none => false
        | some c =>
          match s.store.clip c with
          | none => false
          | some e => e.state == .sealed || (e.state == .damaged && (s.group g).st.current == .bed))
    && s.bedReady

def goodHealth (h : HealthState) : Bool := h == .healthy || h == .suspect

/-- R67: a rig as a seamless source; R68 while STOPPED. -/
def rigEligible (s : State) (r : Rig) : Bool :=
  if s.playing then goodHealth (s.ctlHealth r) && s.ctlStep r != .outOfStep
  else goodHealth (s.ctlHealth r) || s.ctlHealth r == .stopped

/-- R67, R68: a source is eligible for a group, hard targets apart; an OUT OF STEP rig that group 0 is on or fades from is not (log 52). -/
def eligible (s : State) (g : Fin 8) : Source → Bool
  | .mute => true
  | .bed => s.playing && s.bedEligible g
  | .a => s.rigEligible .a
  | .b => s.rigEligible .b

/-- R67, R87: a rig OUT OF STEP whose health allows a hard switch of group 0. -/
def hardRig (s : State) (g : Fin 8) (x : Source) : Bool :=
  match Source.rig x with
  | none => false
  | some r => g == 0 && s.playing && goodHealth (s.ctlHealth r) && s.ctlStep r == .outOfStep

/-- R67, R87: eligible as a hard target; `perm` says that the choice may be hard: step 4 of R75, or an OPERATOR request with its hard
permission. -/
def hardEligible (s : State) (g : Fin 8) (x : Source) (perm : Bool) : Bool :=
  s.hardRig g x && s.ctl.policies.g0.hardAllowed && perm

def targetEligible (s : State) (g : Fin 8) (x : Source) (perm : Bool) : Bool := s.eligible g x || s.hardEligible g x perm

/-- R76, R87: of the requests only an OPERATOR one with its hard permission may make a hard switch. -/
def hardPerm (c : Cause) (hard : Bool) : Bool := c == .operator && hard

/-- R72: the current source is an eligible rig that is SUSPECT. -/
def suspectSource (s : State) (x : Source) : Bool :=
  match Source.rig x with
  | none => false
  | some r => s.ctlHealth r == .suspect

/-! ## The HEALTH choice (R75) -/

def sourceHealth (s : State) (x : Source) (h : HealthState) : Bool :=
  match Source.rig x with | none => false | some r => s.ctlHealth r == h

def sourceInStep (s : State) (x : Source) : Bool :=
  match Source.rig x with | none => false | some r => s.ctlStep r != .outOfStep

/-- The first candidate in fallback order that a test admits. -/
def firstOf (l : List Source) (f : Source → Bool) : Option Source := l.find? f

def orElse {α : Type} (x y : Option α) : Option α := match x with | some v => some v | none => y

/-- R75's two columns over the candidates `l`; MUTE is a candidate unless it is excluded. -/
def choose (s : State) (g : Fin 8) (l : List Source) (mute : Option Source) : Option Source :=
  if s.playing then
    orElse (firstOf l (fun x => s.sourceHealth x .healthy && s.sourceInStep x))
      (orElse (firstOf l (fun x => s.sourceHealth x .suspect && s.sourceInStep x))
        (orElse (firstOf l (fun x => x == .bed && s.eligible g x))
          (orElse (firstOf l (fun x => s.hardEligible g x true)) mute)))
  else
    orElse (firstOf l (fun x => s.sourceHealth x .healthy))
      (orElse (firstOf l (fun x => s.sourceHealth x .suspect))
        (orElse (firstOf l (fun x => s.sourceHealth x .stopped)) mute))

def candidates (s : State) (g : Fin 8) (excl : List Source) : List Source :=
  (s.policy g).fallback.filter (fun x => !excl.contains x)

/-- R75: the choice, excluding `excl`. -/
def healthChoice (s : State) (g : Fin 8) (excl : List Source) : Option Source :=
  s.choose g (s.candidates g excl) (if excl.contains .mute then none else some .mute)

/-- R75: an AT BOUNDARY request chooses from step 1 of the first column alone. -/
def boundaryChoice (s : State) (g : Fin 8) (excl : List Source) : Option Source :=
  firstOf (s.candidates g excl) (fun x => s.sourceHealth x .healthy && s.sourceInStep x)

/-- The target a pending request would take now. -/
def requestTarget (s : State) (g : Fin 8) (c : Cause) (q : SwitchReq) : Option Source :=
  match c with
  | .health =>
    if q.urgency = .atBoundary then s.boundaryChoice g [(s.group g).st.current] else s.healthChoice g [(s.group g).st.current]
  | _ => q.target

/-! ## Good since (R69) -/

def bedGood (s : State) : Bool :=
  s.policyInUse.bedAllowed
    && (match s.policyInUse.clip with
        | none => false
        | some c => match s.store.clip c with | none => false | some e => e.state == .sealed)
    && s.bedReady

def stampNow (s : State) (good : Bool) (x : Option Word) : Option Word :=
  if good then (match x with | some c => some c | none => some s.framer.count) else none

def rigGood (s : State) (r : Rig) : Bool := s.ctlHealth r == .healthy && s.ctlStep r == .inStep

/-- R69 at an output period. -/
def stampPeriod (s : State) : State :=
  s.setStamps { a := s.stampNow (s.rigGood .a) s.ctl.stamps.a, b := s.stampNow (s.rigGood .b) s.ctl.stamps.b,
                bed := s.stampNow s.bedGood s.ctl.stamps.bed }

def stampOf (s : State) : Source → Option Word
  | .a => s.ctl.stamps.a | .b => s.ctl.stamps.b | .bed => s.ctl.stamps.bed | .mute => none

def goodFor (s : State) (x : Source) (t : Nat) : Bool :=
  match s.stampOf x with
  | none => false
  | some c => decide (t ≤ (s.framer.count - c).toNat)

/-! ## The gang state vector (R93, R150) -/

/-- A change of a leader's vector entry, with the next order number. -/
def changeVector (s : State) (g : Fin 8) (src : Source) (eff : ShowPos) (fade : Nat) (u : Urgency) : State :=
  if s.gang.role = .leader then
    let n : Byte := match s.gang.vector.get g with | some e => e.order + 1 | none => 0
    s.setGang { s.gang with vector := s.gang.vector.set g (some { source := src, effective := eff, order := n, fade := fade, urgency := u }) }
  else s

/-- R93: a switch carried out at once. -/
def vectorNow (s : State) (g : Fin 8) (fade : Nat) : State :=
  s.changeVector g (s.group g).st.current s.prog.pos fade .immediate

/-! ## Carrying out a switch (R84, R86) -/

/-- The group takes a new state; for group 0 the timing source follows its current source (R86). -/
def place (s : State) (g : Fin 8) (st : GroupState) (hard : Bool) : State :=
  let old := (s.group g).st.current
  let s1 := s.setGroup g { s.group g with st := st }
  if g = 0 then s1.timingChange old st.current hard else s1

/-- R84: the state the group takes, fading over `fade` frames where the table says so. -/
def switchState (s : State) (g : Fin 8) (t : Source) (fade : Nat) (cut : Bool) : GroupState :=
  let o := (s.group g).st.current
  if s.playing = true ∧ cut = false ∧ 0 < fade ∧ s.eligible g o = true then .fading o t fade s.framer.count false else .settled t

/-- The fade length a state was entered with; 0 for a cut (R93). -/
def fadeUsed : GroupState → Nat
  | .settled _ => 0
  | .fading _ _ n _ _ => n

/-- R72: whether the group's source has moved from under the pending HEALTH request. -/
def movedAfter (x : Group) (st : GroupState) : Bool := x.healthMoved || st.current != x.st.current

/-- A change of the group's state, journaled from `o`, with the placement discarded, h set and the vector told. -/
def carry (s : State) (g : Fin 8) (o : Source) (st : GroupState) (hard : Bool) (h : Nat) (w : SwitchInfo) (tell : Bool) : State :=
  let s1 := s.place g st hard
  let s2 := s1.setGroup g
    ({ s1.group g with h := h, placed := none, healthMoved := movedAfter (s.group g) st } : Group).settleTimer
  let s3 := s2.journalAdd g o st.current w
  if tell then s3.vectorNow g (fadeUsed st) else s3

/-- R92: a HEALTH choice of MUTE. -/
def mutedFault (s : State) (g : Fin 8) (left t : Source) : State :=
  if t = .mute then s.raise .groupMuted (.group g) (.source left) else s

/-- R83: h after a switch made by a request. -/
def holdAfter (c : Cause) (level : Nat) : Nat := match c with | .operator => level | _ => 0

/-- R96: the outcome of a switch made by a request. -/
def plainOutcome (atLimit hard : Bool) : SwitchOutcome := if atLimit then .atLimit else if hard then .hard else .seamless

/-- R80, R96: the urgency a request's switch is journaled with; a deferral limit of 0 makes it IMMEDIATE. -/
def journalUrgency (s : State) (g : Fin 8) (u : Urgency) : Urgency := if (s.policy g).deferral = 0 then .immediate else u

/-- R84: a request's switch to `t`. -/
def carryRequest (s : State) (g : Fin 8) (c : Cause) (q : SwitchReq) (t : Source) (atLimit : Bool) : State :=
  let o := (s.group g).st.current
  let hard := s.hardRig g t
  let s1 := s.setGroup g ((s.group g).setSlot c none)
  let s2 := s1.carry g o (s.switchState g t (s.policy g).fade hard) hard (holdAfter c q.level)
    { cause := c, level := q.level, urgency := s.journalUrgency g q.urgency, outcome := plainOutcome atLimit hard } true
  match c with
  | .health => s2.mutedFault g o t
  | _ => s2

/-! ## Fades (R85, R88 to R90) -/

/-- R66: the progress of a fade. -/
def progress (s : State) (start : Word) : Nat := (s.framer.count - start).toNat

/-- R88: origin and destination exchanged, k becoming F less its value. -/
def reversed (s : State) (o d : Source) (n : Nat) (start : Word) (ret : Bool) : GroupState :=
  .fading d o n (s.framer.count - BitVec.ofNat 32 (n - s.progress start)) ret

/-- R85: the fade is complete, and the group settles on the destination. -/
def fadeDone (s : State) (g : Fin 8) : State :=
  match (s.group g).st with
  | .settled _ => s
  | .fading _ d _ _ _ => s.place g (.settled d) false

/-- R71 step 1. -/
def fadeProgress (s : State) (g : Fin 8) : State :=
  match (s.group g).st with
  | .settled _ => s
  | .fading _ _ n start _ => if n ≤ s.progress start then s.fadeDone g else s

/-- R89: every such request is taken as due; the first in rank whose target is a third source and eligible. -/
def thirdRequest (s : State) (g : Fin 8) (o d : Source) : Option (Cause × SwitchReq × Source) :=
  ((ranked (s.group g).requests).filterMap (fun x =>
    match x.1, x.2.target with
    | .health, _ => none
    | c, some t => if t ≠ o ∧ t ≠ d ∧ s.targetEligible g t (hardPerm c x.2.hard) = true then some (c, x.2, t) else none
    | _, none => none)).head?

/-- R89's first case; onto an OUT OF STEP rig it is a cut, by R87 (log 55). It is journaled with the request's urgency (log 63). -/
def fadeToThird (s : State) (g : Fin 8) (o d : Source) (n : Nat) (start : Word) (c : Cause) (q : SwitchReq) (t : Source) : State :=
  let hard := s.hardRig g t
  let st := if s.eligible g o = true ∧ hard = false then .fading o t n start false else .settled t
  let s1 := s.setGroup g ((s.group g).setSlot c none)
  s1.carry g d st hard (holdAfter c q.level)
    { cause := c, level := q.level, urgency := s.journalUrgency g q.urgency,
      outcome := plainOutcome ((s.group g).limitReached && q.urgency == .atBoundary) hard } true

/-- R89's third case; `c` is HEALTH, or LOCAL on a JOINED follower. -/
def fadeFailed (s : State) (g : Fin 8) (o d : Source) (c : Cause) : State :=
  let t := (s.healthChoice g [o, d]).getD .mute
  let hard := s.hardRig g t
  (s.carry g d (.settled t) hard 0
    { cause := c, level := GroupPolicy.level (s.policy g) c, urgency := .immediate, outcome := plainOutcome false hard } true).mutedFault g d t

/-- R89's second case: the fade returns to its origin. -/
def fadeReturn (s : State) (g : Fin 8) (o d : Source) (n : Nat) (start : Word) (c : Cause) : State :=
  s.carry g d (s.reversed o d n start true) false 0
    { cause := c, level := GroupPolicy.level (s.policy g) c, urgency := .immediate, outcome := .reversed } true

/-- R90. -/
def cutShort (s : State) (g : Fin 8) (o d : Source) (c : Cause) : State :=
  s.carry g o (.settled d) false (s.group g).h
    { cause := c, level := GroupPolicy.level (s.policy g) c, urgency := .immediate, outcome := .cutShort } true

/-- R89: the destination has failed. -/
def destinationFailed (s : State) (g : Fin 8) (o d : Source) (n : Nat) (start : Word) (ret : Bool) (c : Cause) : State :=
  let s1 := s.setGroup g ({ s.group g with h := 0 } : Group)
  let s2 := s1.setGroup g ((s1.group g).drop .health)
  match s2.thirdRequest g o d with
  | some (k, q, t) => s2.fadeToThird g o d n start k q t
  | none => if s2.eligible g o = true ∧ ret = false then s2.fadeReturn g o d n start c else s2.fadeFailed g o d c

/-- R71 step 2: the fade watch, and whether it switched the group. -/
def fadeWatch (s : State) (g : Fin 8) : State × Bool :=
  match (s.group g).st with
  | .settled _ => (s, false)
  | .fading o d n start ret =>
    if s.eligible g d = false then (s.destinationFailed g o d n start ret .health, true)
    else if s.eligible g o = false ∧ ret = false then (s.cutShort g o d .health, true)
    else (s, false)

/-! ## Needs (R72 to R74, R76) -/

def request (s : State) (g : Fin 8) (c : Cause) (t : Option Source) (u : Urgency) : SwitchReq :=
  { target := t, urgency := u, level := GroupPolicy.level (s.policy g) c, hard := false, latched := s.framer.count }

def dropCause (s : State) (g : Fin 8) (c : Cause) : State := s.setGroup g ((s.group g).drop c)

/-- A HEALTH request into an empty slot (log 32). -/
def latchHealth (s : State) (g : Fin 8) (u : Urgency) : State :=
  match (s.group g).health with
  | some _ => s
  | none => s.setGroup g { (s.group g).latch .health (s.request g .health none u) with healthMoved := false }

/-- R72, R73: the source has failed: h is 0, and an IMMEDIATE HEALTH request stands. -/
def needNow (s : State) (g : Fin 8) : State :=
  let s1 := s.setGroup g ({ s.group g with h := 0 } : Group)
  match (s1.group g).health with
  | some q => s1.setGroup g ({ s1.group g with health := some { q with urgency := .immediate }, healthMoved := false } : Group).settleTimer
  | none => s1.latchHealth g .immediate

/-- R74: an IMMEDIATE HEALTH request stands; one that stood AT BOUNDARY is replaced (R70). -/
def latchNow (s : State) (g : Fin 8) : State :=
  if (s.group g).health.isSome = true ∧ isBoundary (s.group g).health = false then s
  else (s.dropCause g .health).latchHealth g .immediate

/-- R74: some source of the list is eligible, hard targets of group 0 included. -/
def someEligible (s : State) (g : Fin 8) : Bool := (s.policy g).fallback.any (fun x => s.targetEligible g x true)

/-- R88: a HEALTH request latched for a source the group has left is dropped on MUTE, after a cut too (log 65). -/
def dropMoved (s : State) (g : Fin 8) : State := if (s.group g).healthMoved then s.dropCause g .health else s

/-- R74, R88; while STOPPED a request that a start candidate latched is dropped like R74's own (log 69). -/
def needsMute (s : State) (g : Fin 8) : State :=
  let s1 := s.dropMoved g
  if s1.someEligible g then (if (s1.group g).h = 0 then s1.latchNow g else s1) else s1.dropCause g .health

/-- R72, R88: a SUSPECT source. A request that stands IMMEDIATE for a source the group has left is judged afresh (log 16). -/
def needsSuspect (s : State) (g : Fin 8) : State :=
  if (s.group g).healthMoved = true ∧ isBoundary (s.group g).health = false then (s.dropCause g .health).latchHealth g .atBoundary
  else s.latchHealth g .atBoundary

/-- R72: the HEALTH slot while the program is RUNNING or FREE. -/
def needsPlaying (s : State) (g : Fin 8) (src : Source) : State :=
  if src = .mute then s.needsMute g
  else if s.eligible g src = false then s.needNow g
  else if s.suspectSource src then s.needsSuspect g
  else s.dropCause g .health

/-- R76's first four conditions. -/
def revertWanted (s : State) (g : Fin 8) (src : Source) : Bool :=
  let p := s.policy g
  p.revertOn && (match p.fallback.head? with
    | none => false
    | some t => t != src && s.goodFor t p.revertSettle) && s.policyInUse.revertAllowed

/-- R76. -/
def needsRevert (s : State) (g : Fin 8) (src : Source) : State :=
  if s.revertWanted g src then
    match (s.group g).revert with
    | some _ => s
    | none => s.setGroup g ((s.group g).latch .revert (s.request g .revert (s.policy g).fallback.head? .atBoundary))
  else s.dropCause g .revert

/-- R73, with R74 for MUTE. -/
def needsStopped (s : State) (g : Fin 8) (src : Source) (candidate : Bool) : State :=
  let s1 := if s.sourceHealth src .failed then s.needNow g else s
  let s2 := if g = 0 ∧ candidate = true then s1.latchHealth g .immediate else s1
  if src = .mute then s2.needsMute g else s2

/-- R71 step 3, and whether the deferral timer was set to 0 here (R80). -/
def needs (s : State) (g : Fin 8) (candidate : Bool) : State × Bool :=
  match (s.group g).st with
  | .fading _ _ _ _ _ => (s, false)
  | .settled src =>
    if s.playing then
      let m := s.needsPlaying g src
      let t := m.needsRevert g src
      (t, (t.group g).waits && !((s.group g).waits && (m.group g).waits))
    else (s.needsStopped g src candidate, false)

/-! ## Deferral (R80, R81) -/

/-- The request a placed switch was. -/
def placedRequest (p : Placed) : SwitchReq :=
  { target := some p.target, urgency := .atBoundary, level := p.level, hard := p.hard, latched := p.latched }

/-- The AT BOUNDARY requests of a group, the placed switch counted among them (R93), in the order equal levels rank (R79). -/
def waitingRequests (g : Group) : List (Cause × SwitchReq) :=
  let all := (match g.placed with | some p => [(p.cause, placedRequest p)] | none => [])
    ++ g.requests.filter (fun x => x.2.urgency == .atBoundary)
  [Cause.operator, Cause.health, Cause.revert].flatMap (fun c => all.filter (fun x => x.1 == c))

/-- R81: the cause of the highest-ranked AT BOUNDARY request. -/
def waitingCause (g : Group) : Option Cause := ((ranked (waitingRequests g)).head?).map (fun x => x.1)

/-- R81: the timer reaches the deferral limit. -/
def limitHit (s : State) (g : Fin 8) : State :=
  let n := (s.policy g).deferral
  let x := s.group g
  let s1 := s.setGroup g { x with timer := some n }
  if 0 < n ∧ x.limitReached = false then
    (s1.setGroup g { s1.group g with limitReached := true }).raise .deferralLimit (.group g) (.waited (waitingCause x) n)
  else s1

/-- R71 step 4. -/
def deferral (s : State) (g : Fin 8) (fresh : Bool) : State :=
  match (s.group g).timer with
  | none => s
  | some t =>
    if fresh then s
    else if (s.policy g).deferral ≤ t + 1 then s.limitHit g
    else s.setGroup g { s.group g with timer := some (t + 1) }

/-! ## Service (R79, R88) -/

/-- R80: the deferral timer is at the limit in force, also where WRITE GROUP has raised it since it was reached (log 61). -/
def atLimit (s : State) (g : Fin 8) : Bool :=
  match (s.group g).timer with
  | none => false
  | some t => decide ((s.policy g).deferral ≤ t)

/-- R57: the program position is a switch position of the program cue. -/
def onSwitchPoint (s : State) : Bool := s.playing && CuePolicy.switchPosition s.policyInUse s.prog.pos.pos.toNat

/-- R57, R80: an AT BOUNDARY request latched before this output period finds a switch point; one that such a period does not serve
waits for the next switch position or for the limit (log 54). -/
def pointReached (s : State) (g : Fin 8) : Bool :=
  s.onSwitchPoint
    && (s.group g).requests.any (fun x => x.2.urgency == .atBoundary && decide (x.2.latched ≠ s.framer.count))

/-- R79, R80: a request is due; on a leader whose followers are gone also beside a placed switch (log 43). -/
def due (s : State) (g : Fin 8) (q : SwitchReq) : Bool :=
  q.urgency == .immediate || !s.eligible g (s.group g).st.current
    || (!s.placing && (s.pointReached g || s.atLimit g))

/-- R81: a switch made now by a request is journaled AT LIMIT. -/
def throughLimit (s : State) (g : Fin 8) (q : SwitchReq) (reachedNow : Bool) : Bool :=
  q.urgency == .atBoundary && (s.group g).limitReached && (!reachedNow || !s.pointReached g)

/-- R79: the requests above h that are due, in rank order. -/
def dueRequests (s : State) (g : Fin 8) : List (Cause × SwitchReq) :=
  ranked ((s.group g).requests.filter (fun x => decide ((s.group g).h < x.2.level) && s.due g x.2))

/-- R77, R83: a request whose target the group is already on is satisfied (log 18). -/
def satisfied (s : State) (g : Fin 8) (c : Cause) (q : SwitchReq) : State :=
  s.setGroup g ({ (s.group g).setSlot c none with
    h := match c with | .operator => q.level | _ => (s.group g).h } : Group).settleTimer

/-- R79: the first due request with an eligible target is carried out; it waits where the fade watch has made this period's switch. -/
def serve (s : State) (g : Fin 8) (reachedNow switched : Bool) : List (Cause × SwitchReq) → State
  | [] => s
  | (c, q) :: m =>
    match s.requestTarget g c q with
    | none => s.serve g reachedNow switched m
    | some t =>
      if c = .health ∨ s.targetEligible g t (hardPerm c q.hard) = true then
        if t = (s.group g).st.current then s.satisfied g c q
        else if switched then s
        else s.carryRequest g c q t (s.throughLimit g q reachedNow)
      else if c = .revert then (s.dropCause g .revert).serve g reachedNow switched m
      else s.serve g reachedNow switched m

/-- R88: the service step of a FADING group, without a reversal where the fade watch has made this period's switch (R79). -/
def serveFading (s : State) (g : Fin 8) (o d : Source) (n : Nat) (start : Word) (reachedNow switched : Bool) :
    List (Cause × SwitchReq) → State
  | [] => s
  | (c, q) :: m =>
    if c = .health ∨ q.level ≤ (s.group g).h then s.serveFading g o d n start reachedNow switched m
    else if q.target = some d then
      (s.satisfied g c q).serveFading g o d n start reachedNow switched m
    else if q.target = some o ∧ s.eligible g o = true ∧ switched = false then
      (s.setGroup g ((s.group g).setSlot c none)).carry g d (s.reversed o d n start false) false (holdAfter c q.level)
        { cause := c, level := q.level, urgency := s.journalUrgency g q.urgency,
          outcome := if s.throughLimit g q reachedNow then .atLimit else .reversed } true
    else s.serveFading g o d n start reachedNow switched m

/-- R71 step 5. -/
def service (s : State) (g : Fin 8) (reachedNow switched : Bool) : State :=
  match (s.group g).st with
  | .settled _ => s.serve g reachedNow switched (s.dueRequests g)
  | .fading o d n start _ => s.serveFading g o d n start reachedNow switched (s.dueRequests g)

/-! ## Placement (R93, R94) -/

/-- R93: a new request with the placed target is dropped as satisfied, an IMMEDIATE OPERATOR one too (log 56); a HEALTH one has the
target of its present choice (log 44). -/
def dropPlaced (s : State) (g : Fin 8) (p : Placed) : State :=
  let x := s.group g
  let op : Bool := match x.op with | some q => q.target == some p.target | none => false
  let rv : Bool := match x.revert with | some q => q.target == some p.target | none => false
  let hl : Bool := match x.health with
    | some q => q.urgency == .atBoundary && s.boundaryChoice g [x.st.current] == some p.target
    | none => false
  let pin := match x.op with | some q => if op then some q.level else p.pin | none => p.pin
  s.setGroup g { x with op := if op then none else x.op, revert := if rv then none else x.revert,
                        health := if hl then none else x.health, placed := some { p with pin := pin } }

/-- R93: before service, on a group with a placed switch whose current source is eligible (log 33). -/
def satisfyPlaced (s : State) (g : Fin 8) : State :=
  match (s.group g).placed with
  | none => s
  | some p => if s.eligible g (s.group g).st.current then s.dropPlaced g p else s

/-- R83: h after a placed switch. -/
def placedHold (p : Placed) : Nat := match p.pin with | some n => n | none => holdAfter p.cause p.level

/-- R94: a placed switch is carried out; `tell` says whether the vector entry changes with it. It is journaled AT BOUNDARY under every
deferral limit (log 45), and AT LIMIT only where the limit has moved it (log 68). -/
def placedCarry (s : State) (g : Fin 8) (p : Placed) (outcome : Option SwitchOutcome) (tell : Bool) : State :=
  let o := (s.group g).st.current
  let hard := s.hardRig g p.target
  (s.carry g o (s.switchState g p.target (s.policy g).fade hard) hard (placedHold p)
    { cause := p.cause, level := p.level, urgency := .atBoundary,
      outcome := match outcome with | some x => x | none => plainOutcome p.moved hard } tell)

/-- R94: the target is found ineligible. -/
def placedWithdraw (s : State) (g : Fin 8) (p : Placed) : State :=
  let x := s.group g
  let op := if p.cause = .operator ∧ x.op = none then some (placedRequest p) else x.op
  let s1 := s.setGroup g ({ x with placed := none, op := op } : Group).settleTimer
  s1.vectorNow g 0

/-- R58, R59: the minimum distance of a switch point, none once no follower is present. -/
def searchLead (s : State) : Nat := if s.leadsFollowers then s.ctl.policies.g0.gangLead else 0

/-- R58, R59: the switch point searched from the program position. -/
def searchPoint (s : State) : Option ShowPos :=
  (search s.policyInUse (s.prog.pos.pos.toNat + s.searchLead)).map
    (fun x => { cue := s.prog.pos.cue, pos := BitVec.ofNat 32 x })

/-- R59: an open switch point is searched again at a program cue change, also on a leader whose followers are gone (log 60). -/
def placedReopen (s : State) (g : Fin 8) (p : Placed) (cueChanged : Bool) : State :=
  if p.point = none ∧ cueChanged = true then
    match s.searchPoint with
    | none => s
    | some x => (s.setGroup g { s.group g with placed := some { p with point := some x } }).changeVector g p.target x (s.policy g).fade .atBoundary
  else s

/-- R94: the point lies more than the gang lead beyond the program position, or is open. -/
def farAhead (s : State) (p : Placed) : Bool :=
  match p.point with
  | none => true
  | some x => decide (s.prog.pos.pos.toNat + s.ctl.policies.g0.gangLead < x.pos.toNat)

/-- R94: the deferral limit moves the placed switch; one placed with the timer already at the limit moves at its first judgement (log 62). -/
def placedMove (s : State) (g : Fin 8) (p : Placed) : State :=
  if s.atLimit g = true ∧ p.moved = false ∧ s.farAhead p = true then
    let x : ShowPos := { cue := s.prog.pos.cue, pos := s.prog.pos.pos + BitVec.ofNat 32 s.ctl.policies.g0.gangLead }
    (s.setGroup g { s.group g with placed := some { p with point := some x, moved := decide (0 < (s.policy g).deferral) } }).changeVector g
      p.target x (s.policy g).fade .atBoundary
  else s

/-- R94, for a placed switch with its switch point found or open. LATE leaves the vector entry of a leader with followers (log 42). -/
def placedJudge (s : State) (g : Fin 8) (p : Placed) : State :=
  match p.point with
  | none => s.placedMove g p
  | some x =>
    if s.prog.pos = x then s.placedCarry g p none (!s.leadsFollowers)
    else if s.prog.pos.cue ≠ x.cue ∨ x.pos.toNat < s.prog.pos.pos.toNat then s.placedCarry g p (some .late) (!s.leadsFollowers)
    else s.placedMove g p

/-- R94's table at a placement step. -/
def placedStep (s : State) (g : Fin 8) (p : Placed) (cueChanged : Bool) : State :=
  if s.targetEligible g p.target (hardPerm p.cause p.hard) = false then s.placedWithdraw g p
  else
    let s1 := s.placedReopen g p cueChanged
    match (s1.group g).placed with
    | none => s1
    | some q => s1.placedJudge g q

/-- R93: a request becomes the placed switch. -/
def placeRequest (s : State) (g : Fin 8) (c : Cause) (q : SwitchReq) (t : Source) : State :=
  let pt := s.searchPoint
  let s1 := s.setGroup g { (s.group g).setSlot c none with
    placed := some { cause := c, level := q.level, target := t, hard := q.hard, point := pt, moved := false, pin := none, latched := q.latched } }
  match pt with
  | none => s1
  | some x => s1.changeVector g t x (s.policy g).fade .atBoundary

/-- R93: the first AT BOUNDARY request above h with a target is placed. -/
def placeFirst (s : State) (g : Fin 8) : List (Cause × SwitchReq) → State
  | [] => s
  | (c, q) :: m =>
    match s.requestTarget g c q with
    | none => s.placeFirst g m
    | some t =>
      if c = .health ∨ s.targetEligible g t (hardPerm c q.hard) = true then
        (if t = (s.group g).st.current then s.satisfied g c q else s.placeRequest g c q t)
      else if c = .revert then (s.dropCause g .revert).placeFirst g m
      else s.placeFirst g m

/-- R71 step 6; a request that was pending when the first follower came is placed like any other (log 59). -/
def placement (s : State) (g : Fin 8) (cueChanged : Bool) : State :=
  match (s.group g).st, (s.group g).placed with
  | .fading _ _ _ _ _, _ => s
  | .settled _, some p => s.placedStep g p cueChanged
  | .settled _, none =>
    if s.placing then
      s.placeFirst g (ranked ((s.group g).requests.filter
        (fun x => decide ((s.group g).h < x.2.level) && x.2.urgency == .atBoundary)))
    else s

/-! ## A JOINED follower (R95, R152 to R156) -/

def flagEmergency (s : State) (g : Fin 8) : State :=
  s.setGang { s.gang with emergency := s.gang.emergency.set g true }

/-- R95: the current source calls for a local emergency. -/
def emergencySource (s : State) (g : Fin 8) (x : Source) : Bool :=
  match Source.rig x with
  | none => false
  | some r => (s.monitor r).state == .failed || (s.monitor r).state == .offline || (decide (g ≠ 0) && s.stepOf r == .outOfStep)

/-- R95: the local emergency switch of a SETTLED group. -/
def emergency (s : State) (g : Fin 8) (src : Source) : State :=
  match s.healthChoice g [src] with
  | none => s
  | some t =>
    let hard := s.hardRig g t
    ((s.carry g src (s.switchState g t (s.policy g).fade hard) hard 0
      { cause := .localEmergency, level := GroupPolicy.level (s.policy g) .localEmergency, urgency := .immediate,
        outcome := plainOutcome false hard } true).mutedFault g src t).flagEmergency g

/-- R89, R90, R95: the fade's destination calls for R89: it is a source of a local emergency, or it and the origin are both found
ineligible (log 24). -/
def joinedFails (s : State) (g : Fin 8) (o d : Source) (ret : Bool) : Bool :=
  !s.eligible g d && (s.emergencySource g d || (!s.eligible g o && !ret))

/-- R95 at the fade watch and the needs step. -/
def joinedWatch (s : State) (g : Fin 8) : State :=
  match (s.group g).st with
  | .settled src => if s.emergencySource g src then s.emergency g src else s
  | .fading o d n start ret =>
    if s.joinedFails g o d ret then (s.destinationFailed g o d n start ret .localEmergency).flagEmergency g
    else if s.eligible g d = true ∧ s.eligible g o = false ∧ ret = false then (s.cutShort g o d .localEmergency).flagEmergency g
    else s

/-- R152's judgement of a waiting entry. -/
inductive Verdict where | waits | onTime | passed
deriving DecidableEq, Repr

def judge (s : State) (w : Waiting) : Verdict :=
  if s.prog.state = .stopped then .onTime
  else
    match w.point with
    | none => .waits
    | some x =>
      if x.cue = s.prog.pos.cue then
        (if s.prog.pos.pos.toNat < x.pos.toNat then .waits else if s.prog.pos.pos = x.pos then .onTime else .passed)
      else if s.gang.leaderPrevCue = some s.prog.pos.cue ∧ s.gang.leaderPos.cue = x.cue then .waits
      else .passed

/-- R153: the group has applied its waiting entry. -/
def applied (s : State) (g : Fin 8) (w : Waiting) : State :=
  s.setGang { s.gang with applied := s.gang.applied.set g (some w.entry.order), waiting := s.gang.waiting.set g none,
                          emergency := s.gang.emergency.set g false }

/-- R153's kinds of switch for a group that is not yet on the target. A fade that gains an OUT OF STEP rig as its destination stays a
fade, as R153's fourth row says (log 49); a cut by its last row is no hard switch (log 67). -/
def gangSwitch (s : State) (g : Fin 8) (w : Waiting) (late : Bool) : State :=
  let t := w.entry.source
  let info (x : SwitchOutcome) : SwitchInfo :=
    { cause := .gang, level := 0, urgency := w.urgency, outcome := if late then .late else x }
  match (s.group g).st with
  | .fading o d n start _ =>
    if s.playing = false then s.carry g d (.settled t) false 0 (info .seamless) true
    else if t = o then s.carry g d (s.reversed o d n start false) false 0 (info .reversed) true
    else if s.eligible g o then s.carry g d (.fading o t n start false) false 0 (info .seamless) true
    else s.carry g d (.settled t) (s.hardRig g t) 0 (info (plainOutcome false (s.hardRig g t))) true
  | .settled o =>
    if s.playing = true ∧ s.hardRig g t = true then s.carry g o (.settled t) true 0 (info .hard) true
    else s.carry g o (s.switchState g t w.entry.fade (!s.eligible g t)) false 0 (info .seamless) true

/-- R153, R154: a waiting entry is applied. -/
def gangApply (s : State) (g : Fin 8) (w : Waiting) (passed : Bool) : State :=
  let s1 := s.applied g w
  if (s.group g).st.current = w.entry.source then s1
  else
    let late := passed && w.urgency == .atBoundary
    let s2 := s1.gangSwitch g w late
    if late then s2.raise .gangLate (.group g) (.order w.entry.order s.prog.pos) else s2

/-- R156: an entry without a position takes one at a program cue change. -/
def waitingPoint (s : State) (g : Fin 8) (cueChanged : Bool) : State :=
  match s.gang.waiting.get g with
  | none => s
  | some w =>
    if w.point = none ∧ cueChanged = true then
      match search s.policyInUse s.prog.pos.pos.toNat with
      | none => s
      | some x =>
        s.setGang { s.gang with waiting := s.gang.waiting.set g (some { w with point := some { cue := s.prog.pos.cue, pos := BitVec.ofNat 32 x } }) }
    else s

/-- R152 at the service step. -/
def joinedService (s : State) (g : Fin 8) : State :=
  match s.gang.waiting.get g with
  | none => s
  | some w =>
    match s.judge w with
    | .waits => s
    | .onTime => s.gangApply g w false
    | .passed => s.gangApply g w true

/-! ## One group and all groups (R71) -/

/-- The steps of R71 for one group of a unit that decides for itself. -/
def ownGroup (s : State) (g : Fin 8) (candidate cueChanged : Bool) : State :=
  let s1 := s.fadeProgress g
  let w := s1.fadeWatch g
  let n := w.1.needs g candidate
  let before := (n.1.group g).limitReached
  let s2 := n.1.deferral g n.2
  let s3 := s2.satisfyPlaced g
  let s4 := s3.service g (!before && (s3.group g).limitReached) w.2
  s4.placement g cueChanged

/-- The steps of R71 as R95 limits them. -/
def joinedGroup (s : State) (g : Fin 8) (cueChanged : Bool) : State :=
  (((s.fadeProgress g).joinedWatch g).waitingPoint g cueChanged).joinedService g

def groupStep (candidate cueChanged : Bool) (s : State) (g : Fin 8) : State :=
  if s.joined then s.joinedGroup g cueChanged
  else if s.discovering then s
  else s.ownGroup g candidate cueChanged

/-- The switch controller's work at an output period. The good-since stamps are judged once, before group 0's steps (log 53). -/
def controllerPeriod (s : State) (candidate cueChanged : Bool) : State :=
  allGroups.foldl (groupStep candidate cueChanged) s.stampPeriod

/-! ## Operator requests (R77, R78) -/

/-- R77: FORCE SOURCE on one group. -/
def forceGroup (s : State) (t : Source) (u : Urgency) (hard : Bool) (g : Fin 8) : State :=
  let x := s.group g
  let lv := (s.policy g).operatorLevel
  if x.st.current = t then s.setGroup g { x.drop .operator with h := lv }
  else
    s.setGroup g { x.latch .operator { target := some t, urgency := u, level := lv, hard := hard, latched := s.framer.count } with h := 0 }

/-- R78: RELEASE FORCE on one group; the pin of a placed switch stays (log 64). -/
def releaseGroup (s : State) (g : Fin 8) : State := s.setGroup g { (s.group g).drop .operator with h := 0 }

/-! ## The program's entry into STOPPED (R82) -/

def operatorNow (q : Option SwitchReq) : Option SwitchReq := q.map (fun x => { x with urgency := .immediate })

/-- R82 for one group. -/
def stopGroup (s : State) (g : Fin 8) : State :=
  let s1 := s.fadeDone g
  let x := s1.group g
  let s2 := s1.setGroup g { x with health := none, revert := none, op := operatorNow x.op, timer := none, limitReached := false }
  match x.placed with
  | none => s2
  | some p => s2.placedCarry g p none true

def stopGroups (s : State) : State := allGroups.foldl stopGroup s

/-! ## Changes of gang state (R95, R146, R156) -/

def clearTables (s : State) : State := s.setCtl { s.ctl with groups := s.ctl.groups.map Group.clearTable }

end State

end Sys2Proof.Machine
end

