-- ==== Sys2Proof/Machine/Program.lean ====
section
/-! DEFINITION. The program (01 section 1.4, R5 to R16): entry into STOPPED, the held anchor, the start grace timer, the due
lookup, FREE, and the program cue change. -/

namespace Sys2Proof.Machine

namespace State

/-! ## Cue changes and stops (R7, R11, R48, R52, R54) -/

/-- R52: the staged edit is applied, with its record-changed notice. -/
def applyEdit (s : State) : State :=
  match s.cues.staged with
  | none => s
  | some x => (s.setCues s.cues.applyStaged).recordChanged x.cue

/-- R52, R54, R138: the program cue change event at the cue map and the bed player. -/
def cueChange (s : State) : State :=
  let s1 := s.applyEdit
  (s1.setCues { s1.cues with inUse := some s1.prog.pos.cue.toNat }).playerCueChange

/-- R11: the program record at an entry into STOPPED. -/
def stoppedProgram (p : Program) (dSet : Nat) : Program :=
  { p with state := .stopped, pos := Reset.show0, due := none, held := none, anchorPending := false, grace := none,
           graceSpent := false, dInForce := dSet, dueSet := false, eSlot := none }

/-- R11, R52, R82, R135: the program enters STOPPED. -/
def enterStopped (s : State) : State :=
  let s1 := (s.setProg (stoppedProgram s.prog s.ctl.policies.g0.dSet)).applyEdit
  (s1.setCues { s1.cues with inUse := none }).stopGroups.playerRetrack

/-- R11: STOP PROGRAM. -/
def stopProgram (s : State) : State :=
  let s1 := if s.playing then s.enterStopped else s.setProg { s.prog with held := none, grace := none }
  s1.setProg { s1.prog with stopHold := true }

/-! ## STOPPED (R8, R9, R11, R12) -/

/-- R9: the rig's newest valid main frame is AUDIO. -/
def newestIsAudio (s : State) (r : Rig) : Bool := (s.rig r).newestAudio == some true

/-- A rig stands in group 0's fallback list. -/
def listed (s : State) (r : Rig) : Bool := s.ctl.policies.g0.fallback.contains (Rig.source r)

/-- R11: the stop hold clears. -/
def holdClear (s : State) : State :=
  if s.prog.stopHold = true ∧ (s.listed .a && s.newestIsAudio .a) = false ∧ (s.listed .b && s.newestIsAudio .b) = false then
    s.setProg { s.prog with stopHold := false }
  else s

/-- R9: the start candidate's conditions for one source. -/
def candidateRig (s : State) (x : Source) : Bool :=
  match Source.rig x with
  | none => false
  | some r => s.newestIsAudio r && goodHealth (s.monitor r).state

/-- R9: a start candidate is reported. -/
def startCandidate (s : State) : Bool :=
  s.prog.state == .stopped && s.timingRig.isNone && !s.prog.stopHold && s.ctl.policies.g0.fallback.any s.candidateRig

/-- R12's conditions, for timing rig `r`. -/
def graceHolds (s : State) (r : Rig) : Bool :=
  s.prog.held.isNone && !s.prog.stopHold && !s.newestIsAudio r && s.listed (Rig.other r) && s.newestIsAudio (Rig.other r)
    && (let h := (s.monitor (Rig.other r)).state
        h != .offline && h != .qualifying && h != .failed)

/-- R12, R73: the start grace timer reaches 0. -/
def graceExpire (s : State) (r : Rig) : State :=
  let s1 := s.noStart r
  let s2 := s1.setProg { s1.prog with grace := none, graceSpent := true }
  if s2.joined = true ∨ s2.discovering = true then s2 else s2.latchHealth 0 .immediate

/-- R12 at an output period. -/
def gracePeriod (s : State) : State :=
  match s.timingRig with
  | none => s.setProg { s.prog with grace := none, graceSpent := false }
  | some r =>
    if s.graceHolds r then
      match s.prog.grace with
      | none => if s.prog.graceSpent then s else s.setProg { s.prog with grace := some s.ctl.policies.g0.startGrace }
      | some n => if n ≤ 1 then s.graceExpire r else s.setProg { s.prog with grace := some (n - 1) }
    else s.setProg { s.prog with grace := none, graceSpent := false }

/-- R8: the anchor's entry is still found by slot in the timing rig's ring. -/
def anchorFound (s : State) (h : HeldAnchor) : Bool := ((s.rig h.rig).bySlot h.arrival).isSome

def anchorSlot (s : State) (h : HeldAnchor) : Word := h.arrival + BitVec.ofNat 32 s.prog.dInForce

/-- R8: the program enters RUNNING at the held anchor. -/
def anchorStart (s : State) (h : HeldAnchor) : State :=
  s.setProg { s.prog with
    state := .running, pos := h.pos, due := some h.arrival, held := none, dueSet := true, eSlot := some (s.anchorSlot h) }

/-- R8 at an output period of period slot `k`. -/
def anchorPeriod (s : State) (k : Word) : State :=
  match s.prog.held with
  | none => s
  | some h =>
    if s.anchorFound h = false then s.setProg { s.prog with held := none }
    else if k = s.anchorSlot h then s.anchorStart h
    else s

def stoppedPeriod (s : State) (k : Word) : State :=
  let s1 := s.anchorPeriod k
  if s1.playing then s1.setProg { s1.prog with dueSet := false } else s1.gracePeriod

/-! ## RUNNING (R10, R13) -/

/-- R10: the due slot is at the timing rig's stop mark or after it. -/
def stopDue (s : State) (r : Rig) : Bool :=
  match (s.rig r).stopMark, s.prog.due with
  | some m, some d => decide (0 ≤ Word.diff d m)
  | _, _ => false

/-- R13: the previous position plus one, same cue. -/
def ShowPos.succ (p : ShowPos) : ShowPos := { p with pos := p.pos + 1 }

/-- R13's table: the program position from the due lookup's entry. -/
def programNext (p : ShowPos) (pending : Bool) : Option RingEntry → ShowPos
  | none => ShowPos.succ p
  | some e =>
    if pending then e.pos
    else if e.pos.cue = p.cue then (if e.pos.pos = p.pos + 1 then e.pos else ShowPos.succ p)
    else if e.pos.pos.toNat ≤ 3 then e.pos
    else ShowPos.succ p

/-- R13: the lookup of the due slot. -/
def dueEntry (s : State) (r : Rig) : Option RingEntry :=
  match s.prog.due with
  | none => none
  | some d => (s.rig r).bySlot d

def dueLookup (s : State) (r : Rig) : State :=
  let e := s.dueEntry r
  s.setProg { s.prog with pos := programNext s.prog.pos s.prog.anchorPending e, anchorPending := s.prog.anchorPending && e.isNone }

def dueAdvance (s : State) : State := s.setProg { s.prog with due := s.prog.due.map (fun d => d + 1) }

def runningPeriod (s : State) : State :=
  if s.prog.dueSet then s.setProg { s.prog with dueSet := false }
  else
    let s1 := s.dueAdvance
    match s1.timingRig with
    | none => s1
    | some r => if s1.stopDue r then s1.enterStopped else s1.dueLookup r

/-! ## FREE (R15) -/

def freePeriod (s : State) : State :=
  let s1 := s.dueAdvance
  let s2 := s1.setProg { s1.prog with pos := ShowPos.succ s1.prog.pos }
  match s2.policyInUse.length with
  | some n => if s2.prog.pos.pos.toNat = n then s2.enterStopped else s2
  | none => s2

/-! ## An output period (R7) -/

/-- R7: the program cue differs from the previous output period's. -/
def cueDiffers (s : State) : Bool := s.playing && s.prog.pos.cue != s.prog.prevCue

/-- The event of R7, unless HELD_ANCHOR_DUE has already raised it. -/
def cueEvent (s : State) : State :=
  if s.cueDiffers = true ∧ s.cues.inUse ≠ some s.prog.pos.cue.toNat then s.cueChange else s

/-- R5: from here on the running delay is measured from the period slot just taken. -/
def dropAnchorSlot (s : State) : State := s.setProg { s.prog with eSlot := none }

/-- The program's work at an output period of period slot `k`, from GANG WAIT on (R174). -/
def programPeriod (s : State) (k : Word) : State :=
  let s1 := s.dropAnchorSlot.holdClear
  (match s1.prog.state with
   | .stopped => s1.stoppedPeriod k
   | .running => s1.runningPeriod
   | .free => s1.freePeriod).cueEvent

end State

end Sys2Proof.Machine
end

