-- ==== Sys2Proof/Machine/Assembly.lean ====
section
/-! DEFINITION. The route table and output assembly (05, R99 to R112): the pending commit, the guards, patching, the mix of a
fade, and the output frame. -/

namespace Sys2Proof.Machine

/-! ## Routes (R99, R102) -/

/-- R99: all four fields lie in range. -/
def routeValid (e : RouteEntry) : Bool :=
  decide (e.group ≤ 7)
    && (match e.rigA with | none => true | some c => decide (c ≤ 63))
    && (match e.rigB with | none => true | some c => decide (c ≤ 63))
    && (match e.track with | none => true | some t => decide (t ≤ 3))

def routeGroup (e : RouteEntry) : Fin 8 := Fin.ofNat 8 e.group

def routeChannel (e : RouteEntry) : Rig → Option Nat | .a => e.rigA | .b => e.rigB

/-- R102: the shadow bank is copied as a whole. -/
def RouteTable.commitNow (t : RouteTable) : RouteTable := { t with active := t.shadow, commit := none }

namespace State

/-- R102: the pending commit is due at this output period; `stopped` says that the period found the program STOPPED, as it stood
before the program's share. -/
def commitDue (s : State) (stopped : Bool) : Bool :=
  match s.routes.commit with
  | none => false
  | some .now => true
  | some .atCueChange => stopped || s.cueDiffers

def commitPeriod (s : State) (stopped : Bool) : State := if s.commitDue stopped then s.setRoutes s.routes.commitNow else s

/-! ## Guards (R106, R107) -/

/-- R106, R107: the rig's side of a group carries zero. -/
def silenced (s : State) (g : Fin 8) (r : Rig) : Bool :=
  (s.monitor r).state == .failed || (s.monitor r).state == .offline || (s.monitor r).state == .qualifying
    || (decide (g ≠ 0) && s.stepOf r == .outOfStep)

/-! ## Samples of one channel (R105, R108, R110) -/

/-- R105: the samples of the named rig channel. -/
def entrySamples (x : RingEntry) (c : Option Nat) : List Int :=
  match c with
  | none => zeros12
  | some n => if n < x.channels then x.samples.getD n zeros12 else zeros12

/-- R105: 16-bit bed samples in the upper 16 bits. -/
def bedChannel (s : State) (e : RouteEntry) : List Int :=
  match e.track with
  | none => zeros12
  | some t => ((s.bedSamples t).getD zeros12).map (fun x => x * 256)

/-- R108: the rig's own entry at the program position, past the guards. -/
def ownEntry (s : State) (g : Fin 8) (r : Rig) : Option RingEntry :=
  if s.silenced g r then none else (s.rig r).byPos s.prog.pos

/-- R108: the other rig's entry that patches a group settled on `r`. -/
def patchEntry (s : State) (g : Fin 8) (r : Rig) : Option RingEntry :=
  if s.silenced g r then none
  else
    match (s.rig r).byPos s.prog.pos with
    | some _ => none
    | none =>
      if goodHealth (s.monitor (Rig.other r)).state ∧ s.stepOf (Rig.other r) = .inStep then (s.rig (Rig.other r)).byPos s.prog.pos
      else none

/-- R110: a fade side, which is not patched (R109). -/
def sideSamples (s : State) (g : Fin 8) (e : RouteEntry) (x : Source) : List Int :=
  match Source.rig x with
  | some r => match s.ownEntry g r with | some n => entrySamples n (routeChannel e r) | none => zeros12
  | none => if x = .bed then s.bedChannel e else zeros12

/-- R105, R108: a settled source, patched from the other rig where R108 says so. -/
def settledSamples (s : State) (g : Fin 8) (e : RouteEntry) (x : Source) : List Int :=
  match Source.rig x with
  | some r =>
    match s.ownEntry g r with
    | some n => entrySamples n (routeChannel e r)
    | none => match s.patchEntry g r with | some n => entrySamples n (routeChannel e (Rig.other r)) | none => zeros12
  | none => if x = .bed then s.bedChannel e else zeros12

/-- R110: the nearest integer to `n / m`, halves away from zero. -/
def roundDiv (n : Int) (m : Nat) : Int :=
  if 0 ≤ n then ((2 * n.natAbs + m) / (2 * m) : Nat) else -(((2 * n.natAbs + m) / (2 * m) : Nat) : Int)

/-- R85, R110: sample period `j` of a mix at progress `k` of a fade of `n` frames. -/
def mixSample (k n j : Nat) (o d : Int) : Int :=
  roundDiv (o * ((12 * n - (12 * k + j + 1) : Nat) : Int) + d * ((12 * k + j + 1 : Nat) : Int)) (12 * n)

def mixFrom (k n : Nat) : Nat → List Int → List Int → List Int
  | j, o :: os, d :: ds => mixSample k n j o d :: mixFrom k n (j + 1) os ds
  | _, _, _ => []

/-- R105, R110: one channel from its group's record as it stands. -/
def channelSamples (s : State) (e : RouteEntry) : List Int :=
  let g := routeGroup e
  match (s.group g).st with
  | .settled x => s.settledSamples g e x
  | .fading o d n start _ =>
    if n ≤ s.progress start then s.sideSamples g e d
    else mixFrom (s.progress start) n 0 (s.sideSamples g e o) (s.sideSamples g e d)

/-! ## The output frame (R104, R170) -/

/-- The output frame of this output period; its sequence number is the port's. -/
def outputFrame (s : State) : MainFrame :=
  if s.playing then
    { kind := .audio, stopped := false, declared := false, pilot := false, seq := 0, pos := s.prog.pos,
      channels := s.routes.active.map s.channelSamples, role := 0, summary := s.summary }
  else
    { kind := .idle, stopped := true, declared := false, pilot := false, seq := 0, pos := Reset.show0, channels := [],
      role := 0, summary := s.summary }

/-- R108: some group settled on the rig is patched (log 35). -/
def rigPatched (s : State) (r : Rig) : Bool :=
  s.playing && allGroups.any (fun g => decide ((s.group g).st = .settled (Rig.source r)) && (s.patchEntry g r).isSome)

/-- R39: the patch notices of the frame formed from `f`, at most one for each rig. -/
def patchNotices (s f : State) : State :=
  let s1 := if f.rigPatched .a then s.patchNotice .a else s
  if f.rigPatched .b then s1.patchNotice .b else s1

end State

end Sys2Proof.Machine
end

