-- ==== Sys2Proof/Machine/Framer.lean ====
section
/-! DEFINITION. The output framer's slots (09 sections 9.2 and 9.4, R169 to R173, R144, R147): return frames, output frames, gang
frames, replies, and the clock of output periods. -/

namespace Sys2Proof.Machine

/-- R169: the reply a slot carries, the short holder's before the completion queue's, and the holders after it. -/
def Holders.next (h : Holders) : Option Reply × Holders :=
  match h.short with
  | r :: m => (some r, { h with short := m })
  | [] =>
    match h.completion with
    | r :: m => (some r, { h with completion := m })
    | [] => (none, h)

namespace State

/-! ## Frames -/

/-- R171: the return frame of a rig. -/
def returnFrame (s : State) (r : Rig) : MainFrame :=
  { kind := .idle, stopped := s.prog.state == .stopped, declared := false, pilot := false, seq := 0, pos := s.prog.pos,
    channels := [], role := s.role r, summary := s.summary }

/-- R169: the IDLE frame of the gang ports. -/
def gangFrame (s : State) : MainFrame :=
  { kind := .idle, stopped := false, declared := false, pilot := false, seq := 0, pos := Reset.show0, channels := [],
    role := 0, summary := s.summary }

/-- R144: the tick a leader builds; its vector is filled from GANG WAIT on (R150). -/
def tick (s : State) : Tick :=
  { hop := 1, size := s.gang.size, leader := s.prog.pos,
    vector := s.gang.vector.map (fun e => e.getD { source := .mute, effective := Reset.show0, order := 0, fade := 0, urgency := .immediate }) }

/-- R147: this unit's own entry. -/
def ownUnitEntry (s : State) : UnitEntry :=
  { position := s.gang.position, state := s.gang.state, healthA := (s.monitor .a).state, healthB := (s.monitor .b).state,
    stepA := s.stepOf .a, stepB := s.stepOf .b, emergency := s.gang.emergency, applied := s.gang.applied }

/-- R147: the report a follower builds; the entries dropped do not count among the two (log 48). -/
def gangReport (s : State) : List UnitEntry :=
  s.ownUnitEntry :: (s.gang.below.filter (fun e => decide (s.gang.position < e.position))).take 2

/-! ## One slot of one port (R169) -/

/-- A main frame is sent with the port's sequence number, which advances. -/
def sendFrame (s : State) (p : Port) (f : MainFrame) (side : Option OutSide) : State :=
  s.setFramer { s.framer with
    out := s.framer.out.set p { main := some (.frame { f with seq := s.framer.seqs.get p }), side := side }
    seqs := s.framer.seqs.set p (s.framer.seqs.get p + 1) }

/-- R169, R175: while the bypass is engaged the slot belongs to the relay. -/
def sendRelay (s : State) (p : Port) : State :=
  s.setFramer { s.framer with out := s.framer.out.set p { main := some .relay, side := none } }

/-- R171: the slot of a rig port. -/
def sendRig (s : State) (r : Rig) (p : CtlPort) : State :=
  let n := (s.holders p).next
  (s.setHolders p n.2).sendFrame (Rig.port r) (s.returnFrame r) (n.1.map OutSide.reply)

/-- R169, R170: the slot of an output port; a reply is discarded while the bypass is engaged. -/
def sendOutput (s : State) (p : CtlPort) (f : Option MainFrame) : State :=
  let n := (s.holders p).next
  let s1 := s.setHolders p n.2
  match f with
  | some x => s1.sendFrame (CtlPort.port p) x (n.1.map OutSide.reply)
  | none => s1.sendRelay (CtlPort.port p)

/-- R144, R145: the slot of GD. -/
def sendDown (s : State) : State :=
  let side := if s.acting = true ∧ s.gang.role = .leader then some (OutSide.tick s.tick) else s.gang.relay.map OutSide.tick
  (s.sendFrame .gd s.gangFrame side).setGang { s.gang with relay := none }

/-- R147: the slot of GU. -/
def sendUp (s : State) : State :=
  let side := if s.acting = true ∧ s.gang.role = .follower then some (OutSide.report s.gangReport) else none
  (s.sendFrame .gu s.gangFrame side).setGang { s.gang with below := [] }

/-- R185: the slot of RESET UNIT's reply has passed. -/
def resetSent (s : State) : State :=
  s.setFramer { s.framer with resetReq := s.framer.resetReq.map (fun q => { q with sent := true }) }

/-- R169: one outbound slot on every port; `f` is the output frame once the bypass is released. -/
def sendSlots (s : State) (f : Option MainFrame) : State :=
  ((((((s.sendRig .a .ra).sendRig .b .rb).sendOutput .o1 f).sendOutput .o2 f).sendUp).sendDown).resetSent

/-! ## The clock (R6, R172, R173) -/

/-- R172: the clock source of output periods, as it stands now. -/
def clockNow (s : State) : Clock :=
  match s.timingRig with
  | none => .localOsc
  | some r => if s.acting = true ∧ s.isUp (Rig.port r) = true then .link r else .localOsc

/-- R6, R22: the period slot of the next output period. -/
def nextSlot (s : State) : Word :=
  match s.clockNow with
  | .link r => (s.rig r).slotCount
  | .localOsc => match s.framer.periodSlot with | some k => k + 1 | none => 0

/-- R173: the count advances from the first output period of LOAD on. -/
def counting (s : State) : Bool := s.framer.run == .load || s.acting

/-- The counts of an output period (R172, R173, R174, R157). -/
def clockPeriod (s : State) : State :=
  s.setFramer { s.framer with
    clock := s.clockNow
    periodSlot := some s.nextSlot
    count := if s.counting then s.framer.count + 1 else s.framer.count
    holdCount := if s.framer.run = .hold ∧ s.framer.pinAsserted = false then s.framer.holdCount + 1 else s.framer.holdCount
    loadCount := if s.framer.run = .load then s.framer.loadCount + 1 else s.framer.loadCount
    waitCount := if s.framer.run = .gangWait then s.framer.waitCount + 1 else s.framer.waitCount }

/-- R175: the bypass is released at the first output period after the entry into RUNNING. -/
def bypassPeriod (s : State) : State :=
  if s.framer.run = .running then s.setFramer { s.framer with bypass := false } else s

end State

end Sys2Proof.Machine
end

