-- ==== Sys2Proof/Machine/Store.lean ====
section
/-! DEFINITION. The store controller (06, R113 to R116, R124 to R133): the sector map and pool, page reads and their ECC
outcomes, the write engine's steps, relocation, scrubbing, the erase backlog and the settings save. -/

namespace Sys2Proof.Machine

/-! ## The map, the pool and the directory (R114, R115, R119) -/

namespace Store

def physOf (t : Store) (l : Nat) : Nat := Sparse.get id l t.remap
def mapTo (t : Store) (l p : Nat) : Store := { t with remap := Sparse.put id l p t.remap }
def stateOf (t : Store) (l : Nat) : LogicalState := Sparse.get (fun _ => LogicalState.erased) l t.logical
def setState (t : Store) (l : Nat) (v : LogicalState) : Store :=
  { t with logical := Sparse.put (fun _ => LogicalState.erased) l v t.logical }
def countOf (t : Store) (l : Nat) : Nat := Sparse.get (fun _ => 0) l t.corrected
def setCount (t : Store) (l n : Nat) : Store := { t with corrected := Sparse.put (fun _ => 0) l n t.corrected }

def sector (t : Store) (p : Nat) : FlashSector := Memory.read t.flash p
def setSector (t : Store) (p : Nat) (v : FlashSector) : Store := { t with flash := Memory.write t.flash p v }

/-- R114: the pool stands in ascending physical number. -/
def addSpare (t : Store) (p : Nat) (e : Bool) : Store := { t with spares := Sparse.insert p e t.spares }
def dropSpare (t : Store) (p : Nat) : Store := { t with spares := Sparse.erase p t.spares }
def lowestErased (t : Store) : Option Nat := (t.spares.find? (fun x => x.2)).map (fun x => x.1)
def lowestUnerased (t : Store) : Option Nat := (t.spares.find? (fun x => !x.2)).map (fun x => x.1)

def retire (t : Store) (p : Nat) : Store := { t with retired := t.retired ++ [p] }
/-- SPARE to RELOCATING. -/
def takeSpare (t : Store) (p : Nat) : Store := { t.dropSpare p with relocating := t.relocating ++ [p] }
def dropRelocating (t : Store) (p : Nat) : Store := { t with relocating := t.relocating.filter (fun x => decide (x ≠ p)) }

/-- R115: the clip a logical sector belongs to. -/
def clipOf (t : Store) (l : Nat) : Option DirEntry := t.dir.find? (fun e => decide (e.first ≤ l) && decide (l < e.first + e.count))

def updateClip (t : Store) (id : Nat) (f : DirEntry → DirEntry) : Store :=
  { t with dir := t.dir.map (fun e => if e.id = id then f e else e) }
def updateWriting (t : Store) (f : DirEntry → DirEntry) : Store :=
  { t with dir := t.dir.map (fun e => if e.state = .writing then f e else e) }

/-- R131: a DIRTY sector leaves the backlog. -/
def leaveBacklog (t : Store) (l : Nat) : Store :=
  { t with backlog := t.backlog.filter (fun x => decide (x ≠ l)), backlogFirst := t.backlogFirst.filter (fun x => decide (x.1 ≠ l)) }

end Store

/-! ## Pages -/

def zeroFrame : BedFrame := { t0 := List.replicate 12 0, t1 := List.replicate 12 0, t2 := List.replicate 12 0, t3 := List.replicate 12 0 }
def zeroPage : List BedFrame := List.replicate 16 zeroFrame

def erasedTrack (f t : Nat) : List Int := (List.range 12).map (fun j => Config.erasedSample (48 * f + 12 * t + j))
/-- What an erased page reads as (log 14). -/
def erasedPage : List BedFrame :=
  (List.range 16).map (fun f => { t0 := erasedTrack f 0, t1 := erasedTrack f 1, t2 := erasedTrack f 2, t3 := erasedTrack f 3 })

/-- The frames a page holds. -/
def FlashSector.page (x : FlashSector) (k : Nat) : List BedFrame :=
  match x.pages.find? (fun y => y.1 == k) with
  | some y => y.2
  | none => erasedPage

def FlashSector.programmed (x : FlashSector) (k : Nat) : Bool := x.pages.any (fun y => y.1 == k)

/-- R129: what a read delivers. -/
def delivered (x : FlashSector) (k : Nat) (ecc : Ecc) : List BedFrame := if ecc = .uncorrectable then zeroPage else x.page k

def bankOf (p : Nat) : Nat := p % 4

def FlashOp.phys : FlashOp → Nat
  | .page p _ _ _ _ => p
  | .sealMark p => p
  | .retireMark p => p
  | .erase p => p
  | .settingsPage _ => Config.settingsSector

def FlashOp.isErase : FlashOp → Bool
  | .erase _ => true
  | _ => false

/-! ## The pages of the settings image (R132) -/

/-- R132: "1 to 17 pages": page 0, and a page for each 16 cue records. -/
def imagePages (v : Settings) : Nat := 1 + (v.cues.length + 15) / 16

/-- R132: page 0 holds every part but the cue map, and page `k` the cue records of its 16 places. -/
def pagePart (v : Settings) : Nat → PagePart
  | 0 => .tables { routes := v.routes, policies := v.policies, limits := v.limits, grants := v.grants }
  | k + 1 => .cues ((v.cues.drop (16 * k)).take 16)

def pageParts (v : Settings) : List PagePart := (List.range (imagePages v)).map (pagePart v)

/-- R132: a page of the image; the last one closes it with the page count and the CRC-32 over all pages. -/
def imagePage (v : Settings) (k : Nat) : SettingsPage :=
  { part := pagePart v k
    close := if k + 1 = imagePages v then some { pages := imagePages v, crc := Config.imageCrc (pageParts v) } else none }

/-- The settings sector after a save of `v`. -/
def savedImage (v : Settings) : SettingsSector := { pages := (List.range (imagePages v)).map (imagePage v), disturbed := false }

/-! ## Headers (R116) -/

/-- R116: the header of a clip upload, or of a relocated page 0 (`gen` one more). -/
def uploadHeader (e : DirEntry) (page : Nat) (gen : Byte) : Header :=
  { logical := e.first + page / 64, clip := e.id, index := page / 64,
    params := if page / 64 = 0 then some { length := e.length, loopStart := e.loopStart, loopLength := e.loopLength } else none,
    generation := gen }

/-- R116: the source's fields with the generation one more. -/
def copyHeader (x : FlashSector) : Option Header := x.header.map (fun h => { h with generation := h.generation + 1 })

/-- R116: the seal marker a copy's header carries. -/
def copySeal (x : FlashSector) : CopyKind → Bool
  | .sealMark => true
  | .scrub => x.sealMarker
  | .failedPage _ _ => x.sealMarker

/-- R126 steps 2 to 4, R130 step 2: the program steps of a copy, page 0 last. -/
def copyPlan (x : FlashSector) : CopyKind → List CopyAct
  | .failedPage k _ =>
    if k = 0 then [.failed 0]
    else ((List.range k).filter (fun i => decide (1 ≤ i))).map CopyAct.copy ++ [.failed k, .copy 0]
  | _ => ((List.range 64).filter (fun i => decide (1 ≤ i) && x.programmed i)).map CopyAct.copy ++ [.copy 0]

namespace State

/-! ## Page reads (R129, R130) -/

/-- R130: a sector offered to the scrub queue. -/
def scrubOffer (s : State) (l : Nat) : State :=
  if s.store.scrubQueue.contains l = true ∨ Config.scrubQueueSize ≤ s.store.scrubQueue.length then s
  else s.setStore { s.store with scrubQueue := s.store.scrubQueue ++ [l] }

/-- R129: CORRECTED. -/
def readCorrected (s : State) (l : Nat) : State :=
  let n := min 4 (s.store.countOf l + 1)
  let s1 := s.setStore (s.store.setCount l n)
  if n = 4 then s1.scrubOffer l else s1

/-- R129: an UNCORRECTABLE page's clip. -/
def damaged (e : DirEntry) : DirEntry :=
  match e.state with
  | .sealed => { e with state := .damaged }
  | .writing => { e with damageSeen := true }
  | .damaged => e

/-- R129: UNCORRECTABLE. -/
def readUncorrectable (s : State) (l k : Nat) : State :=
  match s.store.clipOf l with
  | none => s.raise .bedRead .store (.bedRead none l k)
  | some e => (s.raise .bedRead .store (.bedRead (some e.id) l k)).setStore (s.store.updateClip e.id damaged)

/-- R129: the outcome of a read of page `k` of logical sector `l`. -/
def eccOutcome (s : State) (l k : Nat) (ecc : Ecc) : State :=
  match ecc with
  | .clean => s
  | .corrected => s.readCorrected l
  | .uncorrectable => s.readUncorrectable l k

/-! ## Starting a step (R124) -/

/-- The trace a step leaves in the flash as it starts: an erase disturbs its sector, a page program touches it. -/
def startTrace (t : Store) : FlashOp → Store
  | .erase p =>
    if p = Config.settingsSector then { t with settings := { t.settings with disturbed := true } } else t.setSector p { t.sector p with disturbed := true }
  | .page p _ _ _ _ => t.setSector p { t.sector p with touched := true }
  | .settingsPage _ => { t with settings := { t.settings with disturbed := true } }
  | _ => t

def startOp (s : State) (op : FlashOp) (j : Job) : State :=
  s.setStore { startTrace s.store op with
    engine := some { op := op, job := j, start := s.framer.count, progress := 0, suspended := false, orphan := false } }

/-- R124: the bank of a physical sector may still serve a read in this output period. -/
def bankFree (s : State) (p : Nat) : Bool := !s.store.readBanks.contains (bankOf p)

/-- R124: the bank of a physical sector serves a read in this output period. -/
def markRead (t : Store) (p : Nat) : Store := { t with readBanks := bankOf p :: t.readBanks }

/-- One program step of a copy into `target`; none while its source's bank has served its read. -/
def copyStart (s : State) (j : CopyJob) (target : Nat) (job : Job) (ecc : Ecc) : Option State :=
  match j.plan with
  | [] => none
  | .failed k :: _ =>
    match j.kind, s.store.writing with
    | .failedPage _ frames, some e =>
      let h := match s.store.handed with
        | b :: _ => if k = 0 then some (uploadHeader e b.page 1) else none
        | [] => none
      some (s.startOp (.page target k frames h false) job)
    | _, _ => none
  | .copy k :: _ =>
    if s.bankFree j.source then
      let x := s.store.sector j.source
      let s1 := (s.setStore (markRead s.store j.source)).eccOutcome j.logical k ecc
      some (s1.startOp (.page target k (delivered x k ecc) (if k = 0 then copyHeader x else none) (decide (k = 0) && copySeal x j.kind)) job)
    else none

/-! ## The open clip's job (R121, R122, R126) -/

/-- R121: the program of a handed page. -/
def handedStart (s : State) (e : DirEntry) (b : PageBuf) : State :=
  s.startOp (.page (s.store.physOf (e.first + b.page / 64)) (b.page % 64) b.frames
    (if b.page % 64 = 0 then some (uploadHeader e b.page 0) else none) false) .clip

def eraseSpare (s : State) (j : Job) : Option State := s.store.lowestUnerased.map (fun p => s.startOp (.erase p) j)

def clipStart (s : State) (ecc : Ecc) : Option State :=
  match s.store.clipMark, s.store.clipCopy, s.store.writing, s.store.handed with
  | p :: _, _, _, _ => some (s.startOp (.retireMark p) .clip)
  | [], some j, _, _ =>
    match j.target with
    | some t => s.copyStart j t .clip ecc
    | none => s.eraseSpare .clip
  | [], none, some e, b :: _ => some (s.handedStart e b)
  | [], none, some e, [] => if s.store.sealing then some (s.startOp (.sealMark (s.store.physOf e.first)) .clip) else none
  | [], none, none, _ => none

/-! ## The settings save (R133) -/

def saveStart (s : State) : Option State :=
  match s.store.save with
  | none => none
  | some v => some (s.startOp (if v.erased then .settingsPage v.next else .erase Config.settingsSector) .save)

/-! ## Scrubbing (R130) -/

/-- R130: a sector at the front that is not to be scrubbed is removed. -/
def scrubbable (t : Store) (l : Nat) : Bool :=
  (t.stateOf l == .allocated || t.stateOf l == .damaged)
    && (match t.clipOf l with | some e => e.state != .writing | none => true)

def scrubClean (s : State) : State :=
  match s.store.scrub with
  | some _ => s
  | none => s.setStore { s.store with scrubQueue := s.store.scrubQueue.dropWhile (fun l => !scrubbable s.store l) }

/-- R130 step 1: the spare becomes RELOCATING, and the first page is copied. -/
def scrubTake (s : State) (j : CopyJob) (p : Nat) (ecc : Ecc) : Option State :=
  let j1 : CopyJob := { j with target := some p, plan := copyPlan (s.store.sector j.source) .scrub }
  if s.bankFree j.source then
    (s.setStore { s.store.takeSpare p with scrub := some j1 }).copyStart j1 p .scrub ecc
  else none

/-- While the pool holds no erased spare, the lowest unerased one is erased. -/
def scrubSpare (s : State) : Option State := if s.store.lowestErased.isSome then none else s.eraseSpare .scrub

def scrubStart (s : State) (ecc : Ecc) : Option State :=
  match s.store.scrubMark, s.store.scrubErase, s.store.scrub with
  | p :: _, _, _ => some (s.startOp (.retireMark p) .scrub)
  | [], some p, _ => some (s.startOp (.erase p) .scrub)
  | [], none, some j =>
    match j.target, s.store.lowestErased with
    | some t, _ => s.copyStart j t .scrub ecc
    | none, some p => s.scrubTake j p ecc
    | none, none => s.scrubSpare
  | [], none, none =>
    match s.store.scrubQueue, s.store.lowestErased with
    | l :: _, some p => s.scrubTake { logical := l, source := s.store.physOf l, kind := .scrub, target := none, plan := [] } p ecc
    | _, _ => s.scrubSpare

/-! ## The backlog (R127, R131) -/

/-- The oldest entry that no scrub is copying; the backlog passes over that one (log 70). -/
def backlogHead (t : Store) : Option Nat :=
  t.backlog.find? (fun l => match t.scrub with | some j => decide (j.logical ≠ l) | none => true)

def backlogStart (s : State) : Option State :=
  match s.store.backlogMark, s.store.backlogWait with
  | p :: _, _ => some (s.startOp (.retireMark p) .backlog)
  | [], some _ => s.eraseSpare .backlog
  | [], none => (backlogHead s.store).map (fun l => s.startOp (.erase (s.store.physOf l)) .backlog)

/-- R124: a free engine starts the next step of the highest-priority job that has one ready. -/
def engineStart (s : State) (ecc : Ecc) : State :=
  match s.store.engine with
  | some _ => s
  | none =>
    match s.clipStart ecc with
    | some t => t
    | none =>
      match s.saveStart with
      | some t => t
      | none =>
        match s.scrubStart ecc with
        | some t => t
        | none => (s.backlogStart).getD s

/-! ## Relocation of the open clip (R126, R128) -/

/-- The writer port of the WRITING clip gets its held reply. -/
def answerWriter (s : State) (code : Completion) : State :=
  match s.store.writing with
  | some e => s.complete e.writer code
  | none => s

/-- R128 for a relocation of the open clip. -/
def clipExhausted (s : State) (l : Nat) : State :=
  let s1 := s.raise .sparesExhausted .store (.logical l)
  let held := s.store.dataHeld || s.store.sealing
  let t := (s1.store.setState l .damaged).updateWriting (fun e => { e with storeFault := true })
  let s2 := s1.setStore { t with fill := none, handed := [], clipCopy := none, sealing := false, sealAfterMark := false, dataHeld := false }
  if held then s2.answerWriter .storeFault else s2

/-- R126 step 1, or R128. -/
def relocateStep1 (s : State) (j : CopyJob) : State :=
  let j1 : CopyJob := { j with target := none, plan := copyPlan (s.store.sector j.source) j.kind }
  match s.store.lowestErased with
  | some p => s.setStore { s.store.takeSpare p with clipCopy := some { j1 with target := some p } }
  | none =>
    match s.store.spares with
    | [] => s.clipExhausted j.logical
    | _ :: _ => s.setStore { s.store with clipCopy := some j1 }

/-- R126: a page or seal marker of the open clip fails verify. -/
def relocate (s : State) (l p k : Nat) (kind : CopyKind) : State :=
  (s.raise .storeProgram .store (.program p k)).relocateStep1 { logical := l, source := p, kind := kind, target := none, plan := [] }

/-- R116: a sector retired by a job waits for its retire mark. -/
def addMark (t : Store) (j : Job) (p : Nat) : Store :=
  match j with
  | .clip => { t with clipMark := t.clipMark ++ [p] }
  | .scrub => { t with scrubMark := t.scrubMark ++ [p] }
  | .backlog => { t with backlogMark := t.backlogMark ++ [p] }
  | .save => t

/-- R116: a sector becomes RETIRED, and its mark waits. -/
def retireMarked (t : Store) (j : Job) (p : Nat) : Store := addMark (t.retire p) j p

/-- A copy's target fails: it is RETIRED, and STORE PROGRAM is raised with its number. -/
def targetFailed (s : State) (j : Job) (p k : Nat) : State :=
  (s.raise .storeProgram .store (.program p k)).setStore (retireMarked (s.store.dropRelocating p) j p)

/-! ## Completions (R113, R121, R122, R126, R130, R133) -/

def emptyBuf (page : Nat) : PageBuf := { page := page, frames := [] }

/-- R121: a buffer empties; a held BED DATA is answered, and the buffer becomes the filling one. -/
def bufferEmptied (s : State) : State :=
  let s1 := s.setStore { s.store with handed := s.store.handed.drop 1 }
  if s.store.dataHeld then
    match s.store.writing with
    | some e =>
      (s1.setStore { s1.store with fill := some (emptyBuf (e.next / 16)), dataHeld := false }).answerWriter .done
    | none => s1
  else s1

/-- R122 step 3: the seal completes. -/
def sealDone (s : State) : State :=
  let s1 := s.answerWriter .done
  let t := s1.store.updateWriting (fun e => { e with state := if e.damageSeen then .damaged else .sealed })
  s1.setStore { t with sealing := false, sealAfterMark := false, fill := none, handed := [] }

/-- R126 steps 5 and 6: the map switches. -/
def clipSwitch (s : State) (j : CopyJob) (target : Nat) : State :=
  let t := retireMarked ((s.store.mapTo j.logical target).dropRelocating target) .clip j.source
  match j.kind with
  | .failedPage _ _ => (s.setStore { t with clipCopy := none }).bufferEmptied
  | _ => s.setStore { t with clipCopy := none, sealAfterMark := true }

/-- R130 step 3. -/
def scrubSwitch (s : State) (j : CopyJob) (target : Nat) : State :=
  let t := (((s.store.mapTo j.logical target).dropRelocating target).addSpare j.source false).setCount j.logical 0
  s.setStore { t with scrub := none, scrubErase := some j.source, scrubQueue := t.scrubQueue.filter (fun l => decide (l ≠ j.logical)) }

/-- A verified program step of a copy. -/
def copyAdvance (j : CopyJob) : CopyJob := { j with plan := j.plan.drop 1 }

/-- The completion of a page program of the open clip. -/
def clipPageDone (s : State) (p k : Nat) (ok : Bool) : State :=
  match s.store.clipCopy, s.store.handed, s.store.writing with
  | some j, _, _ =>
    if ok then
      match (copyAdvance j).plan with
      | [] => s.clipSwitch j p
      | _ :: _ => s.setStore { s.store with clipCopy := some (copyAdvance j) }
    else (s.targetFailed .clip p k).relocateStep1 j
  | none, b :: _, some e =>
    if ok then s.bufferEmptied else s.relocate (e.first + b.page / 64) p k (.failedPage k b.frames)
  | _, _, _ => s

def scrubPageDone (s : State) (p k : Nat) (ok : Bool) : State :=
  match s.store.scrub with
  | none => s
  | some j =>
    if ok then
      match (copyAdvance j).plan with
      | [] => s.scrubSwitch j p
      | _ :: _ => s.setStore { s.store with scrub := some (copyAdvance j) }
    else
      let s1 := s.targetFailed .scrub p k
      s1.setStore { s1.store with scrub := some { j with target := none, plan := [] } }

/-- R184: the save ends. -/
def saveEnd (s : State) (v : SaveJob) (code : Completion) : State :=
  let s1 := s.setStore { s.store with save := none }
  (s1.setMgmt { s1.mgmt with saveBuffer := none }).complete v.port code

/-- R132, R133: a verified page of the save buffer's image stands in the settings sector. -/
def pageProgrammed (s : State) (k : Nat) : State :=
  match s.mgmt.saveBuffer with
  | some v => s.setStore { s.store with settings := { pages := s.store.settings.pages ++ [imagePage v k], disturbed := false } }
  | none => s

/-- R133: a page of the settings image completes. -/
def settingsPageDone (s : State) (k : Nat) (ok : Bool) : State :=
  match s.store.save with
  | none => s
  | some v =>
    if ok then
      let s1 := s.pageProgrammed k
      if v.pages ≤ k + 1 then s1.saveEnd v .done else s1.setStore { s1.store with save := some { v with next := k + 1 } }
    else (s.raise .storeProgram .store (.program Config.settingsSector k)).saveEnd v .storeFault

/-- R116, R122: the completion of a seal marker. -/
def sealMarkDone (s : State) (p : Nat) (ok : Bool) : State :=
  if ok then s.sealDone
  else
    match s.store.writing with
    | some e => s.relocate e.first p 0 .sealMark
    | none => s

/-- The oldest waiting mark of a job has been programmed. -/
def dropMark (t : Store) : Job → Store
  | .clip => { t with clipMark := t.clipMark.drop 1 }
  | .scrub => { t with scrubMark := t.scrubMark.drop 1 }
  | .backlog => { t with backlogMark := t.backlogMark.drop 1 }
  | .save => t

/-- R116: a retire mark completes, whether or not it holds; the last one of a seal's relocation ends the seal (R122, R126). -/
def retireMarkDone (s : State) (j : Job) : State :=
  let s1 := s.setStore (dropMark s.store j)
  if j = .clip ∧ s1.store.sealAfterMark = true ∧ s1.store.clipMark = [] then s1.sealDone else s1

/-- What a program step leaves in the flash. A failed page leaves its data and no header; a failed mark leaves none (log 13). -/
def programTrace (t : Store) (op : FlashOp) (ok : Bool) : Store :=
  match op with
  | .page p k frames h seal_ =>
    let x := t.sector p
    let y : FlashSector := { x with pages := Sparse.insert k frames x.pages, touched := true }
    t.setSector p (if ok = true ∧ k = 0 then { y with header := h, sealMarker := seal_ } else y)
  | .sealMark p => if ok then t.setSector p { t.sector p with sealMarker := true } else t
  | .retireMark p => if ok then t.setSector p { t.sector p with retire := true } else t
  | _ => t

/-- R123: the target of an abandoned relocation joins the pool once the step in flight has ended. -/
def orphanDone (s : State) : State :=
  match s.store.orphanTarget with
  | none => s
  | some p => s.setStore { (s.store.dropRelocating p).addSpare p false with orphanTarget := none }

/-- A retire mark in flight as its clip was aborted is programmed all the same. -/
def orphanMark (t : Store) (x : EngineStep) : Store :=
  match x.op with
  | .retireMark _ => dropMark t x.job
  | _ => t

/-- A program step completes, with its verify outcome. -/
def programDone (s : State) (x : EngineStep) (ok : Bool) : State :=
  let s1 := s.setStore { programTrace s.store x.op ok with engine := none }
  if x.orphan then (s1.setStore (orphanMark s1.store x)).orphanDone
  else
    match x.op with
    | .page p k _ _ _ => if x.job = .scrub then s1.scrubPageDone p k ok else s1.clipPageDone p k ok
    | .sealMark p => s1.sealMarkDone p ok
    | .retireMark _ => s1.retireMarkDone x.job
    | .settingsPage k => s1.settingsPageDone k ok
    | .erase _ => s1

/-! ## Erases (R125, R127, R130, R133) -/

/-- A scrubbed-out sector that another job has erased or retired waits for no scrub erase. -/
def scrubDone (t : Store) (p : Nat) : Store := if t.scrubErase = some p then { t with scrubErase := none } else t

/-- An erase of a spare completes: its erased flag is set. -/
def spareErased (t : Store) (p : Nat) : Store :=
  if t.spares.any (fun x => x.1 == p) then (scrubDone t p).addSpare p true else scrubDone t p

/-- R127: an erased spare takes the place of `p` for logical sector `l`. -/
def replaceSector (t : Store) (l p q : Nat) : Store :=
  { ((retireMarked ((t.dropSpare q).mapTo l q) .backlog p).setState l .erased).leaveBacklog l with backlogWait := none }

/-- R128 for an erase timeout. -/
def backlogExhausted (s : State) (l : Nat) : State :=
  let s1 := s.raise .sparesExhausted .store (.logical l)
  s1.setStore { (s1.store.setState l .damaged).leaveBacklog l with backlogWait := none }

/-- R127: logical sector `l` on `p` needs a spare. -/
def backlogReplace (s : State) (l p : Nat) : State :=
  match s.store.lowestErased with
  | some q => s.setStore (replaceSector s.store l p q)
  | none =>
    match s.store.spares with
    | [] => s.backlogExhausted l
    | _ :: _ => s.setStore { s.store with backlogWait := some (l, p) }

/-- The backlog sector that a physical sector holds. -/
def backlogAt (t : Store) (p : Nat) : Option Nat := t.backlog.find? (fun l => t.physOf l == p)

def backlogErased (s : State) (p : Nat) : State :=
  match s.store.backlogWait with
  | some (l, q) => (s.setStore (spareErased s.store p)).backlogReplace l q
  | none =>
    match backlogAt s.store p with
    | some l => s.setStore ((s.store.setState l .erased).leaveBacklog l)
    | none => s

def clipErased (s : State) (p : Nat) : State :=
  let s1 := s.setStore (spareErased s.store p)
  match s1.store.clipCopy with
  | some j => s1.relocateStep1 j
  | none => s1

def saveErased (s : State) : State :=
  s.setStore { s.store with settings := Reset.settings, save := s.store.save.map (fun v => { v with erased := true }) }

/-- R130 step 4, and the erase of an unerased spare. -/
def scrubErased (s : State) (p : Nat) : State := s.setStore (spareErased s.store p)

/-- An erase completes. -/
def eraseDone (s : State) (x : EngineStep) : State :=
  let p := x.op.phys
  let t := if p = Config.settingsSector then s.store else s.store.setSector p blankSector
  let s1 := s.setStore { t with engine := none }
  match x.job with
  | .clip => if x.orphan then (s1.setStore (spareErased s1.store p)).orphanDone else s1.clipErased p
  | .save => s1.saveErased
  | .scrub => s1.scrubErased p
  | .backlog => s1.backlogErased p

/-- R127: the erase of an unerased spare times out. -/
def spareTimedOut (s : State) (j : Job) (p : Nat) : State :=
  (s.raise .storeErase .store (.erase p none)).setStore (retireMarked ((scrubDone s.store p).dropSpare p) j p)

def clipTimedOut (s : State) (p : Nat) (orphan : Bool) : State :=
  let s1 := s.spareTimedOut .clip p
  if orphan then s1.orphanDone
  else
    match s1.store.clipCopy with
    | some j => s1.relocateStep1 j
    | none => s1

/-- R130 step 5, and the erase of an unerased spare. -/
def scrubTimedOut (s : State) (p : Nat) : State := s.spareTimedOut .scrub p

/-- R127. -/
def backlogTimedOut (s : State) (p : Nat) : State :=
  match s.store.backlogWait with
  | some (l, q) => (s.spareTimedOut .backlog p).backlogReplace l q
  | none =>
    let s1 := s.raise .storeErase .store (.erase p none)
    match backlogAt s1.store p with
    | some l => s1.backlogReplace l p
    | none => s1

/-- R133: the detail names page 0, the first of the image (log 36). -/
def saveTimedOut (s : State) : State :=
  let s1 := s.raise .storeErase .store (.erase Config.settingsSector (some 0))
  match s1.store.save with
  | some v => s1.saveEnd v .storeFault
  | none => s1

/-- An erase ends as ERASE TIMEOUT. -/
def eraseTimedOut (s : State) (x : EngineStep) : State :=
  let s1 := s.setStore { s.store with engine := none }
  match x.job with
  | .clip => s1.clipTimedOut x.op.phys x.orphan
  | .save => s1.saveTimedOut
  | .scrub => s1.scrubTimedOut x.op.phys
  | .backlog => s1.backlogTimedOut x.op.phys

/-! ## The bed player's read (R125, R129, R136) -/

/-- R125: the engine is programming in the bank. -/
def bankPrograms (s : State) (p : Nat) : Bool :=
  match s.store.engine with
  | some x => !x.op.isErase && bankOf x.op.phys == bankOf p
  | none => false

/-- R125: an erase in the bank is suspended for this output period. -/
def suspendErase (t : Store) (p : Nat) : Store :=
  match t.engine with
  | some x => if x.op.isErase && bankOf x.op.phys == bankOf p then { t with engine := some { x with suspended := true } } else t
  | none => t

/-- A page of a clip, served from its bank. -/
def serveRead (s : State) (e : DirEntry) (page : Nat) (ecc : Ecc) : State :=
  let l := e.first + page / 64
  let p := s.store.physOf l
  let frames := delivered (s.store.sector p) (page % 64) ecc
  let s1 := s.setStore (markRead (suspendErase s.store p) p)
  (s1.eccOutcome l (page % 64) ecc).playerDeliver { clip := e.id, page := page, frames := frames, zero := decide (ecc = .uncorrectable) }

/-- R129, R139: a read whose clip has left the directory is served and its page discarded; an UNCORRECTABLE one names that clip
(log 66). -/
def serveLost (s : State) (x : LostRead) (ecc : Ecc) : State :=
  let p := s.store.physOf x.sector
  let s1 := s.setStore (markRead (suspendErase s.store p) p)
  let s2 := match ecc with
    | .uncorrectable => s1.raise .bedRead .store (.bedRead (some x.clip) x.sector x.page)
    | _ => s1.eccOutcome x.sector x.page ecc
  s2.setPlayer { s2.player with lostRead := none }

/-- R124, R125: a bank serves no read while it is programming or once it has served one. -/
def bankBusy (s : State) (p : Nat) : Bool := s.bankPrograms p || !s.bankFree p

/-- R124, R136, R139: the outstanding read is served, unless its bank is busy. -/
def playerRead (s : State) (ecc : Ecc) : State :=
  match s.player.reading, s.player.lostRead with
  | none, none => s
  | none, some x => if s.bankBusy (s.store.physOf x.sector) then s else s.serveLost x ecc
  | some (c, page), _ =>
    match s.store.clip c with
    | none => s.setPlayer { s.player with reading := none }
    | some e => if s.bankBusy (s.store.physOf (e.first + page / 64)) then s else s.serveRead e page ecc

/-! ## An output period (R113, R124, R125) -/

/-- The step in flight is a program and two output periods have passed. -/
def programPeriodDone (s : State) (ok : Bool) : State :=
  match s.store.engine with
  | none => s
  | some x =>
    if x.op.isErase = false ∧ Config.programPeriods ≤ s.progress x.start then s.programDone x ok else s

/-- R125: the bank of an erase in flight serves a read in this output period. -/
def heldByRead (s : State) (x : EngineStep) : Bool := s.store.readBanks.contains (bankOf x.op.phys)

/-- R125: an erase suspended in the previous output period resumes, unless its bank has already served a read in this one. -/
def resumeErase (s : State) : State :=
  match s.store.engine with
  | none => s
  | some x => s.setStore { s.store with engine := some { x with suspended := x.op.isErase && s.heldByRead x } }

/-- R125: an erase's period: progress unless suspended, then completion or timeout. -/
def erasePeriod (s : State) : State :=
  match s.store.engine with
  | none => s
  | some x =>
    if x.op.isErase = false then s
    else
      let n := if x.suspended then x.progress else x.progress + 1
      if Config.erasePeriods ≤ n then s.eraseDone x
      else if Config.eraseTimeout ≤ s.progress x.start then s.eraseTimedOut x
      else s.setStore { s.store with engine := some { x with progress := n } }

/-- A spare that came free, or a pool that emptied, while a relocation or an erase-timeout retirement waited for its spare. -/
def spareReady (t : Store) : Bool := t.engine.isNone && (t.lowestErased.isSome || t.spares.isEmpty)

def clipRetry (s : State) : State :=
  match s.store.clipCopy with
  | some j => if spareReady s.store = true ∧ j.target = none then s.relocateStep1 j else s
  | none => s

def backlogRetry (s : State) : State :=
  match s.store.backlogWait with
  | some (l, p) => if spareReady s.store then s.backlogReplace l p else s
  | none => s

/-- The store controller's work at an output period, from GANG WAIT on. -/
def storePeriod (s : State) (i : PeriodInput) : State :=
  let s1 := ((s.resumeErase.programPeriodDone i.verified).playerRead i.playerEcc).erasePeriod
  let s2 := (s1.clipRetry.backlogRetry.scrubClean).engineStart i.copyEcc
  s2.setStore { s2.store with readBanks := [] }

end State

end Sys2Proof.Machine
end

