-- ==== Sys2Proof/Machine/Scan.lean ====
section
/-! DEFINITION. Start-up from the flash (06 sections 6.3 and 6.7, R117, R118, R134, R141): the scan that rebuilds the map, the
pool and the directory, the judgement of the settings image, and the loading of a valid image. -/

namespace Sys2Proof.Machine

/-! ## Classing (R117) -/

/-- A claim: a physical sector with a complete header. -/
structure Claim where
  phys : Nat
  header : Header
  sealed : Bool
deriving DecidableEq, Repr

/-- R117: a complete header, in a sector no erase has disturbed. -/
def claimOf (x : Nat × FlashSector) : Option Claim :=
  match x.2.header with
  | some h => if x.2.retire = false ∧ x.2.disturbed = false then some { phys := x.1, header := h, sealed := x.2.sealMarker } else none
  | none => none

/-- The physical data sectors that are not blank, in ascending order. -/
def dataFlash (m : List (Nat × FlashSector)) : List (Nat × FlashSector) := m.filter (fun x => decide (x.1 < Config.dataSectors))

def claims (m : List (Nat × FlashSector)) : List Claim := (dataFlash m).filterMap claimOf
def retiredSectors (m : List (Nat × FlashSector)) : List Nat := ((dataFlash m).filter (fun x => x.2.retire)).map (fun x => x.1)

/-- R117: one claim's generation is one more than another's, wrapping. -/
def oneMore (x y : Claim) : Bool := x.header.generation == y.header.generation + 1

/-- R117: the winning claim among those of one logical number, which stand in ascending physical number. -/
def winnerOf (l : List Claim) : Option Claim :=
  match l with
  | [] => none
  | [c] => some c
  | c :: m =>
    match (c :: m).find? (fun x => (c :: m).any (fun y => oneMore x y) && !(c :: m).any (fun y => oneMore y x)) with
    | some x => some x
    | none => some c

/-- The winning claims, one for each logical number claimed. -/
def winners (l : List Claim) : List Claim :=
  l.filter (fun c => decide (c.header.logical < Config.logicalSectors)
    && (match winnerOf (l.filter (fun d => d.header.logical == c.header.logical)) with
        | some w => w.phys == c.phys
        | none => false))

/-! ## The directory (R118) -/

/-- R120's ranges of a clip's parameters. -/
def paramsValid (length loopStart loopLength : Nat) : Bool :=
  decide (1 ≤ length) && decide (length ≤ 4194304) && decide (loopStart < length)
    && (loopLength == 0 || decide (loopStart + loopLength ≤ length))

/-- The sectors of a clip of a length: length div 1,024, rounded up. -/
def sectorsFor (length : Nat) : Nat := (length + 1023) / 1024

/-- R118: every sector of the range has a winning claim with the clip id and its place. -/
def rangeClaimed (w : List Claim) (id first : Nat) (n : Nat) : Bool :=
  (List.range n).all (fun j => w.any (fun c => c.header.logical == first + j && c.header.clip == id && c.header.index == j))

def sealedEntry (c : Claim) (p : ClipParams) : DirEntry :=
  { id := c.header.clip, first := c.header.logical, count := sectorsFor p.length, length := p.length, loopStart := p.loopStart,
    loopLength := p.loopLength, state := .sealed, writer := .ra, next := 0, damageSeen := false, storeFault := false }

def overlaps (e f : DirEntry) : Bool := decide (e.first < f.first + f.count) && decide (f.first < e.first + e.count)

/-- R118: a candidate is kept or discarded. -/
def keepClip (w : List Claim) (kept : List DirEntry) (c : Claim) : List DirEntry :=
  match c.header.params with
  | none => kept
  | some p =>
    let e := sealedEntry c p
    if paramsValid p.length p.loopStart p.loopLength = true ∧ e.first + e.count ≤ Config.logicalSectors
        ∧ 1 ≤ e.id ∧ e.id ≤ 255 ∧ rangeClaimed w e.id e.first e.count = true
        ∧ kept.all (fun f => f.id != e.id && !overlaps e f) = true ∧ kept.length < Config.clips
    then kept ++ [e] else kept

def insertLogical (c : Claim) : List Claim → List Claim
  | [] => [c]
  | d :: m => if c.header.logical ≤ d.header.logical then c :: d :: m else d :: insertLogical c m

/-- R119: entries stand in ascending clip id. -/
def insertClip (e : DirEntry) : List DirEntry → List DirEntry
  | [] => [e]
  | f :: m => if e.id < f.id then e :: f :: m else f :: insertClip e m

/-- R118: the candidates in ascending order of first logical sector. -/
def candidateClips (w : List Claim) : List Claim :=
  (w.filter (fun c => c.header.index == 0 && c.sealed)).foldr insertLogical []

def scanDir (w : List Claim) : List DirEntry := ((candidateClips w).foldl (keepClip w) []).foldr insertClip []

/-- R118: a winning claim inside its kept clip's range. -/
def claimKept (dir : List DirEntry) (c : Claim) : Bool :=
  dir.any (fun e => c.header.clip == e.id && c.header.logical == e.first + c.header.index && decide (c.header.index < e.count))

/-! ## The rebuilt store (R117, R118, R141) -/

/-- A physical sector erased throughout: one the flash does not list. -/
def isBlank (m : List (Nat × FlashSector)) (p : Nat) : Bool := !m.any (fun x => x.1 == p)

/-- R117: the sectors that are neither RETIRED nor claims, blank ones first. -/
def freeSectors (m : List (Nat × FlashSector)) (c : List Claim) : List (Nat × Bool) :=
  let free := (List.range Config.dataSectors).filter
    (fun p => !(retiredSectors m).contains p && !c.any (fun x => x.phys == p))
  ((free.filter (isBlank m)).map (fun p => (p, true))) ++ ((free.filter (fun p => !isBlank m p)).map (fun p => (p, false)))

/-- The logical numbers without a winning claim, each with the free sector it is given. -/
def givenSectors (m : List (Nat × FlashSector)) (c w : List Claim) : List (Nat × Nat × Bool) :=
  ((List.range Config.logicalSectors).filter (fun l => !w.any (fun x => x.header.logical == l))).zip (freeSectors m c)

/-- The free sectors left over. -/
def leftSectors (m : List (Nat × FlashSector)) (c w : List Claim) : List (Nat × Bool) :=
  (freeSectors m c).drop ((List.range Config.logicalSectors).filter (fun l => !w.any (fun x => x.header.logical == l))).length

def scanRemap (given : List (Nat × Nat × Bool)) (w : List Claim) : List (Nat × Nat) :=
  w.foldl (fun m c => Sparse.put id c.header.logical c.phys m)
    ((given.filter (fun x => decide (x.1 ≠ x.2.1))).map (fun x => (x.1, x.2.1)))

def scanStates (given : List (Nat × Nat × Bool)) (dir : List DirEntry) (w : List Claim) : List (Nat × LogicalState) :=
  w.foldl (fun m c => Sparse.insert c.header.logical (if claimKept dir c then .allocated else .dirty) m)
    ((given.filter (fun x => !x.2.2)).map (fun x => (x.1, LogicalState.dirty)))

def scanPool (c w : List Claim) (left : List (Nat × Bool)) : List (Nat × Bool) :=
  (c.filter (fun x => !w.any (fun y => y.phys == x.phys))).foldl (fun m x => Sparse.insert x.phys false m)
    (left.foldl (fun m x => Sparse.insert x.1 x.2 m) [])

/-- R117, R118: the store as the scan rebuilds it. -/
def scanStore (t : Store) : Store :=
  let c := claims t.flash
  let w := winners c
  let dir := scanDir w
  let given := givenSectors t.flash c w
  let states := scanStates given dir w
  { Reset.store t.flash t.settings with
    remap := scanRemap given w
    spares := scanPool c w (leftSectors t.flash c w)
    retired := retiredSectors t.flash
    logical := states
    dir := dir
    backlog := (states.filter (fun x => x.2 == .dirty)).map (fun x => x.1)
    backlogFirst := (w.filter (fun x => x.header.index == 0 && !claimKept dir x)).map (fun x => (x.header.logical, x.header.clip)) }

/-! ## The settings image (R134) -/

/-- R64: a fallback list of 1 to 3 distinct sources of A, B and BED. -/
def fallbackValid (l : List Source) : Bool := decide (1 ≤ l.length ∧ l.length ≤ 3 ∧ l.Nodup) && !l.contains .mute

/-- R64's checks; the items of group 0's record are checked for group 0 alone. A level of 0 passes here. -/
def policyInRange (g : Nat) (p : GroupPolicy) : Bool :=
  fallbackValid p.fallback && decide (p.operatorLevel ≤ 3 ∧ p.healthLevel ≤ 3 ∧ p.revertLevel ≤ 3 ∧ p.fade ≤ 32
    ∧ p.deferral ≤ 40000 ∧ 400 ≤ p.revertSettle ∧ p.revertSettle ≤ 400000)
    && (g != 0 || decide (4 ≤ p.dSet ∧ p.dSet ≤ 32 ∧ 4 ≤ p.startGrace ∧ p.startGrace ≤ 400 ∧ 2 ≤ p.gangLead ∧ p.gangLead ≤ 16))

/-- R134: a policy of an image, in which a level of 0 fails. -/
def policyStored (g : Nat) (p : GroupPolicy) : Bool :=
  policyInRange g p && decide (1 ≤ p.operatorLevel ∧ 1 ≤ p.healthLevel ∧ 1 ≤ p.revertLevel)

def policiesStored (o : Oct GroupPolicy) : Bool :=
  policyStored 0 o.g0 && policyStored 1 o.g1 && policyStored 2 o.g2 && policyStored 3 o.g3 && policyStored 4 o.g4
    && policyStored 5 o.g5 && policyStored 6 o.g6 && policyStored 7 o.g7

/-- R177: some port holds FULL. -/
def grantsHoldFull (g : Four Grant) : Bool := g.ra == .full || g.rb == .full || g.o1 == .full || g.o2 == .full

/-- R134: every content check passed. -/
def contentGood (v : Settings) : Bool :=
  v.cues.all CueRecordValid && decide ((v.cues.map (fun r => r.cue)).Nodup) && decide (v.cues.length ≤ Config.cueRecords)
    && decide (v.routes.length = 64) && v.routes.all routeValid && policiesStored v.policies
    && State.limitsValid v.limits.a && State.limitsValid v.limits.b && grantsHoldFull v.grants

/-- The cue records of pages that hold nothing else. -/
def cuePages : List PagePart → Option (List CueRecord)
  | [] => some []
  | .cues l :: m => (cuePages m).map (fun r => l ++ r)
  | .tables _ :: _ => none

/-- R132: the contents of the image's pages. -/
def readPages : List PagePart → Option Settings
  | .tables t :: m =>
    (cuePages m).map (fun l => { cues := l, routes := t.routes, policies := t.policies, limits := t.limits, grants := t.grants })
  | _ => none

/-- R132, R134: the last page's page count is 1 to 17 and that of the pages, and its CRC-32 matches. -/
def closeGood (l : List SettingsPage) : Bool :=
  match l.getLast?.bind (fun x => x.close) with
  | none => false
  | some c => decide (1 ≤ c.pages) && decide (c.pages ≤ 17) && c.pages == l.length && c.crc == Config.imageCrc (l.map (fun x => x.part))

/-- R134: the image, or why there is none. `whole` says that every page was read as it was programmed (log 6, log 27). -/
def judgeImage (x : SettingsSector) (whole : Bool) : Except ImageReason Settings :=
  if x.disturbed then .error .badCrc
  else if x.pages.isEmpty then .error .noImage
  else if whole = false ∨ closeGood x.pages = false then .error .badCrc
  else
    match readPages (x.pages.map (fun y => y.part)) with
    | none => .error .badContent
    | some v => if contentGood v then .ok v else .error .badContent

namespace State

/-- R98: a group whose loaded list begins with another source is settled anew. -/
def settleAnew (s : State) (g : Fin 8) : State :=
  match (s.policy g).fallback.head? with
  | none => s
  | some x => if (s.group g).st.current = x then s else s.place g (.settled x) false

/-- R62: the map holds the image's records in cue-number order. -/
def loadCues (l : List CueRecord) : List CueRecord := l.foldr putRecord []

/-- R134: a valid image's contents replace the defaults in their owners (R62, R98, R112, R177, R43). -/
def loadImage (s : State) (v : Settings) : State :=
  let s1 := s.setCues { records := loadCues v.cues, staged := none, inUse := none }
  let s2 := s1.setRoutes { active := v.routes, shadow := v.routes, commit := none }
  let s3 := s2.setCtl { s2.ctl with policies := v.policies }
  let s4 := allGroups.foldl settleAnew s3
  let s5 := s4.setMgmt { s4.mgmt with grants := v.grants }
  (s5.applyLimits .a v.limits.a).applyLimits .b v.limits.b

/-- R134: the image's outcome. -/
def imageEnd (s : State) (whole : Bool) : State :=
  match judgeImage s.store.settings whole with
  | .ok v => s.loadImage v
  | .error r => s.raise .settingsDefaulted .store (.image r)

/-- R150: on entering GANG WAIT, a leader fills its vector. -/
def fillVector (s : State) : State :=
  if s.gang.role = .leader then
    s.setGang { s.gang with vector := s.ctl.groups.map (fun g =>
      some { source := g.st.current, effective := Reset.show0, order := 0, fade := 0, urgency := .immediate }) }
  else s

/-- R134, R22, R174: the end of LOAD. -/
def loadEnd (s : State) (whole : Bool) : State :=
  let s1 := (s.setStore (scanStore s.store)).imageEnd whole
  let s2 := s1.setProg { s1.prog with dInForce := s1.ctl.policies.g0.dSet }
  (s2.setFramer { s2.framer with run := .gangWait, waitCount := 0 }).fillVector

end State

end Sys2Proof.Machine
end

