-- ==== Sys2Proof/Machine/Gang.lean ====
section
/-! DEFINITION. The gang agent (07, R142 to R158): ticks and reports taken, the report table, a follower's gang states, and the
adoption of the vector. -/

namespace Sys2Proof.Machine

namespace State

/-! ## Ticks (R145, R151) -/

/-- R151: a received entry is changed when its order number differs from the copy's. -/
def entryChanged (copy : Option VecEntry) (e : VecEntry) : Bool :=
  match copy with | none => true | some c => c.order != e.order

/-- R151: one group's entry of a tick taken. -/
def vectorEntry (t : Tick) (g : Gang) (n : Fin 8) : Gang :=
  let e := t.vector.get n
  if entryChanged (g.received.get n) e then
    { g with received := g.received.set n (some e),
             waiting := if g.state = .joined then g.waiting.set n (some { entry := e, point := some e.effective, urgency := e.urgency })
                        else g.waiting }
  else g

/-- R145: a tick taken by a follower. -/
def tickGang (g : Gang) (t : Tick) : Gang :=
  let g1 : Gang := { g with
    position := t.hop, size := t.size, leaderPos := t.leader,
    leaderPrevCue := if t.leader.cue = g.leaderPos.cue then g.leaderPrevCue else some g.leaderPos.cue,
    silence := 0, run := min Config.gangCount (g.run + 1), tickTaken := true, everTick := true,
    relay := if t.hop ≤ 2 then some { t with hop := t.hop + 1 } else none }
  allGroups.foldl (vectorEntry t) g1

/-- R145: the ticks that are taken. -/
def takesTick (s : State) (p : Port) (t : Tick) : Bool :=
  s.acting && s.isUp p && p == .gu && s.gang.role == .follower && decide (1 ≤ t.hop) && decide (t.hop ≤ 3)

def takeTick (s : State) (p : Port) (t : Tick) : State := if s.takesTick p t then s.setGang (tickGang s.gang t) else s

/-! ## Reports and presence (R147, R148) -/

def Gang.withSize (g : Gang) : Gang := { g with size := 1 + g.presentCount }

/-- R148: an entry updates its unit's row, unless the report has already brought one for that position. -/
def rowEntry (x : Three ReportRow × List Nat) (e : UnitEntry) : Three ReportRow × List Nat :=
  if 1 ≤ e.position ∧ e.position ≤ 3 ∧ x.2.contains e.position = false then
    (x.1.set (Fin.ofNat 3 (e.position - 1)) { present := true, silence := 0, last := some e, taken := true }, e.position :: x.2)
  else x

/-- R147, R148: a report taken on GD. -/
def reportGang (g : Gang) (es : List UnitEntry) : Gang :=
  match g.role with
  | .leader => Gang.withSize { g with rows := (es.foldl rowEntry (g.rows, [])).1 }
  | .follower => { g with below := es }

def takesReport (s : State) (p : Port) : Bool := s.acting && s.isUp p && p == .gd

def takeReport (s : State) (p : Port) (es : List UnitEntry) : State :=
  if s.takesReport p then s.setGang (reportGang s.gang es) else s

/-- R148: a present row whose silence count reaches 40. -/
def rowLost (s : State) (n : Fin 3) : State :=
  let r := s.gang.rows.get n
  let s1 := s.setGang (Gang.withSize { s.gang with rows := s.gang.rows.set n { r with present := false, silence := Config.gangCount, taken := false } })
  s1.raise .gangLost (.unitN (n.val + 1)) (.gangState (r.last.map (fun e => e.state)))

/-- R148: one row at an output period. -/
def rowPeriod (s : State) (n : Fin 3) : State :=
  let r := s.gang.rows.get n
  if r.taken then s.setGang { s.gang with rows := s.gang.rows.set n { r with taken := false } }
  else if r.present = true ∧ Config.gangCount ≤ r.silence + 1 then s.rowLost n
  else s.setGang { s.gang with rows := s.gang.rows.set n { r with silence := min Config.gangCount (r.silence + 1) } }

/-! ## Gang states (R146, R155, R156) -/

/-- R156: the waiting entry of an adopted group whose current source is eligible. -/
def adoptBoundary (s : State) (e : VecEntry) : Waiting :=
  { entry := e, urgency := .atBoundary,
    point := (search s.policyInUse (s.prog.pos.pos.toNat + 1)).map (fun x => { cue := s.prog.pos.cue, pos := BitVec.ofNat 32 x }) }

/-- R156 for one group. -/
def adoptGroup (s : State) (g : Fin 8) : State :=
  match s.gang.received.get g with
  | none => s
  | some e =>
    if e.source = (s.group g).st.current then
      s.setGang { s.gang with applied := s.gang.applied.set g (some e.order), waiting := s.gang.waiting.set g none }
    else if s.eligible g (s.group g).st.current then
      s.setGang { s.gang with waiting := s.gang.waiting.set g (some (s.adoptBoundary e)) }
    else
      s.setGang { s.gang with waiting := s.gang.waiting.set g (some { entry := e, point := some s.prog.pos, urgency := .immediate }) }

/-- R157: a follower leaves GANG WAIT. -/
def leaveWait (s : State) : State :=
  if s.framer.run = .gangWait then s.setFramer { s.framer with run := .running } else s

/-- R146, R156, R157: a follower becomes JOINED. -/
def becomeJoined (s : State) : State :=
  let s1 := s.setGang { s.gang with state := .joined, emergency := Reset.octFalse, waiting := Reset.octNone Waiting }
  (allGroups.foldl adoptGroup s1.clearTables).leaveWait

/-- R146: a follower becomes ISOLATED, and GANG LOST is raised. -/
def becomeIsolated (s : State) : State :=
  let lost := if s.gang.everTick then some s.gang.leaderPos else none
  let s1 := s.setGang { s.gang with state := .isolated, emergency := Reset.octFalse, waiting := Reset.octNone Waiting }
  s1.clearTables.raise .gangLost .gu (.leaderPos lost)

/-- R146: the event that makes a DISCOVERING or ISOLATED follower JOINED. -/
def joins (s : State) : Bool :=
  s.acting && s.gang.role == .follower && (s.gang.state == .discovering || s.gang.state == .isolated)
    && decide (Config.gangCount ≤ s.gang.run)

/-- R145: the counts of a follower at an output period. -/
def silencePeriod (s : State) : State :=
  if s.gang.tickTaken then s.setGang { s.gang with tickTaken := false }
  else s.setGang { s.gang with silence := min Config.gangCount (s.gang.silence + 1), run := 0 }

def followerPeriod (s : State) : State :=
  let s1 := s.silencePeriod
  if s1.joins then s1.becomeJoined
  else if s1.gang.state = .joined ∧ Config.gangCount ≤ s1.gang.silence then s1.becomeIsolated
  else s1

/-- The gang agent's work at an output period, from GANG WAIT on, in the order of the rows (log 3). -/
def gangPeriod (s : State) : State :=
  match s.gang.role with
  | .leader => ((s.rowPeriod 0).rowPeriod 1).rowPeriod 2
  | .follower => s.followerPeriod

/-! ## The presence window (R157) -/

/-- R157: the window ends. -/
def windowEnd (s : State) : State :=
  match s.gang.role with
  | .leader => s.leaveWait
  | .follower => if s.gang.state = .discovering then s.becomeIsolated.leaveWait else s.leaveWait

/-- R157 at an output period of GANG WAIT. -/
def presencePeriod (s : State) : State :=
  if s.framer.run = .gangWait then
    if Config.presenceWindow ≤ s.framer.waitCount then s.windowEnd
    else if s.gang.role = .leader ∧ s.gang.presentCount = 3 then s.leaveWait
    else s
  else s

end State

end Sys2Proof.Machine
end

