-- ==== Sys2Proof/Machine/Link.lean ====
section
/-! DEFINITION. The link receivers (09, R166 to R168): lock, training and UP, the outcome of a slot at a rig port, and the loss of
a link at the blocks that take it (R2, R3, R25). -/

namespace Sys2Proof.Machine

/-! ## The receiver (R166) -/

/-- A good slot in TRAINING. -/
def goodSlot (l : PortLink) (f : InFrame) : Bool := match l.expected with | none => true | some e => f.seq == e

/-- Each slot in TRAINING. -/
def PortLink.train (l : PortLink) : SlotOutcome → PortLink
  | .valid f => { l with run := if goodSlot l f then l.run + 1 else 1, expected := some (f.seq + 1) }
  | .discarded _ => { l with run := 0 }

/-- The eighth good slot of a TRAINING link, for a receiver that has counted seven: its sequence number is the one expected. -/
def PortLink.eighth (l : PortLink) : PortLink :=
  if l.run < Config.goodSlots then { l with expected := l.expected.map (fun e => e + 1) } else l

/-- Each slot in UP. -/
def PortLink.follow (l : PortLink) : SlotOutcome → PortLink
  | .valid f =>
    if goodSlot l f then { l with expected := some (f.seq + 1) }
    else { l with expected := some (f.seq + 1), breaks := min 65535 (l.breaks + 1) }
  | .discarded _ => { l with expected := l.expected.map (fun e => e + 1) }

namespace State

/-- R166: lock acquired in DOWN. -/
def acquire (s : State) (p : Port) : State :=
  if s.framer.run ≠ .off ∧ (s.links.get p).state = .down then
    s.setLink p { s.links.get p with state := .training, run := 0, expected := none }
  else s

/-- R2, R9, R25: a rig port enters UP. -/
def rigUp (s : State) (r : Rig) : State :=
  (s.setAlignRig r { s.rig r with slotCount := s.slotLoad r, newestAudio := none }).healthLinkUp r

/-- R166: the link enters UP. -/
def enterUp (s : State) (p : Port) : State :=
  let s0 := match p.rig with | some r => s.rigUp r | none => s
  s0.setLink p { s0.links.get p with state := .up, run := Config.goodSlots }

/-- R166: a slot in TRAINING; the command is the slot's close, so the slot's side frame comes before it (log 71). -/
def trainSlot (s : State) (p : Port) (o : SlotOutcome) : State :=
  let l := (s.links.get p).train o
  let s1 := s.setLink p l
  if Config.goodSlots ≤ l.run then s1.enterUp p else s1

/-- R2, R24, R1, R8, R10, R138: the outcome of a slot of a rig's UP link. -/
def rigSlot (s : State) (r : Rig) (o : SlotOutcome) : State :=
  let k := (s.rig r).slotCount + 1
  let s1 := s.setAlignRig r { s.rig r with slotCount := k }
  match o with
  | .valid f => (((s1.validSlot r f k).alignArrive r f k)).primeUpdate
  | .discarded d => s1.discardSlot r d k

/-- R166, R167: a slot in UP. -/
def upSlot (s : State) (p : Port) (o : SlotOutcome) : State :=
  let s1 := s.setLink p ((s.links.get p).follow o)
  match p.rig with
  | some r => s1.rigSlot r o
  | none => s1

/-- R166, R167: a slot of port `p`, with what it carried. -/
def slot (s : State) (p : Port) (f : Option RawFrame) : State :=
  match (s.links.get p).state with
  | .down => s
  | .training => s.trainSlot p (checkMain f)
  | .up => s.upSlot p (checkMain f)

/-! ## Lock lost (R3, R25, R159) -/

/-- R25: RIG LINK DOWN, with the health state before the loss. -/
def linkDownFault (s : State) (r : Rig) (before : HealthState) : State := s.raise .rigLinkDown (Rig.origin r) (.health before)

/-- R3, R25: a rig link that was UP goes DOWN; `stepFirst` says which fault fault capture takes first (log 8). -/
def rigLost (s : State) (r : Rig) (stepFirst : Bool) : State :=
  let before := (s.monitor r).state
  let lost := s.lossLosesStep r
  let skew := (s.rig r).step.lastSkew
  let s1 := (s.alignLinkLost r).healthLinkDown r
  let s2 :=
    if lost then
      if stepFirst then (s1.stepLostEvent r skew).linkDownFault r before else (s1.linkDownFault r before).stepLostEvent r skew
    else s1.linkDownFault r before
  s2.primeUpdate

/-- R166: lock lost in TRAINING or UP. -/
def lose (s : State) (p : Port) (stepFirst : Bool) : State :=
  let l := s.links.get p
  let s1 := s.setLink p { l with state := .down, run := 0, expected := none }
  match l.state, p.rig with
  | .down, _ => s
  | .up, some r => s1.rigLost r stepFirst
  | _, _ => s1

end State

end Sys2Proof.Machine
end

