-- ==== Sys2Proof/Machine/Manage.lean ====
section
/-! DEFINITION. The management agent (10, R176 to R187): the judgement of a CONTROL, and each request at its owning block. -/

namespace Sys2Proof.Machine

namespace State

/-! ## Taking a CONTROL (R176) -/

/-- R181: the tables are not yet loaded. -/
def early (s : State) : Bool := s.framer.run == .hold || s.framer.run == .load || s.framer.run == .off

/-- R176 steps 2 and 3, and R168: the frame is ignored. -/
def ignored (s : State) (h : CtlHead) : Bool :=
  !s.isUp (CtlPort.port h.port) || s.mgmt.grants.get h.port == .none
    || (h.addr != BitVec.ofNat 8 s.gang.position && h.addr != 15)

/-- R176 steps 4 to 10: the refusal, if any. -/
def refusal (s : State) (h : CtlHead) (k : ReqKind) : Option Completion :=
  if (s.mgmt.inService.get h.port).isSome then some .busy
  else if h.addr = 15 ∧ k.farEnd = false then some .malformed
  else if s.mgmt.grants.get h.port = .observe ∧ k.isRead = false then some .denied
  else if s.early = true ∧ k.early = false then some .busy
  else if s.mgmt.lock = true ∧ k.underLock = true then some .locked
  else if h.lengthOk = false then some .malformed
  else none

/-- R176: the first row that applies decides; the last hands the request to its owner. -/
def control (s : State) (h : CtlHead) (k : ReqKind) (owner : State) : State :=
  if s.ignored h then s
  else
    match s.refusal h k with
    | some c => s.answer h k c .none
    | none => owner

/-- R176 steps 4 and 5: a kind that is not in the table. -/
def unknownKind (s : State) (h : CtlHead) (kind : Byte) : State :=
  if s.ignored h then s
  else if (s.mgmt.inService.get h.port).isSome then s.answerKind h kind .busy .none
  else s.answerKind h kind .malformed .none

def RigArg.rig : RigArg → Option Rig | .a => some .a | .b => some .b | .both => none | .other => none

/-! ## Identity and status (R186) -/

def ownIdentify (s : State) (h : CtlHead) : State :=
  s.answer h .identify .done (.identity Config.vendorCode Config.partCode Config.siliconRevision Config.serialNumber s.gang.position s.gang.size)

def unitStatus (s : State) : UnitStatus :=
  { run := s.framer.run, bypass := s.framer.bypass, clock := s.clockNow, count := s.framer.count, lock := s.mgmt.lock,
    commit := s.routes.commit, bedReady := s.bedReady, saving := s.store.save.isSome }

def programStatus (s : State) : ProgramStatus :=
  { state := s.prog.state, pos := s.prog.pos, due := s.prog.due, dInForce := s.prog.dInForce,
    e := if s.playing then some s.delayE else none, held := s.prog.held, anchorPending := s.prog.anchorPending,
    stopHold := s.prog.stopHold, grace := s.prog.grace, stopMarks := { a := (s.rig .a).stopMark, b := (s.rig .b).stopMark } }

def rigStatus (s : State) (r : Rig) : RigStatus :=
  { link := (s.links.get (Rig.port r)).state, breaks := (s.links.get (Rig.port r)).breaks, health := (s.monitor r).state,
    step := s.stepOf r, streak := (s.rig r).step.streak, miss := (s.rig r).step.miss, lastSkew := (s.rig r).step.lastSkew }

def gangStatus (s : State) : GangStatus :=
  { role := s.gang.role, state := s.gang.state, position := s.gang.position, size := s.gang.size, silence := s.gang.silence,
    run := s.gang.run, leaderPos := s.gang.leaderPos, received := s.gang.received.map (fun e => e.map (fun x => x.order)),
    applied := s.gang.applied, waiting := s.gang.waiting, emergency := s.gang.emergency, rows := s.gang.rows }

/-- R179: a request of the port is in service: a long one until its end, a short one in the slot in which it was taken, that is, while
its reply waits in the short holder. -/
def serving (s : State) (q : CtlPort) : Bool := (s.mgmt.inService.get q).isSome || !(s.holders q).short.isEmpty

/-- R186, on a port whose READ STATUS is the request in service on `asker`. -/
def portStatus (s : State) (asker : CtlPort) (p : Port) : PortStatus :=
  { link := (s.links.get p).state, breaks := (s.links.get p).breaks, grant := p.ctl.map (fun q => s.mgmt.grants.get q),
    inService := match p.ctl with | some q => q == asker || s.serving q | none => false,
    completions := match p.ctl with | some q => (s.holders q).completion.length | none => 0 }

/-- R65, R66: a group's state with its fade's progress k. -/
def stateReport (s : State) : GroupState → GroupStateReport
  | .settled x => .settled x
  | .fading o d n start ret => .fading o d n start (s.progress start) ret

/-- R65: the group record as a reply shows it. -/
def groupReport (s : State) (g : Fin 8) : GroupReport :=
  let x := s.group g
  { st := s.stateReport x.st, h := x.h, op := x.op, health := x.health, revert := x.revert, timer := x.timer,
    limitReached := x.limitReached, placed := x.placed }

/-- R186: the contents of each part, asked for on port `asker`. -/
def statusData (s : State) (asker : CtlPort) : StatusPart → Option StatusData
  | .unit => some (.unit s.unitStatus)
  | .program => some (.program s.programStatus)
  | .rigs => some (.rigs (s.rigStatus .a) (s.rigStatus .b) s.ctl.stamps)
  | .groupsLow => some (.groups (s.groupReport 0) (s.groupReport 1) (s.groupReport 2) (s.groupReport 3))
  | .groupsHigh => some (.groups (s.groupReport 4) (s.groupReport 5) (s.groupReport 6) (s.groupReport 7))
  | .gang => some (.gang s.gangStatus)
  | .ports => some (.ports { ra := s.portStatus asker .ra, rb := s.portStatus asker .rb, o1 := s.portStatus asker .o1,
                             o2 := s.portStatus asker .o2, gu := s.portStatus asker .gu, gd := s.portStatus asker .gd })
  | .other => none

def ownReadStatus (s : State) (h : CtlHead) (part : StatusPart) : State :=
  match s.statusData h.port part with
  | some d => s.answer h .readStatus .done (.status d)
  | none => s.answer h .readStatus .outOfRange .none

/-! ## Health (R23, R41 to R43) -/

def ownReadHealth (s : State) (h : CtlHead) (rig : RigArg) : State :=
  match RigArg.rig rig with
  | some r => s.answer h .readHealth .done (.health (s.monitor r))
  | none => s.answer h .readHealth .outOfRange .none

def setLimits (s : State) (rig : RigArg) (l : HealthLimits) : State :=
  match rig with
  | .a => s.applyLimits .a l
  | .b => s.applyLimits .b l
  | .both => (s.applyLimits .a l).applyLimits .b l
  | .other => s

def ownSetHealthLimits (s : State) (h : CtlHead) (rig : RigArg) (l : HealthLimits) : State :=
  if rig = .other ∨ limitsValid l = false then s.answer h .setHealthLimits .outOfRange .none
  else (s.setLimits rig l).answer h .setHealthLimits .done .none

def ownRequalify (s : State) (h : CtlHead) (rig : RigArg) : State :=
  match RigArg.rig rig with
  | some r =>
    if requalifyRefused (s.monitor r) then s.answer h .requalifyRig .busy .none
    else (s.requalifyTaken r).answer h .requalifyRig .done .none
  | none => s.answer h .requalifyRig .outOfRange .none

/-- R41: locked is cleared; the fields stay. -/
def unlockCapture (s : State) (r : Rig) : State :=
  s.setRigHealth r { s.monitor r with capture := { (s.monitor r).capture with locked := false } }

def ownReadBadFrame (s : State) (h : CtlHead) (rig : RigArg) : State :=
  match RigArg.rig rig with
  | some r => (s.unlockCapture r).answer h .readBadFrame .done (.capture (s.monitor r).capture)
  | none => s.answer h .readBadFrame .outOfRange .none

/-! ## Fault record and journal (R162, R163, R97) -/

def ownReadFault (s : State) (h : CtlHead) : State := s.answer h .readFault .done (.fault s.fault)

def ownClearFault (s : State) (h : CtlHead) : State :=
  (s.setFault Reset.fault).answer h .clearFault .done (.fault s.fault)

/-- R96: the entry kept at an index. -/
def journalAt (j : Journal) (i : Nat) : Option JournalEntry := j.entries.find? (fun e => e.number.toNat % 64 == i)

/-- R97: successive indices from the start, then from index 0, held entries only, at most 4. -/
def journalRead (j : Journal) (start : Nat) : List JournalEntry :=
  (((List.range 64).drop (start % 64) ++ (List.range 64).take (start % 64)).filterMap (journalAt j)).take 4

def ownReadJournal (s : State) (h : CtlHead) (start : Nat) : State :=
  let j := s.ctl.journal
  s.answer h .readJournal .done (.journal j.entries.length (j.entries.getLast?.map (fun e => e.number)) (journalRead j start))

/-! ## Cue map (R49 to R51, R60) -/

/-- A cue edit's outcome: the map, the notice of R55, and the reply. -/
def cueEdited (s : State) (h : CtlHead) (k : ReqKind) (c : Nat) (x : CueMap.Edited) : State :=
  let s1 := s.setCues x.map
  (if x.notice then s1.recordChanged c else s1).answer h k x.code x.data

def ownWriteCue (s : State) (h : CtlHead) (r : CueRecord) (zoneCount : Nat) : State :=
  if zoneCount ≠ r.policy.zones.length then s.answer h .writeCue .malformed .none
  else s.cueEdited h .writeCue r.cue (s.cues.write r)

def ownDeleteCue (s : State) (h : CtlHead) (c : Nat) : State := s.cueEdited h .deleteCue c (s.cues.delete c)

/-- R60: the staged action for a cue. -/
def stagedFor (m : CueMap) (c : Nat) : Option StagedAction :=
  match m.staged with
  | some x => if x.cue = c then some x.action else none
  | none => none

def ownReadCue (s : State) (h : CtlHead) (c : Nat) : State :=
  s.answer h .readCue (if s.cues.hasRecord c then .done else .notFound) (.cue (s.cues.record c) (stagedFor s.cues c))

def ownListCues (s : State) (h : CtlHead) (start : Nat) : State :=
  if start < 1 ∨ 65535 < start then s.answer h .listCues .outOfRange .none
  else
    let l := (s.cues.records.map (fun r => r.cue)).filter (fun c => decide (start ≤ c))
    s.answer h .listCues .done (.cueList (l.take 40) (decide (40 < l.length)) s.cues.occupancy (s.cues.staged.map (fun x => x.cue)))

/-! ## Routes (R100, R101, R103) -/

/-- R100: the index, counted from 0, of the first entry with a field outside its range (log 46). -/
def firstBadRoute (l : List RouteEntry) : Option Nat := l.findIdx? (fun e => !routeValid e)

/-- R100: entries written in order from the first output channel. -/
def writeEntries (bank : List RouteEntry) (first : Nat) (l : List RouteEntry) : List RouteEntry :=
  bank.take first ++ l ++ bank.drop (first + l.length)

/-- R100: a count or a channel range outside its bounds names no entry (log 46). -/
def ownWriteRoute (s : State) (h : CtlHead) (first count : Nat) (l : List RouteEntry) : State :=
  if count ≠ l.length then s.answer h .writeRoute .malformed .none
  else if count = 0 ∨ 32 < count ∨ 64 < first + count then s.answer h .writeRoute .outOfRange .none
  else
    match firstBadRoute l with
    | some i => s.answer h .writeRoute .outOfRange (.field i)
    | none => (s.setRoutes { s.routes with shadow := writeEntries s.routes.shadow first l }).answer h .writeRoute .done .none

def ownReadRoute (s : State) (h : CtlHead) (bank : BankArg) (first count : Nat) : State :=
  if count = 0 ∨ 32 < count ∨ 64 < first + count then s.answer h .readRoute .outOfRange .none
  else
    match bank with
    | .active => s.answer h .readRoute .done (.routes ((s.routes.active.drop first).take count))
    | .shadow => s.answer h .readRoute .done (.routes ((s.routes.shadow.drop first).take count))
    | .other => s.answer h .readRoute .outOfRange .none

def ownCommitRoutes (s : State) (h : CtlHead) (timing : Option CommitTiming) : State :=
  match timing with
  | some t => (s.setRoutes { s.routes with commit := some t }).answer h .commitRoutes .done .none
  | none => s.answer h .commitRoutes .outOfRange .none

/-! ## Group policies and operator requests (R64, R65, R77, R78) -/

/-- R64: a level written as 0 keeps the previous one. -/
def keptLevel (old new : Nat) : Nat := if new = 0 then old else new

def levelsKept (p : GroupPolicy) : Bool := p.operatorLevel == 0 || p.healthLevel == 0 || p.revertLevel == 0

/-- R64, R143: the policy after a WRITE GROUP; a record for groups 1 to 7 does not store group 0's items. -/
def mergePolicy (g : Nat) (old new : GroupPolicy) : GroupPolicy :=
  { new with
    operatorLevel := keptLevel old.operatorLevel new.operatorLevel
    healthLevel := keptLevel old.healthLevel new.healthLevel
    revertLevel := keptLevel old.revertLevel new.revertLevel
    hardAllowed := if g = 0 then new.hardAllowed else old.hardAllowed
    dSet := if g = 0 then new.dSet else old.dSet
    startGrace := if g = 0 then new.startGrace else old.startGrace
    gangLead := if g = 0 then new.gangLead else old.gangLead }

/-- R5: a write of D set while the program is STOPPED is also loaded at once. -/
def loadD (s : State) (g : Nat) : State :=
  if g = 0 ∧ s.prog.state = .stopped then s.setProg { s.prog with dInForce := s.ctl.policies.g0.dSet } else s

/-- R64: a group now on the first source of its new list has a pending REVERT dropped. -/
def dropRevert (s : State) (g : Fin 8) : State :=
  if (s.policy g).fallback.head? = some (s.group g).st.current then s.dropCause g .revert else s

def setPolicy (s : State) (g : Fin 8) (p : GroupPolicy) : State := s.setCtl { s.ctl with policies := s.ctl.policies.set g p }

def ownWriteGroup (s : State) (h : CtlHead) (g : Nat) (p : GroupPolicy) : State :=
  if 7 < g ∨ policyInRange g p = false then s.answer h .writeGroup .outOfRange .none
  else
    let n := Fin.ofNat 8 g
    (((s.setPolicy n (mergePolicy g (s.policy n) p)).dropRevert n).loadD g).answer h .writeGroup
      (if levelsKept p then .kept else .done) .none

def ownReadGroup (s : State) (h : CtlHead) (g : Nat) : State :=
  if 7 < g then s.answer h .readGroup .outOfRange .none
  else s.answer h .readGroup .done (.group (s.policy (Fin.ofNat 8 g)) (s.groupReport (Fin.ofNat 8 g)))

/-- R178: NOT LEADER on a follower that is JOINED or DISCOVERING. -/
def notLeader (s : State) : Bool := s.joined || s.discovering

def ownForceSource (s : State) (h : CtlHead) (gs : List (Fin 8)) (t : Option Source) (u : Option Urgency) (hard : Bool) : State :=
  if s.notLeader then s.answer h .forceSource .notLeader .none
  else
    match gs, t, u with
    | g :: m, some x, some v => ((g :: m).foldl (fun y k => y.forceGroup x v hard k) s).answer h .forceSource .done .none
    | _, _, _ => s.answer h .forceSource .outOfRange .none

def ownReleaseForce (s : State) (h : CtlHead) (gs : List (Fin 8)) : State :=
  if s.notLeader then s.answer h .releaseForce .notLeader .none
  else
    match gs with
    | [] => s.answer h .releaseForce .outOfRange .none
    | g :: m => ((g :: m).foldl releaseGroup s).answer h .releaseForce .done .none

def ownStopProgram (s : State) (h : CtlHead) : State := s.stopProgram.answer h .stopProgram .done .none

/-! ## The show lock (R182) -/

def ownShowLock (s : State) (h : CtlHead) : State := (s.setMgmt { s.mgmt with lock := true }).answer h .showLock .done .none
def ownShowUnlock (s : State) (h : CtlHead) : State := (s.setMgmt { s.mgmt with lock := false }).answer h .showUnlock .done .none

/-! ## The bed store (R120 to R123, R140) -/

/-- R120: the first run of `n` consecutive ERASED logical sectors. -/
def firstRun (t : Store) (n : Nat) : Option Nat :=
  (List.range (Config.logicalSectors + 1 - n)).find? (fun l => (List.range n).all (fun j => t.stateOf (l + j) == .erased))

/-- The states of `n` sectors from `first`, in index order. -/
def markRange (t : Store) (first n : Nat) (v : LogicalState) : Store :=
  (List.range n).foldl (fun x j => x.setState (first + j) v) t

/-- R120's checks before the run is searched, in their order. -/
def openRefusal (s : State) (h : CtlHead) (clip length loopStart loopLength : Nat) : Option Completion :=
  if clip = 0 ∨ 255 < clip ∨ (s.store.clip clip).isSome = true then some .outOfRange
  else if length = 0 ∨ 4194304 < length then some .outOfRange
  else if length ≤ loopStart ∨ (0 < loopLength ∧ length < loopStart + loopLength) then some .outOfRange
  else if s.store.writing.isSome then some .busy
  else if s.store.backlogFirst.any (fun x => x.2 == clip) then some .busy
  else if s.otherHoldsStore h.port then some .busy
  else if Config.clips ≤ s.store.dir.length then some .full
  else none

/-- R120: the run is allocated to a new WRITING entry. -/
def openClip (t : Store) (e : DirEntry) : Store :=
  { markRange t e.first e.count .allocated with dir := insertClip e t.dir, fill := some (emptyBuf 0), handed := [] }

def ownBedOpen (s : State) (h : CtlHead) (clip length loopStart loopLength : Nat) : State :=
  match s.openRefusal h clip length loopStart loopLength with
  | some c => s.answer h .bedOpen c .none
  | none =>
    match firstRun s.store (sectorsFor length) with
    | none => s.answer h .bedOpen .full .none
    | some l =>
      (s.setStore (openClip s.store
        { id := clip, first := l, count := sectorsFor length, length := length, loopStart := loopStart, loopLength := loopLength,
          state := .writing, writer := h.port, next := 0, damageSeen := false, storeFault := false })).answer h .bedOpen .done (.firstSector l)

/-- R121's and R122's shared checks. -/
def writerRefusal (s : State) (h : CtlHead) (clip : Nat) : Except Completion DirEntry :=
  match s.store.clip clip with
  | none => .error .notFound
  | some e =>
    if e.state ≠ .writing then .error .notFound
    else if e.writer ≠ h.port then .error .busy
    else if e.storeFault then .error .storeFault
    else .ok e

/-- The filling buffer with two more frames. -/
def filled (t : Store) (e : DirEntry) (f0 f1 : BedFrame) : PageBuf :=
  match t.fill with
  | some b => { b with frames := b.frames ++ [f0, f1] }
  | none => { page := e.next / 16, frames := [f0, f1] }

/-- R121: the two frames fill the buffer while the other one is programming, so the request would be held. -/
def wouldHold (t : Store) (b : PageBuf) : Bool := decide (16 ≤ b.frames.length) && !t.handed.isEmpty

/-- R121: two frames are taken. -/
def takeFrames (s : State) (h : CtlHead) (clip : Nat) (e : DirEntry) (b : PageBuf) : State :=
  let t := s.store.updateClip clip (fun x => { x with next := x.next + 2 })
  if b.frames.length < 16 then (s.setStore { t with fill := some b }).answer h .bedData .done .none
  else
    match t.handed with
    | [] => (s.setStore { t with handed := [b], fill := some (emptyBuf ((e.next + 2) / 16)) }).answer h .bedData .done .none
    | m => (s.setStore { t with handed := m ++ [b], fill := none, dataHeld := true }).accept h .bedData

def ownBedData (s : State) (h : CtlHead) (clip offset : Nat) (f0 f1 : BedFrame) : State :=
  match s.writerRefusal h clip with
  | .error c => s.answer h .bedData c .none
  | .ok e =>
    if offset ≠ e.next ∨ e.length ≤ offset then s.answer h .bedData .outOfRange .none
    else
      let b := filled s.store e f0 f1
      if wouldHold s.store b = true ∧ s.completionFull h.port = true then s.answer h .bedData .busy .none
      else s.takeFrames h clip e b

/-- R122 step 1: the last page, its remaining frames zero. -/
def padPage (b : PageBuf) : PageBuf := { b with frames := b.frames ++ List.replicate (16 - b.frames.length) zeroFrame }

/-- R122: the seal is held in service. -/
def takeSeal (t : Store) : Store :=
  match t.fill with
  | some b => if b.frames.isEmpty then { t with sealing := true } else { t with handed := t.handed ++ [padPage b], fill := none, sealing := true }
  | none => { t with sealing := true }

def ownBedSeal (s : State) (h : CtlHead) (clip : Nat) : State :=
  match s.writerRefusal h clip with
  | .error c => s.answer h .bedSeal c .none
  | .ok e =>
    if e.next < e.length then s.answer h .bedSeal .outOfRange .none
    else if s.completionFull h.port then s.answer h .bedSeal .busy .none
    else (s.setStore (takeSeal s.store)).accept h .bedSeal

/-- R123, R131: a clip's sectors become DIRTY and join the backlog in index order, and the entry is removed. -/
def dirtyClip (t : Store) (e : DirEntry) : Store :=
  { markRange t e.first e.count .dirty with
    backlog := t.backlog ++ (List.range e.count).map (fun j => e.first + j)
    backlogFirst := t.backlogFirst ++ [(e.first, e.id)]
    dir := t.dir.filter (fun x => decide (x.id ≠ e.id)) }

/-- R123: the step of the open clip's job in flight runs on, its outcome ignored. -/
def orphanStep (t : Store) : Store :=
  match t.engine with
  | some x => if x.job = .clip then { t with engine := some { x with orphan := true } } else t
  | none => t

def clipStepInFlight (t : Store) : Bool := match t.engine with | some x => x.job == .clip | none => false

/-- R123: the RELOCATING target of an abandoned relocation. -/
def releaseTarget (t : Store) : Store :=
  match t.clipCopy with
  | none => t
  | some j =>
    match j.target with
    | none => t
    | some p => if clipStepInFlight t then { t with orphanTarget := some p } else (t.dropRelocating p).addSpare p false

/-- R123: the open clip's job is emptied; the sectors it has retired still receive their marks (R116). -/
def clearClipJob (t : Store) : Store :=
  { t with fill := none, handed := [], clipCopy := none, sealing := false, sealAfterMark := false, dataHeld := false }

/-- R139: a clip leaves the directory: tracking it stops and its slots are emptied. -/
def untrack (q : Player) (e : DirEntry) : Player :=
  match q.tracked with
  | some (c, _) => if c = e.id then { q with tracked := none, window := [] } else q
  | none => q

/-- R139: its outstanding read keeps its place in the flash, for its completion. -/
def loseRead (q : Player) (e : DirEntry) : Player :=
  match q.reading with
  | some (c, page) =>
    if c = e.id then { q with reading := none, lostRead := some { clip := c, sector := e.first + page / 64, page := page % 64 } } else q
  | none => q

/-- R138: a prime of it is cleared. -/
def unprime (q : Player) (e : DirEntry) : Player :=
  match q.prime with
  | some x => if x.clip = e.id then { q with prime := none } else q
  | none => q

/-- The bed player after a clip has left the directory (R138, R139). Tracking of another clip starts at an output period (R135). -/
def playerClipGone (s : State) (e : DirEntry) : State := s.setPlayer (unprime (loseRead (untrack s.player e) e) e)

/-- R123: BED ABORT of a WRITING clip. -/
def abortClip (s : State) (e : DirEntry) : State :=
  let s1 := if s.store.dataHeld || s.store.sealing then s.complete e.writer .notFound else s
  (s1.setStore (dirtyClip (clearClipJob (orphanStep (releaseTarget s1.store))) e)).playerClipGone e

/-- R123: BED DELETE of a SEALED or DAMAGED clip; the sector a scrub is copying stays with it. -/
def deleteClip (s : State) (e : DirEntry) : State :=
  let t := dirtyClip s.store e
  let copying : Option Nat := s.store.scrub.map (fun j => j.logical)
  let kept := t.scrubQueue.filter (fun l => decide (l < e.first) || decide (e.first + e.count ≤ l) || copying == some l)
  (s.setStore { t with scrubQueue := kept }).playerClipGone e

def ownBedAbort (s : State) (h : CtlHead) (clip : Nat) : State :=
  match s.store.clip clip with
  | none => s.answer h .bedAbort .notFound .none
  | some e =>
    if e.state = .writing then (s.abortClip e).answer h .bedAbort .done .none else s.answer h .bedAbort .notFound .none

def ownBedDelete (s : State) (h : CtlHead) (clip : Nat) : State :=
  match s.store.clip clip with
  | none => s.answer h .bedDelete .notFound .none
  | some e =>
    (if e.state = .writing then s.abortClip e else s.deleteClip e).answer h .bedDelete .done .none

def ownBedList (s : State) (h : CtlHead) (start : Nat) : State :=
  if start < 1 ∨ 255 < start then s.answer h .bedList .outOfRange .none
  else
    let l := s.store.dir.filter (fun e => decide (start ≤ e.id))
    s.answer h .bedList .done (.clips (l.take 12) (decide (12 < l.length)) s.store.dir.length)

/-- R124: the engine state of BED STATUS. -/
def engineState (t : Store) : EngineState :=
  match t.engine with
  | none => .idle
  | some x => if x.op.isErase then (if x.suspended then .eraseSuspended else .erase) else .program

def countState (t : Store) (v : LogicalState) : Nat := ((List.range Config.logicalSectors).filter (fun l => t.stateOf l == v)).length

def bedStatusData (t : Store) : BedStatusData :=
  { engine := engineState t, job := t.engine.map (fun x => x.job), spares := t.spares.length,
    erasedSpares := (t.spares.filter (fun x => x.2)).length, retired := t.retired.length, backlog := t.backlog.length,
    scrubQueue := t.scrubQueue.length, erased := countState t .erased, damaged := countState t .damaged,
    openClip := t.writing, saving := t.save.isSome }

def ownBedStatus (s : State) (h : CtlHead) : State := s.answer h .bedStatus .done (.bedStatus (bedStatusData s.store))

/-! ## Unit requests (R183 to R185) -/

/-- R184: the snapshot of section 6.7. -/
def snapshot (s : State) : Settings :=
  { cues := s.cues.records, routes := s.routes.active, policies := s.ctl.policies,
    limits := { a := (s.monitor .a).limits, b := (s.monitor .b).limits }, grants := s.mgmt.grants }

/-- R184: SAVE SETTINGS is accepted. -/
def takeSave (s : State) (h : CtlHead) : State :=
  let s1 := s.setMgmt { s.mgmt with saveBuffer := some s.snapshot }
  (s1.setStore { s1.store with save := some { port := h.port, erased := false, next := 0, pages := imagePages s.snapshot } }).accept h .saveSettings

def ownSaveSettings (s : State) (h : CtlHead) : State :=
  if s.otherHoldsStore h.port = true ∨ s.completionFull h.port = true then s.answer h .saveSettings .busy .none
  else s.takeSave h

/-- R183: four grants, each in range and one of them FULL. -/
def grantsOf (g : Four (Option Grant)) : Option (Four Grant) :=
  match g.ra, g.rb, g.o1, g.o2 with
  | some a, some b, some c, some d =>
    let v : Four Grant := { ra := a, rb := b, o1 := c, o2 := d }
    if grantsHoldFull v then some v else none
  | _, _, _, _ => none

def ownWriteGrants (s : State) (h : CtlHead) (g : Four (Option Grant)) : State :=
  match grantsOf g with
  | some v => (s.setMgmt { s.mgmt with grants := v }).answer h .writePortGrants .done .none
  | none => s.answer h .writePortGrants .outOfRange .none

/-- R185: answered DONE, and in service until the reset; of two taken in one slot the first is the requester (log 37). -/
def ownResetUnit (s : State) (h : CtlHead) : State :=
  let s1 := (s.answer h .resetUnit .done .none).accept h .resetUnit
  match s1.framer.resetReq with
  | some _ => s1
  | none => s1.setFramer { s1.framer with resetReq := some { port := h.port, sent := false } }

/-! ## A request with its parameters -/

/-- Each request at its owning block. -/
def owner (s : State) (h : CtlHead) : Request → State
  | .identify => s.ownIdentify h
  | .readStatus part => s.ownReadStatus h part
  | .readHealth rig => s.ownReadHealth h rig
  | .setHealthLimits rig l => s.ownSetHealthLimits h rig l
  | .requalifyRig rig => s.ownRequalify h rig
  | .readBadFrame rig => s.ownReadBadFrame h rig
  | .readFault => s.ownReadFault h
  | .clearFault => s.ownClearFault h
  | .readJournal start => s.ownReadJournal h start
  | .writeCue rec n => s.ownWriteCue h rec n
  | .readCue c => s.ownReadCue h c
  | .deleteCue c => s.ownDeleteCue h c
  | .listCues start => s.ownListCues h start
  | .writeRoute first count l => s.ownWriteRoute h first count l
  | .readRoute bank first count => s.ownReadRoute h bank first count
  | .commitRoutes t => s.ownCommitRoutes h t
  | .writeGroup g p => s.ownWriteGroup h g p
  | .readGroup g => s.ownReadGroup h g
  | .forceSource gs t u hard => s.ownForceSource h gs t u hard
  | .releaseForce gs => s.ownReleaseForce h gs
  | .stopProgram => s.ownStopProgram h
  | .showLock => s.ownShowLock h
  | .showUnlock => s.ownShowUnlock h
  | .bedOpen c n ls ll => s.ownBedOpen h c n ls ll
  | .bedData c o f0 f1 => s.ownBedData h c o f0 f1
  | .bedSeal c => s.ownBedSeal h c
  | .bedAbort c => s.ownBedAbort h c
  | .bedDelete c => s.ownBedDelete h c
  | .bedList start => s.ownBedList h start
  | .bedStatus => s.ownBedStatus h
  | .saveSettings => s.ownSaveSettings h
  | .writePortGrants g => s.ownWriteGrants h g
  | .resetUnit => s.ownResetUnit h

/-- R176, R178: a request judged and, when nothing refuses it, handed to its owner. -/
def perform (s : State) (h : CtlHead) (q : Request) : State := s.control h q.kind (s.owner h q)

/-! ## Side frames (R168) -/

/-- R178: the request of a kind whose parameters are "none". -/
def bareRequest : ReqKind → Option Request
  | .identify => some .identify
  | .readFault => some .readFault
  | .clearFault => some .clearFault
  | .stopProgram => some .stopProgram
  | .showLock => some .showLock
  | .showUnlock => some .showUnlock
  | .bedStatus => some .bedStatus
  | .saveSettings => some .saveSettings
  | .resetUnit => some .resetUnit
  | _ => none

/-- R176: a CONTROL's body. A kind without parameters is whole in the 3 bytes of the head and in no other length; a kind with parameters
needs bytes past them, and their typed reading, which the sender gives where their length agrees with the kind (log 10). -/
def takeControl (s : State) (p : CtlPort) (body : List Byte) (params : Option Request) : State :=
  if body.length < 3 then s
  else
    let h : CtlHead := { port := p, addr := byteAt body 0, tag := byteAt body 1, lengthOk := true }
    match ReqKind.ofCode (byteAt body 2) with
    | none => s.unknownKind h (byteAt body 2)
    | some k =>
      match bareRequest k, params with
      | some q, _ => s.perform { h with lengthOk := decide (body.length = 3) } q
      | none, some q => if q.kind = k ∧ 3 < body.length then s.perform h q else s.control { h with lengthOk := false } k s
      | none, none => s.control { h with lengthOk := false } k s

/-- R168: a side frame that passed its checks is routed by its kind and port. -/
def routeSide (s : State) (p : Port) (f : InSide) (body : SideBody) : State :=
  match p.ctl, body with
  | some q, .control params => if f.kind = 2 then s.takeControl q f.body params else s
  | some q, _ => if f.kind = 2 then s.takeControl q f.body none else s
  | none, .tick t => if f.kind = 4 then s.takeTick p t else s
  | none, .report es => if f.kind = 5 then s.takeReport p es else s
  | none, _ => s

/-- R168: a received side frame. -/
def takeSide (s : State) (p : Port) (raw : RawFrame) (body : SideBody) : State :=
  if s.isUp p then
    match checkSide raw with
    | some f => s.routeSide p f body
    | none => s
  else s

end State

end Sys2Proof.Machine
end

