-- ==== Sys2Proof/Machine/Period.lean ====
section
/-! DEFINITION. The unit's life (09 sections 9.4 and 9.5, R172 to R175; R165, R185): the resets, the run states, and one output
period with every block's share of it in the order of log 3. -/

namespace Sys2Proof.Machine

namespace State

/-! ## Resets (R165, R174) -/

/-- R174: the supply falls; only the store contents outlast OFF. -/
def powerLost (s : State) : State :=
  volatileReset .off s.framer.pinAsserted .low s.store.flash s.store.settings Reset.journal Reset.fault s.pending

/-- R174: a power-on reset; the journal and the fault record are empty (R96, R165). -/
def poweredOn (s : State) (strap : Strap) : State :=
  volatileReset .hold s.framer.pinAsserted strap s.store.flash s.store.settings Reset.journal Reset.fault s.pending

/-- R165, R96: a reset that keeps the journal and the fault record, and takes UNIT RESET stamped as the unit stood. -/
def unitReset (s : State) (pin : Bool) (strap : Strap) (o : FaultOrigin) (d : FaultDetail) : State :=
  volatileReset .hold pin strap s.store.flash s.store.settings s.ctl.journal (s.raise .unitReset o d).fault s.pending

/-- R165: the RESET pin. -/
def pinReset (s : State) (strap : Strap) : State := s.unitReset true strap .unit .pin

/-- R185, R165: the reset of RESET UNIT, once the slot of its reply has passed. -/
def requestedReset (s : State) (strap : Strap) : State :=
  match s.framer.resetReq with
  | some q => if q.sent then s.unitReset s.framer.pinAsserted strap q.port.origin .request else s
  | none => s

/-! ## Run states (R174) -/

/-- R174: HOLD ends. -/
def holdEnd (s : State) : State := s.setFramer { s.framer with run := .load, loadCount := 0 }

/-- R174, R157 at the end of an output period. -/
def runPeriod (s : State) (whole : Bool) : State :=
  match s.framer.run with
  | .off => s
  | .hold => if Config.holdPeriods ≤ s.framer.holdCount ∧ s.framer.pinAsserted = false then s.holdEnd else s
  | .load => if Config.loadPeriods ≤ s.framer.loadCount then s.loadEnd whole else s
  | .gangWait => s.presencePeriod
  | .running => s

/-! ## One output period (R172) -/

/-- The program's share, with the period slot just taken. -/
def programShare (s : State) : State :=
  if s.acting then
    match s.framer.periodSlot with
    | some k => s.programPeriod k
    | none => s
  else s

/-- The output frame, formed once the bypass is released (R104, R112). -/
def frameNow (s : State) : Option MainFrame := if s.framer.bypass then none else some s.outputFrame

/-- The switch controller's share. -/
def controllerShare (s : State) : State := if s.acting then s.controllerPeriod s.startCandidate s.cueDiffers else s

/-- R104: switches and output assembly, in the order the outside gives (log 9), with the frame and the state it was formed from. -/
def switchAndForm (s : State) (assembleFirst : Bool) : State × Option MainFrame × State :=
  let t := s.controllerShare
  if assembleFirst then (t, s.frameNow, s) else (t, t.frameNow, t)

/-- R39: the notices of the frame, if one was formed. -/
def noticeShare (s : State) (f : Option MainFrame) (from_ : State) : State :=
  match f with
  | some _ => s.patchNotices from_
  | none => s

/-- The player's, the store's and the gang agent's shares. -/
def laterShares (s : State) (i : PeriodInput) : State := if s.acting then ((s.playerPeriod).storePeriod i).gangPeriod else s

/-- R7: the program cue of this output period, for the next. -/
def keepCue (s : State) : State := s.setProg { s.prog with prevCue := s.prog.pos.cue }

/-- One output period of a unit that is not OFF. -/
def period (s : State) (i : PeriodInput) : State :=
  let s1 := s.clockPeriod.programShare.stepPeriod
  let s2 := (((s1.healthPeriod .a).healthPeriod .b).bypassPeriod).commitPeriod (!s.playing)
  let w := s2.switchAndForm i.assembleFirst
  let s3 := (w.1.noticeShare w.2.1 w.2.2).laterShares i
  ((s3.sendSlots w.2.1).keepCue).runPeriod i.imageGood

/-- OUTPUT_PERIOD: a requested reset that has fallen due is taken first (R185). -/
def outputPeriod (s : State) (i : PeriodInput) : State :=
  if s.framer.run = .off then s else (s.requestedReset i.strap).period i

end State

end Sys2Proof.Machine
end

