-- ==== Sys2Proof/Machine/UnitCmd.lean ====
section
/-! DEFINITION. The meanings of the supply, pin and run-state commands (R174, R134, R157, R165, R185). A command whose event is
not at hand changes nothing (log 1, log 4). -/

namespace Sys2Proof.Machine

abbrev Out := Host.Outcome State Fault Refusal

/-- POWER_ON (R174): OFF to HOLD. -/
def execPowerOn (strap : Strap) (s : State) : Out := .next (if s.framer.run = .off then s.poweredOn strap else s)

/-- SUPPLY_LOSS (R174): any run state but OFF to OFF. -/
def execSupplyLoss (s : State) : Out := .next (if s.framer.run = .off then s else s.powerLost)

/-- RESET_PIN (R174, R165): a pin already asserted is one reset; while OFF it is part of the power-on. -/
def execResetPin (strap : Strap) (s : State) : Out :=
  .next (if s.framer.pinAsserted then s
    else if s.framer.run = .off then s.setFramer { s.framer with pinAsserted := true }
    else s.pinReset strap)

/-- RESET_PIN_RELEASE (R174): HOLD's 200 output periods start again. -/
def execResetPinRelease (s : State) : Out :=
  .next (if s.framer.pinAsserted then s.setFramer { s.framer with pinAsserted := false, holdCount := 0 } else s)

/-- HOLD_EXPIRY (R174): the 200th output period of HOLD, with the pin not asserted. -/
def execHoldExpiry (s : State) : Out :=
  .next (if s.framer.run = .hold ∧ s.framer.pinAsserted = false ∧ Config.holdPeriods ≤ s.framer.holdCount + 1 then
      (s.setFramer { s.framer with holdCount := Config.holdPeriods }).holdEnd
    else s)

/-- LOAD_END (R134, R173): the 260th output period of LOAD, whose count is 260. Sent one period short it stands for that output period
(log 72). -/
def execLoadEnd (imageGood : Bool) (s : State) : Out :=
  .next (if s.framer.run = .load ∧ Config.loadPeriods ≤ s.framer.loadCount + 1 then
      (s.setFramer { s.framer with
        loadCount := Config.loadPeriods
        count := s.framer.count + BitVec.ofNat 32 (Config.loadPeriods - s.framer.loadCount) }).loadEnd imageGood
    else s)

/-- PRESENCE_WINDOW_END (R157): the 8,000th output period of GANG WAIT. Sent one period short it stands for that output period (log 72). -/
def execPresenceWindowEnd (s : State) : Out :=
  .next (if s.framer.run = .gangWait ∧ Config.presenceWindow ≤ s.framer.waitCount + 1 then
      (s.setFramer { s.framer with
        waitCount := Config.presenceWindow
        count := s.framer.count + BitVec.ofNat 32 (Config.presenceWindow - s.framer.waitCount) }).windowEnd
    else s)

/-- REQUESTED_RESET (R185): once the slot of the DONE reply has passed. -/
def execRequestedReset (strap : Strap) (s : State) : Out := .next (s.requestedReset strap)

end Sys2Proof.Machine
end

