-- ==== Sys2Proof/Machine/LinkCmd.lean ====
section
/-! DEFINITION. The meanings of the link and rig commands (R166, R167, R26, R29, R31, R34, R36). A row that names the moment a
count reaches its limit acts when the count is one short of it or there (log 1). -/

namespace Sys2Proof.Machine

namespace State

/-- R31: the gap timer is at the gap limit or one short of it, and STALL is not set. -/
def stallAtHand (s : State) (r : Rig) : Bool :=
  s.isUp (Rig.port r) && !(s.monitor r).hard.stall && decide ((s.monitor r).limits.gap ≤ (s.monitor r).gap + 1)

def stallNow (s : State) (r : Rig) : State :=
  (s.setRigHealth r { s.monitor r with gap := max (s.monitor r).gap (s.monitor r).limits.gap }).stallReached r

/-- R34: the pilot hold count is at the pilot hold or one short of it. -/
def pilotAtHand (s : State) (r : Rig) : Bool :=
  s.isUp (Rig.port r) && (s.monitor r).limits.pilotChannel.isSome && !(s.monitor r).hard.pilotLost
    && decide ((s.monitor r).limits.pilotHold ≤ (s.monitor r).pilotCount + 1)

def pilotNow (s : State) (r : Rig) : State :=
  (s.setRigHealth r { s.monitor r with pilotCount := max (s.monitor r).pilotCount (s.monitor r).limits.pilotHold }).pilotReached r

/-- R26: the qualification count is at the qualify count or one short of it. -/
def qualifyAtHand (s : State) (r : Rig) : Bool :=
  (s.monitor r).state == .qualifying && (s.monitor r).hard.isEmpty && decide ((s.monitor r).limits.qualify ≤ (s.monitor r).qual + 1)

def qualifyNow (s : State) (r : Rig) (k : FrameKind) : State :=
  (s.setRigHealth r { s.monitor r with qual := max (s.monitor r).qual (s.monitor r).limits.qualify }).qualified r k

/-- A timer with at most one frame left. -/
def lastFrame (t : Option Nat) : Bool := match t with | some n => decide (n ≤ 1) | none => false

end State

/-- LOCK_ACQUIRED (R166). -/
def execLockAcquired (p : Port) (s : State) : Out := .next (s.acquire p)

/-- LOCK_LOST (R166, R3, R25). -/
def execLockLost (p : Port) (stepFirst : Bool) (s : State) : Out := .next (s.lose p stepFirst)

/-- LINK_UP (R166): the good-slot run of a TRAINING link is at 8 or one short of it; the command is then its eighth good slot. -/
def execLinkUp (p : Port) (s : State) : Out :=
  .next (if (s.links.get p).state = .training ∧ Config.goodSlots ≤ (s.links.get p).run + 1
    then (s.setLink p (s.links.get p).eighth).enterUp p else s)

/-- MAIN_FRAME (R166, R167): one slot of a port. -/
def execMainFrame (p : Port) (f : Option RawFrame) (s : State) : Out := .next (s.slot p f)

/-- STALL (R31, R32). -/
def execStall (r : Rig) (s : State) : Out := .next (if s.stallAtHand r then s.stallNow r else s)

/-- PILOT_LOST (R34). -/
def execPilotLost (r : Rig) (s : State) : Out := .next (if s.pilotAtHand r then s.pilotNow r else s)

/-- RIG_QUALIFIED (R26): `audio` is the kind of the frame that qualifies. -/
def execRigQualified (r : Rig) (audio : Bool) (s : State) : Out :=
  .next (if s.qualifyAtHand r then s.qualifyNow r (if audio then .audio else .idle) else s)

/-- RECOVERY_HOLD_EXPIRY (R29). -/
def execRecoveryHoldExpiry (r : Rig) (s : State) : Out :=
  .next (if State.lastFrame (s.monitor r).recovery then s.recoveryReached r else s)

/-- SOFT_JUMP_EXPIRY (R36). -/
def execSoftJumpExpiry (r : Rig) (s : State) : Out :=
  .next (if State.lastFrame (s.monitor r).softJump then s.softJumpReached r else s)

end Sys2Proof.Machine
end

