-- ==== Sys2Proof/Machine/ProgramCmd.lean ====
section
/-! DEFINITION. The meanings of the program and group commands, and of OUTPUT_PERIOD (R8, R12, R18, R81, R85, R172). -/

namespace Sys2Proof.Machine

namespace State

/-- R12: the start grace timer has at most one frame left and its conditions hold. -/
def graceAtHand (s : State) (r : Rig) : Bool :=
  s.acting && s.prog.state == .stopped && s.graceHolds r && lastFrame s.prog.grace

/-- R8: the next output period's slot is the held anchor's slot plus D in force. -/
def anchorAtHand (s : State) (h : HeldAnchor) : Bool :=
  s.acting && s.prog.state == .stopped && s.anchorFound h && s.nextSlot == s.anchorSlot h

/-- R18: two misses stand. -/
def lossAtHand (s : State) (r : Rig) : Bool :=
  s.playing && s.timingRig != some r && (s.rig r).step.state != .outOfStep && decide (2 ≤ (s.rig r).step.miss)

/-- R81: the deferral timer is at its limit or one short of it. -/
def limitAtHand (s : State) (g : Fin 8) : Bool :=
  s.acting && !(s.group g).limitReached && decide (0 < (s.policy g).deferral)
    && (match (s.group g).timer with | some t => decide ((s.policy g).deferral ≤ t + 1) | none => false)

/-- R85: the fade's progress is at its length or one short of it. -/
def fadeAtHand (s : State) (g : Fin 8) : Bool :=
  match (s.group g).st with
  | .settled _ => false
  | .fading _ _ n start _ => decide (n ≤ s.progress start + 1)

end State

/-- START_GRACE_EXPIRY (R12, R38, R73). -/
def execStartGraceExpiry (s : State) : Out :=
  .next (match s.timingRig with
    | some r => if s.graceAtHand r then s.graceExpire r else s
    | none => s)

/-- HELD_ANCHOR_DUE (R8, R7). -/
def execHeldAnchorDue (s : State) : Out :=
  .next (match s.prog.held with
    | some h => if s.anchorAtHand h then (s.anchorStart h).cueEvent else s
    | none => s)

/-- STEP_LOST (R18, R19). -/
def execStepLost (r : Rig) (s : State) : Out := .next (if s.lossAtHand r then s.stepLostNow r else s)

/-- FADE_COMPLETE (R85). -/
def execFadeComplete (g : Fin 8) (s : State) : Out := .next (if s.fadeAtHand g then s.fadeDone g else s)

/-- DEFERRAL_LIMIT (R81). -/
def execDeferralLimit (g : Fin 8) (s : State) : Out := .next (if s.limitAtHand g then s.limitHit g else s)

/-- OUTPUT_PERIOD (R172). -/
def execOutputPeriod (i : PeriodInput) (s : State) : Out := .next (s.outputPeriod i)

end Sys2Proof.Machine
end

