-- ==== Sys2Proof/Machine/StoreCmd.lean ====
section
/-! DEFINITION. The meanings of the store's events (R113, R122, R125 to R133). -/

namespace Sys2Proof.Machine

namespace State

def isPage : FlashOp → Bool
  | .page _ _ _ _ _ => true
  | .settingsPage _ => true
  | _ => false

def isMark : FlashOp → Bool
  | .sealMark _ => true
  | .retireMark _ => true
  | _ => false

/-- R113: a program step's second output period is at hand. -/
def programAtHand (s : State) (x : EngineStep) : Bool := decide (Config.programPeriods ≤ s.progress x.start + 1)

/-- R125: an erase's twelfth period of progress is at hand. -/
def eraseAtHand (s : State) (x : EngineStep) : Bool :=
  x.op.isErase && !s.heldByRead x && decide (Config.erasePeriods ≤ x.progress + 1)

/-- R125: the 200th output period since the start is at hand, without completion. -/
def timeoutAtHand (s : State) (x : EngineStep) : Bool :=
  x.op.isErase && !s.eraseAtHand x && decide (Config.eraseTimeout ≤ s.progress x.start + 1)

end State

/-- PAGE_READ (R125, R129, R136): the bed player's outstanding read is served. -/
def execPageRead (ecc : Ecc) (s : State) : Out := .next (if s.acting then s.playerRead ecc else s)

/-- PAGE_PROGRAM_COMPLETE (R113, R121, R126, R130, R133). -/
def execPageProgramComplete (verified : Bool) (s : State) : Out :=
  .next (match s.store.engine with
    | some x => if State.isPage x.op = true ∧ s.programAtHand x = true then s.programDone x verified else s
    | none => s)

/-- MARK_PROGRAM_COMPLETE (R113, R116, R122). -/
def execMarkProgramComplete (verified : Bool) (s : State) : Out :=
  .next (match s.store.engine with
    | some x => if State.isMark x.op = true ∧ s.programAtHand x = true then s.programDone x verified else s
    | none => s)

/-- ERASE_COMPLETE (R125, R127, R130, R131, R133). -/
def execEraseComplete (s : State) : Out :=
  .next (match s.store.engine with
    | some x => if s.eraseAtHand x then s.eraseDone x else s
    | none => s)

/-- ERASE_TIMEOUT (R125, R127, R128, R130, R133). -/
def execEraseTimeout (s : State) : Out :=
  .next (match s.store.engine with
    | some x => if s.timeoutAtHand x then s.eraseTimedOut x else s
    | none => s)

end Sys2Proof.Machine
end

