-- ==== Sys2Proof/Machine/GangCmd.lean ====
section
/-! DEFINITION. The meanings of SIDE_FRAME and of the gang's commands (R145, R146, R148, R168). -/

namespace Sys2Proof.Machine

namespace State

/-- R146: a JOINED follower's silence count is at 40 or one short of it, with no tick taken since. -/
def isolationAtHand (s : State) : Bool :=
  s.acting && s.joined && !s.gang.tickTaken && decide (Config.gangCount ≤ s.gang.silence + 1)

def isolateNow (s : State) : State :=
  (s.setGang { s.gang with silence := Config.gangCount, run := 0 }).becomeIsolated

/-- R148: a present row's silence count is at 40 or one short of it, with no entry taken since. -/
def absenceAtHand (s : State) (n : Fin 3) : Bool :=
  s.acting && s.gang.role == .leader && (s.gang.rows.get n).present && !(s.gang.rows.get n).taken
    && decide (Config.gangCount ≤ (s.gang.rows.get n).silence + 1)

end State

/-- SIDE_FRAME (R168): checked, routed, and carried out by the agent it reaches. -/
def execSideFrame (p : Port) (raw : RawFrame) (body : SideBody) (s : State) : Out := .next (s.takeSide p raw body)

/-- GANG_TICK (R145, R151): a tick that passed its checks. -/
def execGangTick (p : Port) (t : Tick) (s : State) : Out := .next (s.takeTick p t)

/-- GANG_REPORT (R147, R148): a report that passed its checks. -/
def execGangReport (p : Port) (entries : List UnitEntry) (s : State) : Out := .next (s.takeReport p entries)

/-- FOLLOWER_JOINED (R146, R156, R157). -/
def execFollowerJoined (s : State) : Out := .next (if s.joins then s.becomeJoined else s)

/-- FOLLOWER_ISOLATED (R146, R155). -/
def execFollowerIsolated (s : State) : Out := .next (if s.isolationAtHand then s.isolateNow else s)

/-- UNIT_ABSENT (R148): row `row` is that of unit `row` + 1. -/
def execUnitAbsent (row : Fin 3) (s : State) : Out := .next (if s.absenceAtHand row then s.rowLost row else s)

end Sys2Proof.Machine
end

