-- ==== Sys2Proof/Machine/RequestCmd.lean ====
section
/-! DEFINITION. The meanings of the requests (10): each is judged by R176 and, when nothing refuses it, carried out by its owner. -/

namespace Sys2Proof.Machine

/-- IDENTIFY (R186). -/
def execIdentify (h : CtlHead) (s : State) : Out :=
  .next (s.control h .identify (s.ownIdentify h))

/-- READ_STATUS (R186). -/
def execReadStatus (h : CtlHead) (part : StatusPart) (s : State) : Out :=
  .next (s.control h .readStatus (s.ownReadStatus h part))

/-- READ_HEALTH (R23). -/
def execReadHealth (h : CtlHead) (rig : RigArg) (s : State) : Out :=
  .next (s.control h .readHealth (s.ownReadHealth h rig))

/-- SET_HEALTH_LIMITS (R43). -/
def execSetHealthLimits (h : CtlHead) (rig : RigArg) (limits : HealthLimits) (s : State) : Out :=
  .next (s.control h .setHealthLimits (s.ownSetHealthLimits h rig limits))

/-- REQUALIFY_RIG (R42). -/
def execRequalifyRig (h : CtlHead) (rig : RigArg) (s : State) : Out :=
  .next (s.control h .requalifyRig (s.ownRequalify h rig))

/-- READ_BAD_FRAME (R41). -/
def execReadBadFrame (h : CtlHead) (rig : RigArg) (s : State) : Out :=
  .next (s.control h .readBadFrame (s.ownReadBadFrame h rig))

/-- READ_FAULT (R162). -/
def execReadFault (h : CtlHead) (s : State) : Out :=
  .next (s.control h .readFault (s.ownReadFault h))

/-- CLEAR_FAULT (R163). -/
def execClearFault (h : CtlHead) (s : State) : Out :=
  .next (s.control h .clearFault (s.ownClearFault h))

/-- READ_JOURNAL (R97). -/
def execReadJournal (h : CtlHead) (start : Nat) (s : State) : Out :=
  .next (s.control h .readJournal (s.ownReadJournal h start))

/-- WRITE_CUE (R45, R49, R51). -/
def execWriteCue (h : CtlHead) (rec : CueRecord) (zoneCount : Nat) (s : State) : Out :=
  .next (s.control h .writeCue (s.ownWriteCue h rec zoneCount))

/-- READ_CUE (R60). -/
def execReadCue (h : CtlHead) (cue : Nat) (s : State) : Out :=
  .next (s.control h .readCue (s.ownReadCue h cue))

/-- DELETE_CUE (R50, R51). -/
def execDeleteCue (h : CtlHead) (cue : Nat) (s : State) : Out :=
  .next (s.control h .deleteCue (s.ownDeleteCue h cue))

/-- LIST_CUES (R60). -/
def execListCues (h : CtlHead) (start : Nat) (s : State) : Out :=
  .next (s.control h .listCues (s.ownListCues h start))

/-- WRITE_ROUTE (R100). -/
def execWriteRoute (h : CtlHead) (first count : Nat) (entries : List RouteEntry) (s : State) : Out :=
  .next (s.control h .writeRoute (s.ownWriteRoute h first count entries))

/-- READ_ROUTE (R103). -/
def execReadRoute (h : CtlHead) (bank : BankArg) (first count : Nat) (s : State) : Out :=
  .next (s.control h .readRoute (s.ownReadRoute h bank first count))

/-- COMMIT_ROUTES (R101). -/
def execCommitRoutes (h : CtlHead) (timing : Option CommitTiming) (s : State) : Out :=
  .next (s.control h .commitRoutes (s.ownCommitRoutes h timing))

/-- WRITE_GROUP (R64, R143). -/
def execWriteGroup (h : CtlHead) (group : Nat) (policy : GroupPolicy) (s : State) : Out :=
  .next (s.control h .writeGroup (s.ownWriteGroup h group policy))

/-- READ_GROUP (R65). -/
def execReadGroup (h : CtlHead) (group : Nat) (s : State) : Out :=
  .next (s.control h .readGroup (s.ownReadGroup h group))

/-- FORCE_SOURCE (R77). -/
def execForceSource (h : CtlHead) (groups : List (Fin 8)) (target : Option Source) (urgency : Option Urgency) (hard : Bool) (s : State) : Out :=
  .next (s.control h .forceSource (s.ownForceSource h groups target urgency hard))

/-- RELEASE_FORCE (R78). -/
def execReleaseForce (h : CtlHead) (groups : List (Fin 8)) (s : State) : Out :=
  .next (s.control h .releaseForce (s.ownReleaseForce h groups))

/-- STOP_PROGRAM (R11). -/
def execStopProgram (h : CtlHead) (s : State) : Out :=
  .next (s.control h .stopProgram (s.ownStopProgram h))

/-- SHOW_LOCK (R182). -/
def execShowLock (h : CtlHead) (s : State) : Out :=
  .next (s.control h .showLock (s.ownShowLock h))

/-- SHOW_UNLOCK (R182). -/
def execShowUnlock (h : CtlHead) (s : State) : Out :=
  .next (s.control h .showUnlock (s.ownShowUnlock h))

/-- BED_OPEN (R120). -/
def execBedOpen (h : CtlHead) (clip length loopStart loopLength : Nat) (s : State) : Out :=
  .next (s.control h .bedOpen (s.ownBedOpen h clip length loopStart loopLength))

/-- BED_DATA (R121). -/
def execBedData (h : CtlHead) (clip offset : Nat) (f0 f1 : BedFrame) (s : State) : Out :=
  .next (s.control h .bedData (s.ownBedData h clip offset f0 f1))

/-- BED_SEAL (R122). -/
def execBedSeal (h : CtlHead) (clip : Nat) (s : State) : Out :=
  .next (s.control h .bedSeal (s.ownBedSeal h clip))

/-- BED_ABORT (R123). -/
def execBedAbort (h : CtlHead) (clip : Nat) (s : State) : Out :=
  .next (s.control h .bedAbort (s.ownBedAbort h clip))

/-- BED_DELETE (R123). -/
def execBedDelete (h : CtlHead) (clip : Nat) (s : State) : Out :=
  .next (s.control h .bedDelete (s.ownBedDelete h clip))

/-- BED_LIST (R140). -/
def execBedList (h : CtlHead) (start : Nat) (s : State) : Out :=
  .next (s.control h .bedList (s.ownBedList h start))

/-- BED_STATUS (R140). -/
def execBedStatus (h : CtlHead) (s : State) : Out :=
  .next (s.control h .bedStatus (s.ownBedStatus h))

/-- SAVE_SETTINGS (R184, R133). -/
def execSaveSettings (h : CtlHead) (s : State) : Out :=
  .next (s.control h .saveSettings (s.ownSaveSettings h))

/-- WRITE_PORT_GRANTS (R183). -/
def execWritePortGrants (h : CtlHead) (grants : Four (Option Grant)) (s : State) : Out :=
  .next (s.control h .writePortGrants (s.ownWriteGrants h grants))

/-- RESET_UNIT (R185). -/
def execResetUnit (h : CtlHead) (s : State) : Out :=
  .next (s.control h .resetUnit (s.ownResetUnit h))

/-- UNKNOWN_REQUEST (R176 step 5). -/
def execUnknownRequest (h : CtlHead) (kind : Byte) (s : State) : Out := .next (s.unknownKind h kind)

end Sys2Proof.Machine
end

