-- ==== Sys2Proof/Machine/Dispatch.lean ====
section
/-! DEFINITION. One arm per command: the meaning of each row of spec/opcode_table.json. -/

namespace Sys2Proof.Machine

def exec (i : Instr) (s : State) : Host.Outcome State Fault Refusal :=
  match i with
  | .powerOn strap => Sys2Proof.Machine.execPowerOn strap s
  | .supplyLoss => Sys2Proof.Machine.execSupplyLoss s
  | .resetPin strap => Sys2Proof.Machine.execResetPin strap s
  | .resetPinRelease => Sys2Proof.Machine.execResetPinRelease s
  | .holdExpiry => Sys2Proof.Machine.execHoldExpiry s
  | .loadEnd imageGood => Sys2Proof.Machine.execLoadEnd imageGood s
  | .presenceWindowEnd => Sys2Proof.Machine.execPresenceWindowEnd s
  | .lockAcquired p => Sys2Proof.Machine.execLockAcquired p s
  | .lockLost p stepFirst => Sys2Proof.Machine.execLockLost p stepFirst s
  | .linkUp p => Sys2Proof.Machine.execLinkUp p s
  | .mainFrame p slot => Sys2Proof.Machine.execMainFrame p slot s
  | .stall r => Sys2Proof.Machine.execStall r s
  | .pilotLost r => Sys2Proof.Machine.execPilotLost r s
  | .rigQualified r audio => Sys2Proof.Machine.execRigQualified r audio s
  | .recoveryHoldExpiry r => Sys2Proof.Machine.execRecoveryHoldExpiry r s
  | .softJumpExpiry r => Sys2Proof.Machine.execSoftJumpExpiry r s
  | .startGraceExpiry => Sys2Proof.Machine.execStartGraceExpiry s
  | .heldAnchorDue => Sys2Proof.Machine.execHeldAnchorDue s
  | .stepLost r => Sys2Proof.Machine.execStepLost r s
  | .fadeComplete g => Sys2Proof.Machine.execFadeComplete g s
  | .deferralLimit g => Sys2Proof.Machine.execDeferralLimit g s
  | .outputPeriod input => Sys2Proof.Machine.execOutputPeriod input s
  | .pageRead ecc => Sys2Proof.Machine.execPageRead ecc s
  | .pageProgramComplete verified => Sys2Proof.Machine.execPageProgramComplete verified s
  | .markProgramComplete verified => Sys2Proof.Machine.execMarkProgramComplete verified s
  | .eraseComplete => Sys2Proof.Machine.execEraseComplete s
  | .eraseTimeout => Sys2Proof.Machine.execEraseTimeout s
  | .sideFrame p raw body => Sys2Proof.Machine.execSideFrame p raw body s
  | .gangTick p t => Sys2Proof.Machine.execGangTick p t s
  | .gangReport p entries => Sys2Proof.Machine.execGangReport p entries s
  | .followerJoined => Sys2Proof.Machine.execFollowerJoined s
  | .followerIsolated => Sys2Proof.Machine.execFollowerIsolated s
  | .unitAbsent row => Sys2Proof.Machine.execUnitAbsent row s
  | .identify h => Sys2Proof.Machine.execIdentify h s
  | .readStatus h part => Sys2Proof.Machine.execReadStatus h part s
  | .readHealth h rig => Sys2Proof.Machine.execReadHealth h rig s
  | .setHealthLimits h rig limits => Sys2Proof.Machine.execSetHealthLimits h rig limits s
  | .requalifyRig h rig => Sys2Proof.Machine.execRequalifyRig h rig s
  | .readBadFrame h rig => Sys2Proof.Machine.execReadBadFrame h rig s
  | .readFault h => Sys2Proof.Machine.execReadFault h s
  | .clearFault h => Sys2Proof.Machine.execClearFault h s
  | .readJournal h start => Sys2Proof.Machine.execReadJournal h start s
  | .writeCue h rec zoneCount => Sys2Proof.Machine.execWriteCue h rec zoneCount s
  | .readCue h cue => Sys2Proof.Machine.execReadCue h cue s
  | .deleteCue h cue => Sys2Proof.Machine.execDeleteCue h cue s
  | .listCues h start => Sys2Proof.Machine.execListCues h start s
  | .writeRoute h first count entries => Sys2Proof.Machine.execWriteRoute h first count entries s
  | .readRoute h bank first count => Sys2Proof.Machine.execReadRoute h bank first count s
  | .commitRoutes h timing => Sys2Proof.Machine.execCommitRoutes h timing s
  | .writeGroup h group policy => Sys2Proof.Machine.execWriteGroup h group policy s
  | .readGroup h group => Sys2Proof.Machine.execReadGroup h group s
  | .forceSource h groups target urgency hard => Sys2Proof.Machine.execForceSource h groups target urgency hard s
  | .releaseForce h groups => Sys2Proof.Machine.execReleaseForce h groups s
  | .stopProgram h => Sys2Proof.Machine.execStopProgram h s
  | .showLock h => Sys2Proof.Machine.execShowLock h s
  | .showUnlock h => Sys2Proof.Machine.execShowUnlock h s
  | .bedOpen h clip length loopStart loopLength => Sys2Proof.Machine.execBedOpen h clip length loopStart loopLength s
  | .bedData h clip offset f0 f1 => Sys2Proof.Machine.execBedData h clip offset f0 f1 s
  | .bedSeal h clip => Sys2Proof.Machine.execBedSeal h clip s
  | .bedAbort h clip => Sys2Proof.Machine.execBedAbort h clip s
  | .bedDelete h clip => Sys2Proof.Machine.execBedDelete h clip s
  | .bedList h start => Sys2Proof.Machine.execBedList h start s
  | .bedStatus h => Sys2Proof.Machine.execBedStatus h s
  | .saveSettings h => Sys2Proof.Machine.execSaveSettings h s
  | .writePortGrants h grants => Sys2Proof.Machine.execWritePortGrants h grants s
  | .resetUnit h => Sys2Proof.Machine.execResetUnit h s
  | .requestedReset strap => Sys2Proof.Machine.execRequestedReset strap s
  | .unknownRequest h kind => Sys2Proof.Machine.execUnknownRequest h kind s

end Sys2Proof.Machine
end

