-- ==== Sys2Proof/Safety.lean ====
section
/-! DEFINITION. What a safe step is, the facts of a state that every step keeps, and the conditions under which a request reaches the
block that owns it. -/

namespace Sys2Proof.Machine

/-- The outcome is a next state. -/
def Completes (o : Host.Outcome State Fault Refusal) : Prop := ∃ t, o = .next t

/-! ## The facts a step keeps -/

/-- R177: "at every moment at least one port holds FULL". -/
def someFull (g : Four Grant) : Bool := g.ra == .full || g.rb == .full || g.o1 == .full || g.o2 == .full

/-- R18, section 1.5: the values a step record takes. -/
def StepOk (x : StepRec) : Prop :=
  match x.state with
  | .inStep => x.streak = 32 ∧ x.miss ≤ 2 ∧ x.lastSkew.isSome = true
  | .drifting => 1 ≤ x.streak ∧ x.streak < 32 ∧ x.miss ≤ 2 ∧ x.lastSkew.isSome = true
  | .outOfStep => x.streak = 0 ∧ x.miss = 0 ∧ x.lastSkew = none

/-- R1 and R18 for one rig's part of the alignment buffer. -/
def RigOk (a : AlignRig) : Prop := a.ring.length ≤ 64 ∧ StepOk a.step

/-- Section 1.4: 0:0 and no due slot while STOPPED; a due slot and no held anchor while RUNNING or FREE. -/
def ProgOk (p : Program) : Prop :=
  match p.state with
  | .stopped => p.pos = { cue := 0, pos := 0 } ∧ p.due = none ∧ p.anchorPending = false
  | _ => p.due.isSome = true ∧ p.held = none

def AlignOk (a : Align) : Prop := RigOk a.rigs.a ∧ RigOk a.rigs.b ∧ ProgOk a.prog

/-- R96: at most 64 entries, and "their entry numbers run consecutively from oldest to newest", the newest one below the next. -/
def JournalOk (j : Journal) : Prop :=
  j.entries.length ≤ 64
    ∧ ∀ i (h : i < j.entries.length), (j.entries[i]).number = j.next - BitVec.ofNat 16 (j.entries.length - i)

/-- R159, R161, R162: no later kinds while unlocked, each kind listed once in ascending code. -/
def RecordOk (f : FaultRecord) : Prop := (f.first = none → f.later = []) ∧ f.later.Pairwise (fun x y => x.code < y.code)

/-- 3.3: what the staged slot holds beside a map. -/
def StagedOk (m : CueMap) (x : Staged) : Prop :=
  m.inUse = some x.cue ∧ x.isNew = !m.hasRecord x.cue
    ∧ (match x.action with
       | .write p => CueRecordValid { cue := x.cue, policy := p } = true
       | .delete => x.isNew = false)

/-- R46: distinct cue numbers in ascending order, every record valid, occupancy at most 256. -/
def CuesOk (m : CueMap) : Prop :=
  m.records.Pairwise (fun x y => x.cue < y.cue) ∧ (∀ r ∈ m.records, CueRecordValid r = true) ∧ m.occupancy ≤ 256
    ∧ ∀ x, m.staged = some x → StagedOk m x

/-- R119, R120: the values of a directory entry. -/
def EntryOk (e : DirEntry) : Prop :=
  1 ≤ e.id ∧ e.id ≤ 255 ∧ paramsValid e.length e.loopStart e.loopLength = true ∧ e.count = (e.length + 1023) / 1024
    ∧ e.first + e.count ≤ 4096

/-- R119: at most 128 entries in ascending clip id, of which at most one is WRITING. -/
def DirOk (d : List DirEntry) : Prop :=
  d.Pairwise (fun x y => x.id < y.id) ∧ d.length ≤ 128 ∧ (∀ e ∈ d, EntryOk e)
    ∧ (d.filter (fun e => e.state == .writing)).length ≤ 1

/-- The flash in canonical form, R130's bound on the scrub queue, and the directory. -/
def StoreOk (t : Store) : Prop := Memory.wf t.flash = true ∧ t.scrubQueue.length ≤ 8 ∧ DirOk t.dir

/-- R166, R167: the good-slot run of a link by its state, nothing expected in DOWN, a number expected after a good slot. -/
def LinkOk (l : PortLink) : Prop :=
  (match l.state with
   | .down => l.run = 0 ∧ l.expected = none
   | .training => l.run < 8
   | .up => l.run = 8)
    ∧ (0 < l.run → l.expected.isSome = true) ∧ l.breaks ≤ 65535

/-- R25, R28: an OFFLINE rig holds no hard condition. -/
def HardOk (state : HealthState) (h : HardSet) : Prop := state = .offline → HardSet.isEmpty h = true

/-- R28, R29, R31, R33, R34, R36, R39, R43: a monitor's limits are in their ranges, and its counts and timers at most at their ends. -/
def MonitorOk (m : HealthRec) : Prop :=
  State.limitsValid m.limits = true ∧ m.gap ≤ 400 ∧ m.bucket ≤ 1024 ∧ m.pilotCount ≤ 4000 ∧ m.patches ≤ 65535
    ∧ m.recovery.getD 0 ≤ m.limits.recovery ∧ m.softJump.getD 0 ≤ 4000 ∧ HardOk m.state m.hard

/-- R98, R99: a bank holds 64 entries, each with every field in its range. -/
def BankOk (l : List RouteEntry) : Prop := l.length = 64 ∧ ∀ e ∈ l, routeValid e = true

/-- R148: a row of the report table. -/
def RowOk (r : ReportRow) : Prop :=
  r.silence ≤ 40 ∧ (r.present = true → r.silence < 40 ∧ r.last.isSome = true) ∧ (r.taken = true → r.present = true)

/-- R142, R145, R148: the rows, the counts, and the positions and size that a role allows. -/
def GangOk (g : Gang) : Prop :=
  RowOk g.rows.u1 ∧ RowOk g.rows.u2 ∧ RowOk g.rows.u3 ∧ g.silence ≤ 40 ∧ g.run ≤ 40
    ∧ (match g.role with
       | .leader => g.state = .leader ∧ g.position = 0 ∧ g.size = 1 + g.presentCount
       | .follower => g.state ≠ .leader ∧ g.position ≤ 3)

/-- What every step keeps. -/
structure Inv (s : State) : Prop where
  align : AlignOk s.align
  journal : JournalOk s.ctl.journal
  record : RecordOk s.fault
  cues : CuesOk s.cues
  store : StoreOk s.store
  grants : someFull s.mgmt.grants = true
  links : ∀ p, LinkOk (s.links.get p)
  health : ∀ r, MonitorOk (s.monitor r)
  routes : BankOk s.routes.active ∧ BankOk s.routes.shadow
  gang : GangOk s.gang

/-! ## A request that nothing refuses (R176) -/

/-- R176 step 11: none of steps 2 to 10 applies to a request of kind `k` on a link that is UP (R168). -/
structure Reaches (s : State) (h : CtlHead) (k : ReqKind) : Prop where
  up : (s.links.get (CtlPort.port h.port)).state = .up
  granted : s.mgmt.grants.get h.port = .full ∨ (s.mgmt.grants.get h.port = .observe ∧ k.isRead = true)
  addressed : (h.addr = BitVec.ofNat 8 s.gang.position ∨ h.addr = 15) ∧ (h.addr = 15 → k.farEnd = true)
  idle : s.mgmt.inService.get h.port = none
  loaded : s.framer.run = .gangWait ∨ s.framer.run = .running ∨ k.early = true
  unlocked : s.mgmt.lock = false ∨ k.underLock = false
  whole : h.lengthOk = true

/-! ## What a request leaves -/

/-- R179: the state with one more reply at the end of the port's short holder, and nothing else changed. -/
def replied (s : State) (h : CtlHead) (kind : Byte) (code : Completion) (data : ReplyData) : State :=
  let r : Reply := { addr := BitVec.ofNat 8 s.gang.position, tag := h.tag, kind := kind, code := code, data := data }
  let old := s.framer.holders.get h.port
  { s with framer := { s.framer with holders := s.framer.holders.set h.port { old with short := old.short ++ [r] } } }

/-- R179: the state with the request in service on its port, and nothing else changed. -/
def inHand (s : State) (h : CtlHead) (k : ReqKind) : State :=
  { s with mgmt := { s.mgmt with inService := s.mgmt.inService.set h.port (some { kind := k, tag := h.tag }) } }

/-- R159 to R161: the fault record with one more fault taken, stamped as the unit stands. -/
def captured (s : State) (k : FaultKind) (o : FaultOrigin) (d : FaultDetail) : FaultRecord :=
  match s.fault.first with
  | none => { s.fault with first := some { kind := k, origin := o, pos := s.align.prog.pos, count := s.framer.count, detail := d } }
  | some _ => { s.fault with later := k.join s.fault.later }

end Sys2Proof.Machine

namespace Sys2Proof

/-- The command of a request. -/
def Request.command (h : CtlHead) : Request → Instr
  | .identify => .identify h
  | .readStatus part => .readStatus h part
  | .readHealth rig => .readHealth h rig
  | .setHealthLimits rig l => .setHealthLimits h rig l
  | .requalifyRig rig => .requalifyRig h rig
  | .readBadFrame rig => .readBadFrame h rig
  | .readFault => .readFault h
  | .clearFault => .clearFault h
  | .readJournal start => .readJournal h start
  | .writeCue rec n => .writeCue h rec n
  | .readCue c => .readCue h c
  | .deleteCue c => .deleteCue h c
  | .listCues start => .listCues h start
  | .writeRoute first count l => .writeRoute h first count l
  | .readRoute bank first count => .readRoute h bank first count
  | .commitRoutes t => .commitRoutes h t
  | .writeGroup g p => .writeGroup h g p
  | .readGroup g => .readGroup h g
  | .forceSource gs t u hard => .forceSource h gs t u hard
  | .releaseForce gs => .releaseForce h gs
  | .stopProgram => .stopProgram h
  | .showLock => .showLock h
  | .showUnlock => .showUnlock h
  | .bedOpen c n ls ll => .bedOpen h c n ls ll
  | .bedData c o f0 f1 => .bedData h c o f0 f1
  | .bedSeal c => .bedSeal h c
  | .bedAbort c => .bedAbort h c
  | .bedDelete c => .bedDelete h c
  | .bedList start => .bedList h start
  | .bedStatus => .bedStatus h
  | .saveSettings => .saveSettings h
  | .writePortGrants g => .writePortGrants h g
  | .resetUnit => .resetUnit h

end Sys2Proof
end

