-- ==== Sys2Proof/Certificates/Slice0/Obligations.lean ====
section
/-! DEFINITION. The statements for the provers: what the commands do, rule by rule. -/

open Sys2Proof Sys2Proof.Machine

/-! ## The machine -/

/-- A step carries out the command at the front of the queue on the state with the queue's rest. -/
def Obligations.StepRunsFrontCommand : Prop :=
  ∀ (s : State) (c : Instr) (rest : List Instr), step { s with pending := c :: rest } = exec c { s with pending := rest }

/-- No command faults or is refused, and on an empty queue the block idles (the model's choice, log 2). -/
def Obligations.EveryStepCompletes : Prop :=
  (∀ (c : Instr) (s : State), Completes (exec c s)) ∧ ∀ s : State, s.pending = [] → step s = .next s

/-- The values R22, R44, R62, R98 (with the defaults of 4.2), R112, R141, R142, R158, R174, R177 and R187 give for power-on, in
State.reset: the unit of log 5, a leader with a blank store, D in force 12 and an absent row's silence count 0. -/
def Obligations.ResetStateHoldsRuleValues : Prop :=
  let s := State.reset
  let absent : ReportRow := { present := false, silence := 0, last := none, taken := false }
  s.framer.run = .hold ∧ s.framer.bypass = true ∧ s.framer.clock = .localOsc ∧ s.framer.count = 0 ∧ s.framer.periodSlot = none
  ∧ (∀ p, (s.links.get p).state = .down ∧ (s.links.get p).expected = none ∧ (s.links.get p).breaks = 0)
  ∧ (∀ r, (s.align.rigs.get r).ring = [] ∧ (s.align.rigs.get r).stopMark = none
      ∧ (s.align.rigs.get r).step = { state := .outOfStep, streak := 0, miss := 0, lastSkew := none })
  ∧ s.align.prog.state = .stopped ∧ s.align.prog.pos = { cue := 0, pos := 0 } ∧ s.align.prog.due = none ∧ s.align.prog.held = none
  ∧ s.align.prog.anchorPending = false ∧ s.align.prog.stopHold = false ∧ s.align.prog.grace = none
  ∧ (∀ r, (s.health.get r).state = .offline ∧ (s.health.get r).hard.isEmpty = true ∧ (s.health.get r).playing = false
      ∧ (s.health.get r).gap = 0 ∧ (s.health.get r).bucket = 0 ∧ (s.health.get r).pilotCount = 0 ∧ (s.health.get r).qual = 0
      ∧ (s.health.get r).ref = none ∧ (s.health.get r).lastSeq = none ∧ (s.health.get r).softJump = none
      ∧ (s.health.get r).recovery = none ∧ (s.health.get r).requalifyReady = false ∧ (s.health.get r).repeatStall = false
      ∧ (s.health.get r).patches = 0 ∧ (s.health.get r).capture.locked = false
      ∧ (s.health.get r).limits = { gap := 8, warn := 32, corrupt := 128, pilotChannel := none, pilotFloor := 4096, pilotHold := 40,
                                    qualify := 400, recovery := 4000, auto := true })
  ∧ s.cues = { records := [], staged := none, inUse := none }
  ∧ (∀ g, s.ctl.groups.get g = { st := .settled .a, h := 0, op := none, health := none, healthMoved := false, revert := none,
                                 timer := none, limitReached := false, placed := none })
  ∧ (∀ g, s.ctl.policies.get g = { fallback := [.a, .b, .bed], operatorLevel := 3, healthLevel := 2, revertLevel := 1,
                                   fade := if g = 0 then 0 else 4, deferral := 8000, revertOn := false, revertSettle := 40000,
                                   hardAllowed := true, dSet := 12, startGrace := 40, gangLead := 4 })
  ∧ s.align.prog.dInForce = 12
  ∧ s.ctl.stamps = { a := none, b := none, bed := none } ∧ s.ctl.journal = { entries := [], next := 0 }
  ∧ (∀ n, n < 64 → s.routes.active[n]? = some { group := 0, rigA := some n, rigB := some n, track := none })
  ∧ s.routes.shadow = s.routes.active ∧ s.routes.active.length = 64 ∧ s.routes.commit = none
  ∧ s.store = { flash := [], settings := { pages := [], disturbed := false }, remap := [], spares := [], relocating := [], retired := [],
                logical := [], corrected := [], dir := [], fill := none, handed := [], clipCopy := none, clipMark := [],
                sealing := false, sealAfterMark := false, dataHeld := false, save := none, scrubQueue := [], scrub := none,
                scrubErase := none, scrubMark := [], backlog := [], backlogFirst := [], backlogWait := none, backlogMark := [],
                engine := none, orphanTarget := none, readBanks := [] }
  ∧ s.player = { tracked := none, window := [], reading := none, lostRead := none, prime := none, lastPrime := none }
  ∧ s.gang.role = .leader ∧ s.gang.state = .leader ∧ s.gang.position = 0 ∧ s.gang.size = 1 ∧ s.gang.silence = 0 ∧ s.gang.run = 0
  ∧ s.gang.tickTaken = false ∧ s.gang.everTick = false ∧ s.gang.leaderPos = { cue := 0, pos := 0 } ∧ s.gang.leaderPrevCue = none
  ∧ (∀ g, s.gang.vector.get g = none ∧ s.gang.received.get g = none ∧ s.gang.waiting.get g = none ∧ s.gang.applied.get g = none
      ∧ s.gang.emergency.get g = false)
  ∧ s.gang.rows = { u1 := absent, u2 := absent, u3 := absent } ∧ s.gang.below = [] ∧ s.gang.relay = none
  ∧ s.fault = { first := none, later := [] }
  ∧ s.mgmt.grants = { ra := .observe, rb := .observe, o1 := .full, o2 := .full } ∧ s.mgmt.lock = false ∧ s.mgmt.saveBuffer = none
  ∧ ∀ p, s.mgmt.inService.get p = none

/-- The facts that every step keeps hold at reset. -/
def Obligations.InvHoldsAtReset : Prop := Inv State.reset

/-- Every step keeps Inv: the rings' bound and the step records' values (R1, R18), the STOPPED program's 0:0 (1.4), the journal's
consecutive numbers (R96), the fault record's form (R161), the cue map's form (R46), the flash's canonical form, the clip directory's order,
numbers and one WRITING entry (R119, R120), a FULL grant (R177), each link's good-slot run and expected number (R166), each monitor's limits
in their ranges and its counts and timers within their ends (R28 to R43), 64 valid entries in each route bank (R99), and a leader's rows,
size and position and a follower's counts (R142, R145, R148). -/
def Obligations.StepKeepsInv : Prop := ∀ s t : State, Inv s → step s = .next t → Inv t

/-! ## The unit (09 sections 9.4 and 9.5) -/

/-- POWER_ON, SUPPLY_LOSS, RESET_PIN and REQUESTED_RESET: every volatile record at its reset value, a leader or a DISCOVERING follower
by the strap; the flash survives each, everything the scan rebuilds is lost, and the journal and the fault record survive the last two, with
UNIT RESET taken (R96, R141, R142, R158, R165, R174; a unit without supply shows its strap low and an absent row its silence count 0, log 5). -/
def Obligations.ResetsLeaveResetState : Prop :=
  ∀ (s : State) (strap : Strap),
    let absent : ReportRow := { present := false, silence := 0, last := none, taken := false }
    let after (run : RunState) (pin : Bool) (strap : Strap) (j : Journal) (f : FaultRecord) : State :=
      { State.reset with
        framer := { State.reset.framer with run := run, pinAsserted := pin }
        gang := { State.reset.gang with
          role := match strap with | .low => .leader | .high => .follower
          state := match strap with | .low => .leader | .high => .discovering
          position := 0, size := 1, silence := 0, run := 0, leaderPos := { cue := 0, pos := 0 }, leaderPrevCue := none
          rows := { u1 := absent, u2 := absent, u3 := absent }, below := [], relay := none }
        store := { flash := s.store.flash, settings := s.store.settings, remap := [], spares := [], relocating := [], retired := []
                   logical := [], corrected := [], dir := [], fill := none, handed := [], clipCopy := none, clipMark := []
                   sealing := false, sealAfterMark := false, dataHeld := false, save := none, scrubQueue := [], scrub := none
                   scrubErase := none, scrubMark := [], backlog := [], backlogFirst := [], backlogWait := none, backlogMark := []
                   engine := none, orphanTarget := none, readBanks := [] }
        player := { tracked := none, window := [], reading := none, lostRead := none, prime := none, lastPrime := none }
        ctl := { State.reset.ctl with journal := j }
        fault := f
        pending := s.pending }
    (s.framer.run = .off →
      exec (.powerOn strap) s = .next (after .hold s.framer.pinAsserted strap { entries := [], next := 0 } { first := none, later := [] }))
    ∧ (s.framer.run ≠ .off →
      exec .supplyLoss s = .next (after .off s.framer.pinAsserted .low { entries := [], next := 0 } { first := none, later := [] }))
    ∧ (s.framer.run ≠ .off → s.framer.pinAsserted = false →
      exec (.resetPin strap) s = .next (after .hold true strap s.ctl.journal (captured s .unitReset .unit .pin)))
    ∧ (∀ p, s.framer.resetReq = some { port := p, sent := true } →
      exec (.requestedReset strap) s
        = .next (after .hold s.framer.pinAsserted strap s.ctl.journal (captured s .unitReset p.origin .request)))

/-- LOAD_END at LOAD's 260th output period enters GANG WAIT, whichever way the image falls (R134, R173, R174; the moment
of the row, log 1; the verdict on the image is an input, log 27). The store is the one the scan rebuilds (R117, R118): the newest of two
claims wins and its sector is mapped, the pool and the RETIRED sectors go by what the flash shows, every DIRTY sector is in the backlog in
ascending order, and every clip of the directory is whole (a sector whose erase was cut has no claim, log 12). -/
def Obligations.LoadEndEntersGangWait : Prop :=
  ∀ (s : State) (whole : Bool), s.framer.run = .load → s.framer.loadCount = 259 →
    ∃ t, exec (.loadEnd whole) s = .next t
      ∧ t.framer = { s.framer with run := .gangWait, loadCount := 260, count := s.framer.count + 1, waitCount := 0 }
      ∧ t.align.prog.dInForce = t.ctl.policies.g0.dSet ∧ t.store.flash = s.store.flash ∧ t.store.settings = s.store.settings
      ∧ t.links = s.links ∧ t.player = s.player ∧ t.pending = s.pending
      ∧ (s.store.settings = { pages := [], disturbed := false } →
          t.fault = captured { s with framer := { s.framer with count := s.framer.count + 1 } } .settingsDefaulted .store (.image .noImage)
          ∧ t.cues = s.cues ∧ t.routes = s.routes ∧ t.ctl = s.ctl ∧ t.health = s.health ∧ t.mgmt = s.mgmt)
      ∧ (∀ v, s.store.settings = savedImage v → whole = true → contentGood v = true →
          t.fault = s.fault ∧ t.routes = { active := v.routes, shadow := v.routes, commit := none } ∧ t.ctl.policies = v.policies
          ∧ t.mgmt = { s.mgmt with grants := v.grants } ∧ (t.health.get .a).limits = v.limits.a ∧ (t.health.get .b).limits = v.limits.b
          ∧ t.cues.staged = none ∧ t.cues.inUse = none ∧ ∀ r, r ∈ v.cues ↔ r ∈ t.cues.records)
      ∧ t.store.corrected = [] ∧ t.store.relocating = [] ∧ t.store.scrubQueue = [] ∧ t.store.engine = none
      ∧ (s.store.flash = [] → t.store.remap = [] ∧ t.store.logical = [] ∧ t.store.dir = [] ∧ t.store.retired = [] ∧ t.store.backlog = []
          ∧ t.store.spares = (List.range 64).map (fun i => (4096 + i, true)))
      ∧ (Memory.wf s.store.flash = true →
        let at_ (p : Nat) : FlashSector := Memory.read s.store.flash p
        let claim (p : Nat) (h : Header) : Prop := p < 4160 ∧ (at_ p).header = some h ∧ (at_ p).retire = false ∧ (at_ p).disturbed = false
        (∀ p, p ∈ t.store.retired ↔ p < 4160 ∧ (at_ p).retire = true)
        ∧ (∀ p e, (p, e) ∈ t.store.spares → p < 4160 ∧ (at_ p).retire = false ∧ (e = true ↔ at_ p = blankSector))
        ∧ (∀ p q h k, claim p h → claim q k → h.logical = k.logical → k.logical < 4096 →
            (∀ r m, claim r m → m.logical = k.logical → r = p ∨ r = q) → (p = q ∨ k.generation = h.generation + 1) →
            t.store.physOf k.logical = q ∧ t.store.stateOf k.logical ≠ .erased ∧ (p ≠ q → (p, false) ∈ t.store.spares))
        ∧ (∀ l, l < 4096 → (∀ p h, claim p h → h.logical ≠ l) →
            t.store.stateOf l ≠ .allocated
            ∧ (t.store.stateOf l = .dirty → at_ (t.store.physOf l) ≠ blankSector ∧ (at_ (t.store.physOf l)).retire = false))
        ∧ (∀ l, l ∈ t.store.backlog ↔ t.store.stateOf l = .dirty) ∧ t.store.backlog.Pairwise (fun x y => x < y)
        ∧ t.store.dir.Pairwise (fun x y => x.id < y.id) ∧ t.store.dir.length ≤ 128
        ∧ ∀ e ∈ t.store.dir, e.state = .sealed ∧ 1 ≤ e.id ∧ e.id ≤ 255 ∧ paramsValid e.length e.loopStart e.loopLength = true
            ∧ e.count = (e.length + 1023) / 1024 ∧ e.first + e.count ≤ 4096 ∧ (at_ (t.store.physOf e.first)).sealMarker = true
            ∧ (∃ h, claim (t.store.physOf e.first) h
                ∧ h.params = some { length := e.length, loopStart := e.loopStart, loopLength := e.loopLength })
            ∧ ∀ j, j < e.count → t.store.stateOf (e.first + j) = .allocated
                ∧ ∃ h, claim (t.store.physOf (e.first + j)) h ∧ h.logical = e.first + j ∧ h.clip = e.id ∧ h.index = j)

/-- RESET_PIN_RELEASE starts HOLD's 200 output periods again, and HOLD_EXPIRY enters LOAD; PRESENCE_WINDOW_END after 8,000 output periods
of GANG WAIT enters RUNNING, and leaves a DISCOVERING follower ISOLATED with GANG LOST (R157, R174; the moment of each row, log 1). -/
def Obligations.HoldAndPresenceWindowEnd : Prop :=
  ∀ s : State,
    (s.framer.pinAsserted = true →
      exec .resetPinRelease s = .next { s with framer := { s.framer with pinAsserted := false, holdCount := 0 } })
    ∧ (s.framer.run = .hold → s.framer.pinAsserted = false → s.framer.holdCount = 199 →
      exec .holdExpiry s = .next { s with framer := { s.framer with run := .load, holdCount := 200, loadCount := 0 } })
    ∧ (s.framer.run = .gangWait → s.framer.waitCount = 7999 →
      let u : State := { s with framer := { s.framer with count := s.framer.count + 1, waitCount := 8000 } }
      (s.gang.role = .leader ∨ s.gang.state ≠ .discovering →
        exec .presenceWindowEnd s = .next { u with framer := { u.framer with run := .running } })
      ∧ (s.gang.role = .follower → s.gang.state = .discovering →
        ∃ t, exec .presenceWindowEnd s = .next t ∧ t.framer = { u.framer with run := .running } ∧ t.gang.state = .isolated
          ∧ t.fault = captured u .gangLost .gu (.leaderPos (if s.gang.everTick then some s.gang.leaderPos else none))
          ∧ t = { s with framer := t.framer, gang := t.gang, ctl := t.ctl, fault := t.fault }))

/-! ## The links (R166, R167) -/

/-- LOCK_ACQUIRED, LINK_UP and MAIN_FRAME on a link that is DOWN or TRAINING, and on an UP link of a port without a rig (R166; the
moment of LINK_UP, log 1; a slot discarded in TRAINING leaves the expected number, log 38). -/
def Obligations.LinkTrainsAndFollows : Prop :=
  ∀ (s : State) (p : Port) (slot : Option RawFrame),
    let l := s.links.get p
    let become (v : PortLink) : Host.Outcome State Fault Refusal := .next { s with links := s.links.set p v }
    let fits (x : InFrame) : Bool := match l.expected with | none => true | some e => x.seq == e
    (s.framer.run ≠ .off → l.state = .down → exec (.lockAcquired p) s = become { l with state := .training, run := 0, expected := none })
    ∧ (l.state = .training → l.run = 7 → p.rig = none →
        exec (.linkUp p) s = become { l with state := .up, run := 8, expected := l.expected.map (fun e => e + 1) })
    ∧ (l.state = .down → exec (.mainFrame p slot) s = .next s)
    ∧ (∀ d, checkMain slot = .discarded d → l.state = .training → exec (.mainFrame p slot) s = become { l with run := 0 })
    ∧ (∀ x, checkMain slot = .valid x → l.state = .training →
        (fits x = true → l.run < 7 → exec (.mainFrame p slot) s = become { l with run := l.run + 1, expected := some (x.seq + 1) })
        ∧ (fits x = true → l.run = 7 → p.rig = none →
            exec (.mainFrame p slot) s = become { l with state := .up, run := 8, expected := some (x.seq + 1) })
        ∧ (fits x = false → exec (.mainFrame p slot) s = become { l with run := 1, expected := some (x.seq + 1) }))
    ∧ (∀ d, checkMain slot = .discarded d → l.state = .up → p.rig = none →
        exec (.mainFrame p slot) s = become { l with expected := l.expected.map (fun e => e + 1) })
    ∧ (∀ x, checkMain slot = .valid x → l.state = .up → p.rig = none →
        exec (.mainFrame p slot) s
          = become { l with expected := some (x.seq + 1), breaks := if fits x then l.breaks else min 65535 (l.breaks + 1) })

/-- LINK_UP of a rig port: the slot count loaded is the running frame count, or the other port's count of the same slot while that link is
UP, and the rig is QUALIFYING with count 0 (R2, R9, R25, R166; the moment of the row, log 1; RA's slot comes before RB's, log 3). -/
def Obligations.RigLinkEntersUp : Prop :=
  ∀ (s : State) (r : Rig), (s.links.get r.port).state = .training → (s.links.get r.port).run = 7 → (s.health.get r).state ≠ .qualifying →
    ∃ t, exec (.linkUp r.port) s = .next t
      ∧ t.links = s.links.set r.port { s.links.get r.port with
          state := .up, run := 8, expected := (s.links.get r.port).expected.map (fun e => e + 1) }
      ∧ t.align = { s.align with rigs := s.align.rigs.set r { s.align.rigs.get r with
            newestAudio := none
            slotCount := if (s.links.get r.other.port).state = .up
              then (match r with | .a => s.align.rigs.b.slotCount + 1 | .b => s.align.rigs.a.slotCount) else s.framer.count } }
      ∧ (t.health.get r).state = .qualifying ∧ (t.health.get r).qual = 0 ∧ t.health.get r.other = s.health.get r.other
      ∧ t = { s with links := t.links, align := t.align, health := t.health, ctl := { s.ctl with stamps := t.ctl.stamps } }

/-- LOCK_LOST: a port that was not a rig's UP link only goes DOWN; a rig's UP link takes the rig OFFLINE and out of step, empties its
ring and raises RIG LINK DOWN with the state before the loss, and STEP LOST where the rig's loss loses a step in use (R3, R25, R159, R166;
which of the two the record takes first is an input, log 8; the detail of a lost timing rig's STEP LOST is its record's last skew, log 30). -/
def Obligations.LockLossTakesTheRig : Prop :=
  ∀ (s : State) (stepFirst : Bool),
    (∀ p : Port, (s.links.get p).state = .training ∨ ((s.links.get p).state = .up ∧ p.rig = none) →
      exec (.lockLost p stepFirst) s
        = .next { s with links := s.links.set p { s.links.get p with state := .down, run := 0, expected := none } })
    ∧ ∀ r : Rig, (s.links.get r.port).state = .up →
      let stepLost : Bool := s.align.prog.state != .stopped && s.stepOf r != .outOfStep && s.usedBy r
      ∃ t, exec (.lockLost r.port stepFirst) s = .next t
        ∧ t.links = s.links.set r.port { s.links.get r.port with state := .down, run := 0, expected := none }
        ∧ (t.health.get r).state = .offline ∧ (t.health.get r).hard.isEmpty = true ∧ (t.health.get r).recovery = none
        ∧ (t.health.get r).limits = (s.health.get r).limits ∧ (t.health.get r).capture = (s.health.get r).capture
        ∧ t.health.get r.other = s.health.get r.other
        ∧ (t.align.rigs.get r).ring = [] ∧ (t.align.rigs.get r).step = { state := .outOfStep, streak := 0, miss := 0, lastSkew := none }
        ∧ t.align.rigs.get r.other = s.align.rigs.get r.other
        ∧ (s.fault.first = none →
            t.fault.first = some (if stepFirst = true ∧ stepLost = true
              then { kind := .stepLost, origin := r.origin, pos := s.align.prog.pos, count := s.framer.count,
                     detail := .skew (s.align.rigs.get r).step.lastSkew }
              else { kind := .rigLinkDown, origin := r.origin, pos := s.align.prog.pos, count := s.framer.count,
                     detail := .health (s.health.get r).state }))
        ∧ (s.fault.first ≠ none → t.fault.first = s.fault.first ∧ .rigLinkDown ∈ t.fault.later ∧ (stepLost = true → .stepLost ∈ t.fault.later))
        ∧ t = { s with links := t.links, align := t.align, health := t.health, player := t.player, fault := t.fault
                       ctl := { s.ctl with stamps := t.ctl.stamps } }

/-! ## A rig's slots (01, 02) -/

/-- MAIN_FRAME on a rig's UP link: the slot count advances at every slot, and a valid AUDIO frame with a cue joins the ring's newest end
with that count, the oldest of 64 leaving; the port's link alone follows the slot, and an AUDIO frame of the timing rig becomes the held
anchor where R8 takes it, idling the start grace timer (R1, R2, R8, R9, R10, R166;
the health monitor takes the slot before the alignment buffer, log 3). Besides these, nothing but the rig's health record, the
player, the stamps and the fault record changes. -/
def Obligations.RigSlotReachesTheRing : Prop :=
  ∀ (s : State) (r : Rig) (slot : Option RawFrame), (s.links.get r.port).state = .up →
    let k := (s.align.rigs.get r).slotCount + 1
    let l := s.links.get r.port
    ∃ t, exec (.mainFrame r.port slot) s = .next t
      ∧ (let a := s.align.rigs.get r
         t.align.rigs.get r = match checkMain slot with
           | .discarded _ => { a with slotCount := k }
           | .valid x =>
             match x.kind with
             | .idle => { a with slotCount := k, newestAudio := some false,
                                 stopMark := if x.stopped = true ∧ a.stopMark = none then some k else a.stopMark }
             | .audio =>
               if x.pos.cue = 0 then { a with slotCount := k, newestAudio := some true }
               else { a with slotCount := k, newestAudio := some true, stopMark := none,
                             ring := (if 64 ≤ a.ring.length then a.ring.drop 1 else a.ring)
                               ++ [{ pos := x.pos, arrival := k, channels := x.count, samples := x.channels }] })
      ∧ (t.links = s.links.set r.port (match checkMain slot with
           | .discarded _ => { l with expected := l.expected.map (fun e => e + 1) }
           | .valid x => { l with
               expected := some (x.seq + 1)
               breaks := if l.expected = none ∨ l.expected = some x.seq then l.breaks else min 65535 (l.breaks + 1) }))
      ∧ (t.align.prog = match checkMain slot with
           | .discarded _ => s.align.prog
           | .valid x =>
             if (s.framer.run = .gangWait ∨ s.framer.run = .running) ∧ s.align.prog.state = .stopped ∧ x.kind = .audio
                 ∧ s.ctl.groups.g0.st.current = r.source ∧ s.align.prog.stopHold = false ∧ s.align.prog.held = none
                 ∧ ((t.health.get r).state = .healthy ∨ (t.health.get r).state = .suspect ∨ (t.health.get r).state = .stopped)
             then { s.align.prog with held := some { rig := r, pos := x.pos, arrival := k }, grace := none }
             else s.align.prog)
      ∧ t.align.rigs.get r.other = s.align.rigs.get r.other ∧ t.health.get r.other = s.health.get r.other
      ∧ t = { s with links := t.links, align := t.align, health := t.health, player := t.player, fault := t.fault
                     ctl := { s.ctl with stamps := t.ctl.stamps } }

/-- R37: DECLARED follows the flag of every valid frame of a rig that is not OFFLINE, with the effects of R28; a discarded frame leaves
it, and a rig whose flag clears stays FAILED. Of the faults one slot raises RIG DECLARED is the first (the order of the monitors within a
slot, log 3). -/
def Obligations.DeclaredFollowsTheFlag : Prop :=
  ∀ (s : State) (r : Rig) (slot : Option RawFrame), (s.links.get r.port).state = .up → (s.health.get r).state ≠ .offline →
    ∃ t, exec (.mainFrame r.port slot) s = .next t
      ∧ (∀ d, checkMain slot = .discarded d → (t.health.get r).hard.declared = (s.health.get r).hard.declared)
      ∧ ∀ x, checkMain slot = .valid x →
          (t.health.get r).hard.declared = x.declared
          ∧ (x.declared = true → (s.health.get r).hard.declared = false →
              (t.health.get r).state = .failed
              ∧ (s.fault.first = none →
                  t.fault.first = some { kind := .rigDeclared, origin := r.origin, pos := s.align.prog.pos, count := s.framer.count,
                                         detail := .sequence x.seq })
              ∧ (s.fault.first ≠ none → t.fault.first = s.fault.first ∧ .rigDeclared ∈ t.fault.later))
          ∧ ((s.health.get r).state = .failed → (t.health.get r).state = .failed)

/-- The CRC bucket, WARN, CORRUPT and the bad-frame capture at a slot of a rig's UP link (R33, R40; a field that a discarded frame brought
only in part keeps the bytes that arrived, with zeros for the rest, log 38). CORRUPT is set at the corrupt level with the effects of R28,
clears below the warn level and stands between the two, and its detail is the bucket; where the slot sets another condition too, one of
their faults is the first (log 3). The slot that clears a FAILED rig's last condition starts its recovery hold (R29). -/
def Obligations.BucketAndCaptureTakeTheSlot : Prop :=
  ∀ (s : State) (r : Rig) (slot : Option RawFrame), (s.links.get r.port).state = .up →
    let m := s.health.get r
    let k := (s.align.rigs.get r).slotCount + 1
    ∃ t, exec (.mainFrame r.port slot) s = .next t
      ∧ (t.health.get r).warn = decide (m.limits.warn ≤ (t.health.get r).bucket)
      ∧ (m.state ≠ .offline →
        let b := (t.health.get r).bucket
        (m.limits.corrupt ≤ b →
          (t.health.get r).hard.corrupt = true
          ∧ (m.hard.corrupt = false →
            (t.health.get r).state = .failed ∧ (m.state ≠ .failed → (t.health.get r).qual = 0)
            ∧ (m.state = .failed → (t.health.get r).recovery = none ∧ (t.health.get r).requalifyReady = false)
            ∧ (s.fault.first ≠ none → t.fault.first = s.fault.first ∧ .rigCorrupt ∈ t.fault.later)
            ∧ (s.fault.first = none → (∃ y, t.fault.first = some y ∧ y.kind = .rigCorrupt) ∨ .rigCorrupt ∈ t.fault.later)
            ∧ (∀ d, checkMain slot = .discarded d → m.gap + 1 < m.limits.gap → t.fault = captured s .rigCorrupt r.origin (.bucket b))))
        ∧ (b < m.limits.corrupt → b < m.limits.warn → (t.health.get r).hard.corrupt = false)
        ∧ (b < m.limits.corrupt → m.limits.warn ≤ b → (t.health.get r).hard.corrupt = m.hard.corrupt)
        ∧ (m.state = .failed → m.hard.isEmpty = false → (t.health.get r).hard.isEmpty = true →
            (t.health.get r).state = .failed ∧ (t.health.get r).recovery = some m.limits.recovery))
      ∧ (match checkMain slot with
         | .valid x =>
           (t.health.get r).bucket = m.bucket - 1
           ∧ (t.health.get r).capture = if m.capture.locked then m.capture else
               { locked := false, kind := if x.kind = .audio then 1 else 0, seq := x.seq, cue := x.pos.cue, pos := x.pos.pos,
                 channels := BitVec.ofNat 8 x.count, arrival := k, received := none, computed := none }
         | .discarded d =>
           (t.health.get r).bucket = min 1024 (m.bucket + 16)
           ∧ (t.health.get r).capture = if m.capture.locked then m.capture else
               { locked := true, kind := byteAt d.bytes 0, seq := halfAt d.bytes 2, cue := halfAt d.bytes 4, pos := wordAt d.bytes 6,
                 channels := byteAt d.bytes 10, arrival := k, received := some d.received, computed := some d.computed })

/-- STALL and PILOT_LOST when their counts reach their limits: the condition is set, the rig is FAILED with qualification count 0, and
the fault reaches the record with its detail (R28, R31, R34; the moment of each row, log 1). JUMP at a rig's slot: a valid AUDIO frame that
does not continue the reference is a hard JUMP while a group uses the rig, and otherwise loads the soft-jump timer; a continuing frame
clears the hard JUMP; an AUDIO frame becomes the reference and a stopped IDLE frame ends it (R35, R36; cue 0 never continues, log 19, and
is a first reference as any other, log 50; where the slot sets another condition too, one of their faults is the first, log 3). -/
def Obligations.HardConditionFailsTheRig : Prop :=
  (∀ (s : State) (r : Rig), (s.links.get r.port).state = .up → (s.health.get r).state ≠ .offline → (s.health.get r).state ≠ .failed →
    let m := s.health.get r
    (m.hard.stall = false → m.gap + 1 = m.limits.gap →
      ∃ t, exec (.stall r) s = .next t ∧ (t.health.get r).hard = { m.hard with stall := true } ∧ (t.health.get r).state = .failed
        ∧ (t.health.get r).qual = 0 ∧ (t.health.get r).gap = m.limits.gap ∧ t.health.get r.other = s.health.get r.other
        ∧ t.fault = captured s .rigStall r.origin (.lastSequence m.lastSeq)
        ∧ t = { s with health := t.health, fault := t.fault, ctl := { s.ctl with stamps := t.ctl.stamps } })
    ∧ (m.hard.pilotLost = false → m.limits.pilotChannel.isSome = true → m.pilotCount + 1 = m.limits.pilotHold →
      ∃ t, exec (.pilotLost r) s = .next t ∧ (t.health.get r).hard = { m.hard with pilotLost := true } ∧ (t.health.get r).state = .failed
        ∧ (t.health.get r).qual = 0 ∧ (t.health.get r).pilotCount = m.limits.pilotHold ∧ t.health.get r.other = s.health.get r.other
        ∧ t.fault = captured s .rigPilotLost r.origin (.magnitude m.pilotPeak)
        ∧ t = { s with health := t.health, fault := t.fault, ctl := { s.ctl with stamps := t.ctl.stamps } }))
  ∧ ∀ (s : State) (r : Rig) (slot : Option RawFrame), (s.links.get r.port).state = .up → (s.health.get r).state ≠ .offline →
    let m := s.health.get r
    let k := (s.align.rigs.get r).slotCount + 1
    let used : Prop := ∃ g, match (s.ctl.groups.get g).st with
      | .settled src => src = r.source
      | .fading origin dest _ _ _ => origin = r.source ∨ dest = r.source
    ∃ t, exec (.mainFrame r.port slot) s = .next t
      ∧ (let n := t.health.get r
         (∀ d, checkMain slot = .discarded d → n.ref = m.ref ∧ n.hard.jump = m.hard.jump ∧ n.softJump = m.softJump)
         ∧ ∀ x, checkMain slot = .valid x →
           (x.kind = .idle → x.stopped = true → n.ref = none ∧ n.hard.jump = false ∧ n.softJump = m.softJump)
           ∧ (x.kind = .idle → x.stopped = false → n.ref = m.ref ∧ n.hard.jump = m.hard.jump ∧ n.softJump = m.softJump)
           ∧ (x.kind = .audio → n.ref = some { pos := x.pos, arrival := k })
           ∧ (x.kind = .audio → m.ref = none → n.hard.jump = m.hard.jump ∧ n.softJump = m.softJump)
           ∧ ∀ y, x.kind = .audio → m.ref = some y →
             let goesOn : Prop := x.pos.cue ≠ 0
               ∧ (x.pos.cue = y.pos.cue ∧ x.pos.pos = y.pos.pos + (k - y.arrival) ∨ x.pos.cue ≠ y.pos.cue ∧ x.pos.pos.toNat ≤ 3)
             (goesOn → n.hard.jump = false ∧ n.softJump = m.softJump)
             ∧ (¬goesOn → used →
               n.hard.jump = true ∧ n.softJump = m.softJump
               ∧ (m.hard.jump = false →
                 n.state = .failed ∧ (m.state ≠ .failed → n.qual = 0)
                 ∧ (m.state = .failed → n.recovery = none ∧ n.requalifyReady = false)
                 ∧ (s.fault.first ≠ none → t.fault.first = s.fault.first ∧ .rigJump ∈ t.fault.later)
                 ∧ (s.fault.first = none → (∃ y, t.fault.first = some y ∧ y.kind = .rigJump) ∨ .rigJump ∈ t.fault.later)
                 ∧ (x.declared = false → m.limits.pilotChannel = none → m.bucket - 1 < m.limits.corrupt →
                     t.fault = captured s .rigJump r.origin (.carried x.pos))))
             ∧ (¬goesOn → ¬used →
               n.hard.jump = m.hard.jump ∧ n.softJump = some 4000
               ∧ (n.hard.isEmpty = true → m.state = .stopped ∨ m.state = .healthy ∨ m.state = .suspect → n.state = .suspect)))

/-- RIG_QUALIFIED, RECOVERY_HOLD_EXPIRY and SOFT_JUMP_EXPIRY: the state each leaves the rig in (R26, R27, R29, R36; the moment
of each row, log 1). -/
def Obligations.RigStateTimersExpire : Prop :=
  ∀ (s : State) (r : Rig),
    let m := s.health.get r
    (∀ audio, m.state = .qualifying → m.hard.isEmpty = true → m.qual + 1 = m.limits.qualify →
      ∃ t, exec (.rigQualified r audio) s = .next t
        ∧ (t.health.get r).state = (if audio then (if m.warn || m.softJump.isSome then .suspect else .healthy) else .stopped)
        ∧ (t.health.get r).qual = m.limits.qualify
        ∧ t = { s with health := s.health.set r { m with state := (t.health.get r).state, qual := (t.health.get r).qual,
                                                         event := (t.health.get r).event } })
    ∧ (m.recovery = some 1 → m.state = .failed →
      ∃ t, exec (.recoveryHoldExpiry r) s = .next t
        ∧ (m.limits.auto = true → (t.health.get r).state = .qualifying ∧ (t.health.get r).qual = 0
            ∧ (t.health.get r).requalifyReady = m.requalifyReady)
        ∧ (m.limits.auto = false → (t.health.get r).state = .failed ∧ (t.health.get r).requalifyReady = true)
        ∧ (t.health.get r).recovery = none
        ∧ t = { s with health := s.health.set r (t.health.get r) })
    ∧ (m.softJump = some 1 →
      ∃ t, exec (.softJumpExpiry r) s = .next t ∧ (t.health.get r).softJump = none
        ∧ (m.state = .suspect → m.playing = true → (t.health.get r).state = if m.warn then .suspect else .healthy)
        ∧ (m.state = .offline ∨ m.state = .qualifying ∨ m.state = .failed → (t.health.get r).state = m.state)
        ∧ t = { s with health := s.health.set r (t.health.get r), ctl := { s.ctl with stamps := t.ctl.stamps } })

/-! ## Program and groups (01, 04) -/

/-- START_GRACE_EXPIRY with R12's conditions holding: the timer is idle, NO START reaches the record, the timing rig is FAILED unless
it is OFFLINE, and group 0 of a unit that decides for itself has a HEALTH request (R12, R38, R73; the moment of the row, log 1; the
latch into an empty slot, log 32). -/
def Obligations.StartGraceExpires : Prop :=
  ∀ (s : State) (r : Rig),
    (s.framer.run = .gangWait ∨ s.framer.run = .running) → s.ctl.groups.g0.st.current = r.source → s.align.prog.state = .stopped →
    s.align.prog.grace = some 1 → s.align.prog.held = none → s.align.prog.stopHold = false →
    (s.align.rigs.get r).newestAudio ≠ some true → r.other.source ∈ s.ctl.policies.g0.fallback →
    (s.align.rigs.get r.other).newestAudio = some true →
    ((s.health.get r.other).state = .stopped ∨ (s.health.get r.other).state = .healthy ∨ (s.health.get r.other).state = .suspect) →
    (s.health.get r).hard.noStart = false →
    ∃ t, exec .startGraceExpiry s = .next t
      ∧ t.align = { s.align with prog := { s.align.prog with grace := none, graceSpent := true } }
      ∧ t.fault = captured s .rigNoStart r.origin (.startGrace s.ctl.policies.g0.startGrace)
      ∧ ((s.health.get r).state ≠ .offline → (t.health.get r).state = .failed ∧ (t.health.get r).hard.noStart = true)
      ∧ ((s.health.get r).state = .offline → t.health = s.health)
      ∧ (s.gang.role = .leader → s.ctl.groups.g0.health = none →
          t.ctl.groups.g0.health = some { target := none, urgency := .immediate, level := s.ctl.policies.g0.healthLevel, hard := false,
                                          latched := s.framer.count })
      ∧ t = { s with align := t.align, fault := t.fault, health := t.health, ctl := t.ctl }

/-- HELD_ANCHOR_DUE: the program enters RUNNING at the held anchor when the slot is the anchor's plus D in force, E equals D in force, and
its cue is the cue in use (R5, R7, R8, R48; E from the anchor to the next output period, log 58). -/
def Obligations.HeldAnchorStartsTheProgram : Prop :=
  ∀ (s : State) (a : HeldAnchor),
    (s.framer.run = .gangWait ∨ s.framer.run = .running) → s.align.prog.state = .stopped → s.align.prog.held = some a →
    s.ctl.groups.g0.st.current = a.rig.source → (s.links.get a.rig.port).state = .up →
    (∃ e ∈ (s.align.rigs.get a.rig).ring, e.arrival = a.arrival) →
    (s.align.rigs.get a.rig).slotCount = a.arrival + BitVec.ofNat 32 s.align.prog.dInForce →
    ∃ t, exec .heldAnchorDue s = .next t
      ∧ t.align = { s.align with prog := { s.align.prog with
            state := .running, pos := a.pos, due := some a.arrival, held := none, dueSet := true
            eSlot := some (s.align.rigs.get a.rig).slotCount } }
      ∧ (s.align.prog.dInForce ≤ 32 → t.delayE = (s.align.prog.dInForce : Int))
      ∧ (s.align.prog.prevCue ≠ a.pos.cue → t.cues.inUse = some a.pos.cue.toNat)
      ∧ t = { s with align := t.align, cues := t.cues, player := t.player }

/-- R18: the step record after an evaluation, by the table, for a record with values section 1.5 allows. -/
def Obligations.StepRecordFollowsTheTable : Prop :=
  ∀ (s : State) (r : Rig), StepOk (s.align.rigs.get r).step →
    let x := (s.align.rigs.get r).step
    let y := ((s.stepEvaluate r).align.rigs.get r).step
    match s.matchSkew r with
    | some k =>
      y.miss = 0 ∧ y.lastSkew = some k
      ∧ (x.state = .inStep → x.lastSkew = some k → y.streak = 32 ∧ y.state = .inStep)
      ∧ (x.state = .drifting → x.lastSkew = some k →
          y.streak = x.streak + 1 ∧ y.state = if x.streak + 1 = 32 then .inStep else .drifting)
      ∧ (x.state = .outOfStep ∨ x.lastSkew ≠ some k → y.streak = 1 ∧ y.state = .drifting)
      ∧ (s.stepEvaluate r).fault = s.fault
    | none =>
      (x.state = .outOfStep → s.stepEvaluate r = s)
      ∧ (x.state ≠ .outOfStep → x.miss < 2 → y = { x with miss := x.miss + 1 } ∧ (s.stepEvaluate r).fault = s.fault)
      ∧ (x.state ≠ .outOfStep → x.miss = 2 →
          y = { state := .outOfStep, streak := 0, miss := 0, lastSkew := none }
          ∧ (s.usedBy r = true → (s.stepEvaluate r).fault = captured s .stepLost r.origin (.skew x.lastSkew))
          ∧ (s.usedBy r = false → (s.stepEvaluate r).fault = s.fault))

/-- STEP_LOST at the third miss: the rig is put out of step, its good-since stamp is none, and STEP LOST is raised when some group uses
the rig (R18, R19; the moment of the row, log 1). -/
def Obligations.StepLostPutsTheRigOut : Prop :=
  ∀ (s : State) (r : Rig), s.align.prog.state ≠ .stopped → s.ctl.groups.g0.st.current ≠ r.source →
    (s.align.rigs.get r).step.state ≠ .outOfStep → (s.align.rigs.get r).step.miss = 2 →
    exec (.stepLost r) s = .next { s with
      align := { s.align with rigs := s.align.rigs.set r { s.align.rigs.get r with
        step := { state := .outOfStep, streak := 0, miss := 0, lastSkew := none } } }
      ctl := { s.ctl with stamps := { a := if r = .a then none else s.ctl.stamps.a, b := if r = .b then none else s.ctl.stamps.b,
                                      bed := s.ctl.stamps.bed } }
      fault := if s.usedBy r then captured s .stepLost r.origin (.skew (s.align.rigs.get r).step.lastSkew) else s.fault }

/-- FADE_COMPLETE settles the group on the fade's destination, with no journal entry; DEFERRAL_LIMIT sets limit reached and raises
DEFERRAL LIMIT once, with the timer at the limit; nothing else changes (R81, R85; the moment of each row, log 1; the detail's frame count
is the model's reading, log 31). -/
def Obligations.GroupTimersEnd : Prop :=
  ∀ (s : State) (g : Fin 8),
    let x := s.ctl.groups.get g
    let n := (s.ctl.policies.get g).deferral
    (∀ (o d : Source) (k : Nat) (start : Word) (ret : Bool), x.st = .fading o d k start ret → k ≤ (s.framer.count - start).toNat + 1 →
      exec (.fadeComplete g) s = .next { s with ctl := { s.ctl with groups := s.ctl.groups.set g { x with st := .settled d } } })
    ∧ ((s.framer.run = .gangWait ∨ s.framer.run = .running) → x.limitReached = false → 0 < n → x.timer = some (n - 1) →
      exec (.deferralLimit g) s = .next { s with
        ctl := { s.ctl with groups := s.ctl.groups.set g { x with timer := some n, limitReached := true } }
        fault := captured s .deferralLimit (.group g) (.waited (State.waitingCause x) n) })

/-- The switch controller's steps for one group at an output period, while the program plays: a group 1 to 7 with nothing pending that is
SETTLED on a FAILED rig cuts to the other rig if it is in the list, HEALTHY or SUSPECT, and in step, else to BED if it is eligible, else to
MUTE with GROUP MUTED; h is 0 and the switch is journaled. On a leader without followers a HEALTH request does it and the vector changes
(R72, R75, R79, R84, R92, R96; the vector by section 7.6). On a JOINED follower with no waiting entry it is a local emergency, journaled
LOCAL, which raises the group's emergency flag (R95). -/
def Obligations.FailedRigIsLeft : Prop :=
  ∀ (s : State) (g : Fin 8) (r : Rig) (candidate cueChanged : Bool),
    let x := s.ctl.groups.get g
    let p := s.ctl.policies.get g
    let m := s.health.get r.other
    s.align.prog.state ≠ .stopped → g ≠ 0 → x.st = .settled r.source →
    (s.health.get r).state = .failed → x.op = none → x.health = none → x.revert = none → x.placed = none → x.timer = none →
    let dest : Source :=
      if r.other.source ∈ p.fallback ∧ (m.state = .healthy ∨ m.state = .suspect) ∧ s.stepOf r.other ≠ .outOfStep then r.other.source
      else if .bed ∈ p.fallback ∧ s.eligible g .bed = true then .bed
      else .mute
    let order : Byte := match s.gang.vector.get g with | some e => e.order + 1 | none => 0
    let left (cause : Cause) (gang : Gang) : State := { s with
      ctl := { s.ctl with
        groups := s.ctl.groups.set g { x with st := .settled dest, h := 0, healthMoved := true }
        journal := {
          entries := (if 64 ≤ s.ctl.journal.entries.length then s.ctl.journal.entries.drop 1 else s.ctl.journal.entries) ++ [
            { number := s.ctl.journal.next, group := g, origin := r.source, dest := dest, cause := cause, level := p.healthLevel
              urgency := .immediate, outcome := .seamless, pos := s.align.prog.pos, count := s.framer.count }]
          next := s.ctl.journal.next + 1 } }
      gang := gang
      fault := if dest = .mute then captured s .groupMuted (.group g) (.source r.source) else s.fault }
    (s.gang.role = .leader → s.gang.presentCount = 0 → p.revertOn = false → 1 ≤ p.healthLevel →
      State.groupStep candidate cueChanged s g = left .health { s.gang with vector := s.gang.vector.set g (some
        { source := dest, effective := s.align.prog.pos, order := order, fade := 0, urgency := .immediate }) })
    ∧ (s.gang.role = .follower → s.gang.state = .joined → s.gang.waiting.get g = none →
      State.groupStep candidate cueChanged s g = left .localEmergency { s.gang with emergency := s.gang.emergency.set g true })

/-- The switch controller's steps for one group at an output period, while the program plays, for an OPERATOR request above h on a group
1 to 7 SETTLED on a HEALTHY rig in step. On a leader without followers an IMMEDIATE one is carried out: the group fades over the policy's
F frames, or cuts when F is 0; h is the request's level, the switch is journaled and the vector changed (R79, R83, R84, R96; the vector by
section 7.6). On a leader with present followers an AT BOUNDARY one is placed at the switch point found the gang lead ahead, and the vector
announces it; at that point it is carried out, and the vector stays (R93, R94). -/
def Obligations.ForceIsCarriedOut : Prop :=
  ∀ (s : State) (g : Fin 8) (r : Rig) (dest : Source) (candidate cueChanged : Bool),
    let x := s.ctl.groups.get g
    let p := s.ctl.policies.get g
    s.gang.role = .leader → s.align.prog.state ≠ .stopped → g ≠ 0 → x.st = .settled r.source →
    dest ≠ r.source → s.eligible g dest = true → x.health = none → x.revert = none → p.revertOn = false →
    let order : Byte := match s.gang.vector.get g with | some e => e.order + 1 | none => 0
    let announce (pt : ShowPos) (u : Urgency) : Gang := { s.gang with vector := s.gang.vector.set g (some
      { source := dest, effective := pt, order := order, fade := p.fade, urgency := u }) }
    let moved (level : Nat) (u : Urgency) (y : SwitchOutcome) (gang : Gang) : State := { s with
      ctl := { s.ctl with
        groups := s.ctl.groups.set g { x with
          st := if 0 < p.fade then .fading r.source dest p.fade s.framer.count false else .settled dest, h := level, op := none
          placed := none, timer := none, healthMoved := true }
        journal := {
          entries := (if 64 ≤ s.ctl.journal.entries.length then s.ctl.journal.entries.drop 1 else s.ctl.journal.entries) ++ [
            { number := s.ctl.journal.next, group := g, origin := r.source, dest := dest, cause := .operator, level := level
              urgency := u, outcome := y, pos := s.align.prog.pos, count := s.framer.count }]
          next := s.ctl.journal.next + 1 } }
      gang := gang }
    (s.gang.presentCount = 0 → (s.health.get r).state = .healthy → s.stepOf r ≠ .outOfStep → x.placed = none → x.timer = none →
      ∀ q, x.op = some q → q.urgency = .immediate → q.target = some dest → x.h < q.level →
        State.groupStep candidate cueChanged s g = moved q.level .immediate .seamless (announce s.align.prog.pos .immediate))
    ∧ (0 < s.gang.presentCount → s.ctlHealth r = .healthy → s.ctlStep r ≠ .outOfStep → ∀ n, x.timer = some n → n + 1 < p.deferral →
      (∀ q, x.op = some q → q.urgency = .atBoundary → q.target = some dest → x.h < q.level → x.placed = none →
        let point : Option ShowPos := (search s.policyInUse (s.align.prog.pos.pos.toNat + s.ctl.policies.g0.gangLead)).map
          (fun y => { cue := s.align.prog.pos.cue, pos := BitVec.ofNat 32 y })
        State.groupStep candidate cueChanged s g = { s with
          ctl := { s.ctl with groups := s.ctl.groups.set g { x with
            timer := some (n + 1), op := none
            placed := some { cause := .operator, level := q.level, target := dest, hard := q.hard, point := point, moved := false
                             pin := none, latched := q.latched } } }
          gang := match point with | some pt => announce pt .atBoundary | none => s.gang })
      ∧ (∀ c, x.placed = some c → x.op = none → c.cause = .operator → c.target = dest → c.point = some s.align.prog.pos → c.pin = none →
        State.groupStep candidate cueChanged s g
          = moved c.level .atBoundary (if c.moved then .atLimit else .seamless) s.gang))

/-- OUTPUT_PERIOD: the running frame count, and one slot sent on every port with the port's next sequence number: the return frames on RA
and RB, one output frame on O1 and O2 from the release of the bypass in RUNNING on and the relay's traffic before it, the IDLE frames of
GU and GD. A port's slot carries its oldest short reply, else its oldest completion (the order of short replies, log 11); a leader's GD
carries its tick, a follower's GU its report and its GD the relayed tick. A return frame carries the rig's role by R171's table and the
status summary of R111 (R111, R144, R145, R147, R169, R170, R171, R173, R175; the entries a report drops do not count among its two,
log 48). -/
def Obligations.OutputPeriodSendsOneSlot : Prop :=
  ∀ (s : State) (i : PeriodInput), s.framer.run ≠ .off → s.framer.resetReq = none → (s.framer.run ≠ .running → s.framer.bypass = true) →
    let summary (t : State) : Summary :=
      let step (r : Rig) : StepState := if t.ctl.groups.g0.st.current = r.source then .inStep else (t.align.rigs.get r).step.state
      { sources := t.ctl.groups.map (fun g => match g.st with | .settled x => x | .fading _ d _ _ _ => d)
        healthA := t.health.a.state, stepA := step .a, healthB := t.health.b.state, stepB := step .b
        faultLocked := t.fault.first.isSome, showLock := t.mgmt.lock, bedReady := t.bedReady, bypass := t.framer.bypass
        position := t.gang.position, size := t.gang.size }
    let role (t : State) (r : Rig) (b : Byte) : Prop :=
      let failed := (t.health.get r).state = .failed
      let active := t.ctl.groups.g0.st.current = r.source
      let carrying := ∃ g, (t.ctl.groups.get g).st = .settled r.source
        ∨ ∃ o d n k v, (t.ctl.groups.get g).st = .fading o d n k v ∧ (o = r.source ∨ d = r.source)
      let stopped := (t.health.get r).state = .stopped
      (failed → b = 5) ∧ (¬failed → active → b = 1) ∧ (¬failed → ¬active → carrying → b = 2)
      ∧ (¬failed → ¬active → ¬carrying → stopped → b = 4) ∧ (¬failed → ¬active → ¬carrying → ¬stopped → b = 3)
    ∃ t, exec (.outputPeriod i) s = .next t
      ∧ t.framer.count = (if s.framer.run = .hold then s.framer.count else s.framer.count + 1)
      ∧ t.framer.seqs = { ra := s.framer.seqs.ra + 1, rb := s.framer.seqs.rb + 1
                          o1 := if s.framer.run = .running then s.framer.seqs.o1 + 1 else s.framer.seqs.o1
                          o2 := if s.framer.run = .running then s.framer.seqs.o2 + 1 else s.framer.seqs.o2
                          gu := s.framer.seqs.gu + 1, gd := s.framer.seqs.gd + 1 }
      ∧ (∀ p : CtlPort, (t.framer.holders.get p).short = (s.framer.holders.get p).short.drop 1
          ∧ (p = .ra ∨ p = .rb ∨ s.framer.run = .running →
              (∀ x m, (s.framer.holders.get p).short = x :: m → (t.framer.out.get p.port).side = some (.reply x))
              ∧ (∀ x m, (s.framer.holders.get p).short = [] → (s.framer.holders.get p).completion = x :: m →
                  (t.framer.out.get p.port).side = some (.reply x))))
      ∧ (∀ r : Rig, ∃ f, (t.framer.out.get r.port).main = some (.frame f) ∧ f.kind = .idle ∧ f.seq = s.framer.seqs.get r.port
          ∧ f.declared = false ∧ f.pilot = false ∧ f.channels = []
          ∧ (t.framer.run = s.framer.run → f.stopped = decide (t.align.prog.state = .stopped) ∧ f.pos = t.align.prog.pos
              ∧ f.summary = summary t ∧ role t r f.role))
      ∧ (s.framer.run ≠ .running → t.framer.out.o1 = { main := some .relay, side := none } ∧ t.framer.out.o2 = { main := some .relay, side := none })
      ∧ (s.framer.run = .running → t.framer.bypass = false
          ∧ ∃ f : MainFrame, f.role = 0 ∧ f.summary.bypass = false
            ∧ t.framer.out.o1.main = some (.frame { f with seq := s.framer.seqs.o1 })
            ∧ t.framer.out.o2.main = some (.frame { f with seq := s.framer.seqs.o2 })
            ∧ (t.align.prog.state ≠ .stopped → f.kind = .audio ∧ f.stopped = false ∧ f.pos = t.align.prog.pos
                ∧ f.channels.length = t.routes.active.length)
            ∧ (t.align.prog.state = .stopped → f.kind = .idle ∧ f.stopped = true ∧ f.pos = { cue := 0, pos := 0 } ∧ f.channels = []))
      ∧ (∃ f : MainFrame, t.framer.out.gu.main = some (.frame { f with seq := s.framer.seqs.gu })
          ∧ t.framer.out.gd.main = some (.frame { f with seq := s.framer.seqs.gd })
          ∧ f.kind = .idle ∧ f.stopped = false ∧ f.declared = false ∧ f.pos = { cue := 0, pos := 0 } ∧ f.channels = [] ∧ f.role = 0)
      ∧ t.gang.relay = none ∧ t.gang.below = []
      ∧ ((s.framer.run = .gangWait ∨ s.framer.run = .running) → t.framer.run = s.framer.run →
          (s.gang.role = .leader →
            let unset : VecEntry := { source := .mute, effective := { cue := 0, pos := 0 }, order := 0, fade := 0, urgency := .immediate }
            t.framer.out.gu.side = none
            ∧ t.framer.out.gd.side = some (.tick
                { hop := 1, size := t.gang.size, leader := t.align.prog.pos, vector := t.gang.vector.map (fun e => e.getD unset) }))
          ∧ (s.gang.role = .follower →
            let own : UnitEntry :=
              { position := t.gang.position, state := t.gang.state, healthA := t.health.a.state, healthB := t.health.b.state,
                stepA := t.stepOf .a, stepB := t.stepOf .b, emergency := t.gang.emergency, applied := t.gang.applied }
            t.framer.out.gd.side = s.gang.relay.map OutSide.tick
            ∧ t.framer.out.gu.side = some (.report (own :: (s.gang.below.filter (fun e => decide (s.gang.position < e.position))).take 2))))
      ∧ t.pending = s.pending

/-- OUTPUT_PERIOD with the program RUNNING on a timing rig: the program position follows R13's table with the due slot one on, or the
program stops at the rig's stop mark (R10, R11, R13). In FREE the position and the due slot go on by one, and the program stops at the
cue's length (R15). A change of the timing source rebases the due slot by the new rig's skew, anchors it anew for a hard switch, or frees
the program, and leaves the old rig's step record by R20; E becomes D in force at a hard-switch anchor, and changes by the negative of the
skew at a rebase (R5, R14, R15, R16, R20; the due slot of a hard-switch anchor advances at the next output period, log 38; the slot count
of a link that is not UP, log 40; E from an anchor to the next output period, log 58). -/
def Obligations.OutputPeriodAdvancesTheProgram : Prop :=
  (∀ (s : State) (i : PeriodInput) (r : Rig) (d k : Word),
    (s.framer.run = .gangWait ∨ s.framer.run = .running) → s.framer.resetReq = none → s.align.prog.state = .running →
    s.align.prog.dueSet = false → s.align.prog.due = some d → s.ctl.groups.g0.st.current = r.source →
    let stops := match (s.align.rigs.get r).stopMark with | some m => decide (0 ≤ Word.diff (d + 1) m) | none => false
    let next : ShowPos := { s.align.prog.pos with pos := s.align.prog.pos.pos + 1 }
    let e := (s.align.rigs.get r).ring.find? (fun e => e.arrival == d + 1)
    (∃ t, exec (.outputPeriod i) s = .next t
      ∧ (stops = true → t.align.prog.state = .stopped ∧ t.align.prog.pos = { cue := 0, pos := 0 } ∧ t.align.prog.due = none
          ∧ t.cues.inUse = none ∧ t.cues.staged = none)
      ∧ (stops = false →
          t.align.prog.pos = match e with
            | none => next
            | some e => if s.align.prog.anchorPending = true ∨ (e.pos.cue ≠ s.align.prog.pos.cue ∧ e.pos.pos.toNat ≤ 3) then e.pos else next))
    ∧ (stops = false → (s.programPeriod k).align.prog.due = some (d + 1) ∧ (s.programPeriod k).align.prog.state = .running
        ∧ (s.programPeriod k).align.prog.eSlot = none
        ∧ (s.programPeriod k).align.prog.anchorPending = (s.align.prog.anchorPending && e.isNone)))
  ∧ (∀ (s : State) (d k : Word), s.align.prog.state = .free → s.align.prog.due = some d →
      let next : ShowPos := { s.align.prog.pos with pos := s.align.prog.pos.pos + 1 }
      let t := s.programPeriod k
      (s.policyInUse.length ≠ some next.pos.toNat →
        t.align.prog.state = .free ∧ t.align.prog.pos = next ∧ t.align.prog.due = some (d + 1) ∧ t.align.prog.eSlot = none)
      ∧ (s.policyInUse.length = some next.pos.toNat →
          t.align.prog.state = .stopped ∧ t.align.prog.pos = { cue := 0, pos := 0 } ∧ t.align.prog.due = none ∧ t.cues.inUse = none))
  ∧ ∀ (s : State) (old new : Source) (hard : Bool), old ≠ new →
      let out : StepRec := { state := .outOfStep, streak := 0, miss := 0, lastSkew := none }
      let t := s.timingChange old new hard
      let leaves (x : StepRec) : Prop := ∀ q : Rig, old = q.source → ∀ a : AlignRig, s.align.rigs.get q = a →
        t.align.rigs = s.align.rigs.set q { a with step := if (s.links.get q.port).state = .up then x else out }
      (s.align.prog.state = .stopped →
          t.align.prog = { s.align.prog with held := none, grace := none, graceSpent := false } ∧ leaves out)
      ∧ (s.align.prog.state ≠ .stopped → new = .bed ∨ new = .mute →
          t.align.prog = { s.align.prog with state := .free, anchorPending := false }
          ∧ leaves { state := .inStep, streak := 32, miss := 0, lastSkew := some 0 })
      ∧ ∀ r : Rig, s.align.prog.state ≠ .stopped → new = r.source →
          ((hard = true ∨ (s.align.rigs.get r).step.state = .outOfStep) →
            t.align.prog = { s.align.prog with
              state := .running, anchorPending := true
              due := some ((s.align.rigs.get r).slotCount - BitVec.ofNat 32 s.align.prog.dInForce)
              eSlot := some (s.align.rigs.get r).slotCount }
            ∧ (s.align.prog.dInForce ≤ 32 → t.delayE = (s.align.prog.dInForce : Int)) ∧ leaves out)
          ∧ (hard = false → (s.align.rigs.get r).step.state ≠ .outOfStep → ∀ n, (s.align.rigs.get r).step.lastSkew = some n →
              t.align.prog = { s.align.prog with state := .running, due := s.align.prog.due.map (fun d => d + BitVec.ofInt 32 n) }
              ∧ (s.align.prog.due.isSome = true → s.framer.periodSlot.isSome = true → 0 ≤ s.delayE → s.delayE ≤ 63 → -63 ≤ n → n ≤ 63 →
                  t.delayE = s.delayE - n)
              ∧ leaves { state := .inStep, streak := 32, miss := 0, lastSkew := some (-n) })

/-! ## The store (06) -/

/-- PAGE_READ: the bed player's outstanding read of a wanted page of the tracked clip. A clean or corrected page enters the window; a
corrected one advances the sector's corrected count, which at 4 offers the sector to the scrub queue of eight; an uncorrectable one enters
as zero, with BED READ and a SEALED clip DAMAGED; a bank that has served a read of this output period serves no other (R124, R125, R129,
R130, R136; the ECC outcome is an input, log 6). A read whose clip has left the directory is served as any other, and its page discarded
(R139; its effects of R129, log 66). At an output period the window keeps the pages that play order wants next and asks for the
first it lacks (R136; play order at a loop's end, log 22), a read for another page being discarded while the effective frame's page is
absent; the prime takes the cue of the timing rig's newest entry, its pages are read like
the window's, and at the change into that cue its slots join the window (R138; a change that does not join ends the prime and forgets the last
primed cue too, log 57). -/
def Obligations.PageReadFillsTheWindow : Prop :=
  (∀ (s : State) (c page start : Nat) (e : DirEntry),
    let l := e.first + page / 64
    let p := s.store.physOf l
    let frames := (Memory.read s.store.flash p).page (page % 64)
    let deliver (frames : List BedFrame) (zero : Bool) : Player :=
      { s.player with reading := none, window := s.player.window ++ [{ clip := e.id, page := page, frames := frames, zero := zero }] }
    (s.framer.run = .gangWait ∨ s.framer.run = .running) → s.player.reading = some (c, page) → s.player.tracked = some (c, start) →
    s.store.clip c = some e → s.windowWanted.contains page = true → holdsPage s.player.window c page = false →
    s.store.engine = none →
    (p % 4 ∈ s.store.readBanks → ∀ ecc, exec (.pageRead ecc) s = .next s)
    ∧ (p % 4 ∉ s.store.readBanks →
      exec (.pageRead .clean) s = .next { s with
          store := { s.store with readBanks := p % 4 :: s.store.readBanks }
          player := deliver frames false }
      ∧ (let n := min 4 (s.store.countOf l + 1)
         exec (.pageRead .corrected) s = .next { s with
          store := { s.store with
            readBanks := p % 4 :: s.store.readBanks
            corrected := Sparse.put (fun _ => 0) l n s.store.corrected
            scrubQueue := if n = 4 ∧ l ∉ s.store.scrubQueue ∧ s.store.scrubQueue.length < 8 then s.store.scrubQueue ++ [l]
                          else s.store.scrubQueue }
          player := deliver frames false })
      ∧ ∃ t, exec (.pageRead .uncorrectable) s = .next t
        ∧ t.player = deliver zeroPage true
        ∧ t.fault = captured s .bedRead .store (.bedRead ((s.store.clipOf l).map (fun x => x.id)) l (page % 64))
        ∧ (s.store.clipOf l = some e → e.state = .sealed → (t.store.clip e.id).map (fun x => x.state) = some .damaged)
        ∧ t = { s with player := t.player, fault := t.fault, store := { s.store with dir := t.store.dir, readBanks := p % 4 :: s.store.readBanks } }))
  ∧ (∀ (s : State) (c start : Nat) (e : DirEntry), s.player.tracked = some (c, start) → s.store.clip c = some e →
    let off : Int := (s.align.prog.pos.pos.toNat : Int) - (start : Int)
    let most := match s.player.prime with | some q => if q.slots = [] then 4 else 2 | none => 4
    let last := (e.length - 1) / 16
    let next (p : Nat) : Option Nat :=
      if 0 < e.loopLength ∧ (p = (e.loopStart + e.loopLength - 1) / 16 ∨ last ≤ p) then some (e.loopStart / 16)
      else if p < last then some (p + 1) else none
    let effective : Option Nat :=
      if off < 0 then none else if off < e.length then some off.toNat
      else if 0 < e.loopLength then some (e.loopStart + (off.toNat - e.loopStart) % e.loopLength) else none
    let wanted := s.windowWanted
    wanted.head? = (if off < 0 then some 0 else effective.map (fun f => f / 16))
    ∧ wanted.Nodup ∧ wanted.length ≤ most
    ∧ (∀ i p q, wanted[i]? = some p → wanted[i + 1]? = some q → next p = some q)
    ∧ (wanted.length < most → ∀ p q, wanted.getLast? = some p → next p = some q → q ∈ wanted)
    ∧ ∀ (r : Rig) (y : RingEntry), (s.framer.run = .gangWait ∨ s.framer.run = .running) → s.player.tracked = s.trackTarget →
        s.ctl.groups.g0.st.current = r.source → (s.align.rigs.get r).ring.getLast? = some y → s.cues.inUse = some y.pos.cue.toNat →
        s.player.prime = none →
        let kept := s.player.window.filter (fun x => x.clip == c && wanted.contains x.page)
        let discards : Bool := match effective with
          | some f => !holdsPage kept c (f / 16) && s.player.reading != some (c, f / 16)
          | none => false
        s.playerPeriod = { s with player := { s.player with
          lastPrime := none
          window := kept
          lostRead := if discards then none else s.player.lostRead
          reading := if discards = true ∨ (s.player.reading = none ∧ s.player.lostRead = none)
            then (wanted.find? (fun p => !holdsPage kept c p)).map (fun p => (c, p)) else s.player.reading } })
  ∧ (∀ (s : State) (x : LostRead),
    let p := s.store.physOf x.sector
    let served : State := { s with
      store := { s.store with readBanks := p % 4 :: s.store.readBanks }
      player := { s.player with lostRead := none } }
    (s.framer.run = .gangWait ∨ s.framer.run = .running) → s.player.reading = none → s.player.lostRead = some x → s.store.engine = none →
    (p % 4 ∈ s.store.readBanks → ∀ ecc, exec (.pageRead ecc) s = .next s)
    ∧ (p % 4 ∉ s.store.readBanks →
      exec (.pageRead .clean) s = .next served
      ∧ (let n := min 4 (s.store.countOf x.sector + 1)
         exec (.pageRead .corrected) s = .next { served with store := { served.store with
           corrected := Sparse.put (fun _ => 0) x.sector n s.store.corrected
           scrubQueue := if n = 4 ∧ x.sector ∉ s.store.scrubQueue ∧ s.store.scrubQueue.length < 8
                         then s.store.scrubQueue ++ [x.sector] else s.store.scrubQueue } })
      ∧ exec (.pageRead .uncorrectable) s
          = .next { served with fault := captured s .bedRead .store (.bedRead (some x.clip) x.sector x.page) }))
  ∧ (∀ (s : State) (r : Rig) (x y : RingEntry) (id : Nat) (e : DirEntry), (s.framer.run = .gangWait ∨ s.framer.run = .running) →
    let policy := s.cues.lookup x.pos.cue.toNat
    s.ctl.groups.g0.st.current = r.source → (s.align.rigs.get r).ring.getLast? = some x → s.cues.inUse ≠ some x.pos.cue.toNat →
    s.player.lastPrime ≠ some x.pos.cue → policy.clip = some id → s.store.clip id = some e → (e.state = .sealed ∨ e.state = .damaged) →
    (s.align.rigs.get r).ring.find? (fun z => z.pos.cue == x.pos.cue) = some y →
    s.primeUpdate = { s with player := { s.player with
      lastPrime := some x.pos.cue
      prime := some { cue := x.pos.cue, clip := id, bedStart := policy.bedStart
                      offset := (y.pos.pos.toNat : Int) - (policy.bedStart : Int), slots := [] } } })
  ∧ (∀ (s : State) (q : Prime) (page : Nat) (e : DirEntry),
    let p := s.store.physOf (e.first + page / 64)
    (s.framer.run = .gangWait ∨ s.framer.run = .running) → s.player.prime = some q → s.player.tracked = none →
    s.store.clip q.clip = some e → e.id = q.clip → s.player.reading = some (q.clip, page) → s.primeWanted.contains page = true →
    holdsPage q.slots q.clip page = false → s.store.engine = none → p % 4 ∉ s.store.readBanks →
    exec (.pageRead .clean) s = .next { s with
      store := { s.store with readBanks := p % 4 :: s.store.readBanks }
      player := { s.player with reading := none, prime := some { q with slots := q.slots ++ [
        { clip := q.clip, page := page, frames := (Memory.read s.store.flash p).page (page % 64), zero := false }] } } })
  ∧ ∀ (s : State) (q : Prime), s.player.prime = some q → s.player.tracked ≠ s.trackTarget →
    let joins : Prop := q.cue = s.align.prog.pos.cue ∧ s.trackTarget = some (q.clip, q.bedStart)
    let after (w : List PageSlot) : State :=
      { s with player := { s.player with tracked := s.trackTarget, window := w, prime := none, lastPrime := none } }
    (joins → s.playerCueChange = after q.slots) ∧ (¬joins → s.playerCueChange = after [])

/-- PAGE_PROGRAM_COMPLETE and MARK_PROGRAM_COMPLETE of the open clip: a verified page is in the flash and its buffer empties, which
answers a held BED DATA; a failed one raises STORE PROGRAM and relocates its sector; a verified seal marker seals the clip and answers the
writer; a retire mark ends (R113, R116, R121, R122, R126; the moment of each row, log 1; whether a program verifies is an input, log 6; a
mark that fails verify leaves the flash as it was, log 13; the marks a job still has to program, oldest first, log 21). -/
def Obligations.ProgramStepsComplete : Prop :=
  ∀ (s : State) (x : EngineStep) (e : DirEntry), s.store.engine = some x → x.job = .clip → x.orphan = false →
    2 ≤ (s.framer.count - x.start).toNat + 1 → s.store.writing = some e →
    let answered (t : State) (q : Service) : Prop :=
      (t.framer.holders.get e.writer).completion
          = (s.framer.holders.get e.writer).completion
            ++ [{ addr := BitVec.ofNat 8 s.gang.position, tag := q.tag, kind := BitVec.ofNat 8 q.kind.code, code := .done, data := .none }]
        ∧ t.mgmt.inService.get e.writer = none
    (∀ p k frames h b m, x.op = .page p k frames h false → s.store.clipCopy = none → s.store.handed = b :: m →
      let y := Memory.read s.store.flash p
      let flash := Memory.write s.store.flash p
        { y with pages := Sparse.insert k frames y.pages, touched := true, header := if k = 0 then h else y.header
                 sealMarker := if k = 0 then false else y.sealMarker }
      (s.store.dataHeld = false →
        exec (.pageProgramComplete true) s = .next { s with store := { s.store with engine := none, handed := m, flash := flash } })
      ∧ (s.store.dataHeld = true → ∀ q, s.mgmt.inService.get e.writer = some q →
        ∃ t, exec (.pageProgramComplete true) s = .next t
          ∧ t.store = { s.store with engine := none, handed := m, flash := flash, fill := some { page := e.next / 16, frames := [] }
                                     dataHeld := false }
          ∧ answered t q ∧ t = { s with store := t.store, framer := t.framer, mgmt := t.mgmt })
      ∧ ∃ t, exec (.pageProgramComplete false) s = .next t
          ∧ (s.fault.first = none → t.fault.first = some { kind := .storeProgram, origin := .store, pos := s.align.prog.pos,
                                                           count := s.framer.count, detail := .program p k })
          ∧ (s.fault.first ≠ none → .storeProgram ∈ t.fault.later)
          ∧ ∀ q, s.store.lowestErased = some q → q ∈ t.store.relocating ∧ ∃ j, t.store.clipCopy = some j ∧ j.target = some q ∧ j.source = p)
    ∧ (∀ p q, x.op = .sealMark p → s.mgmt.inService.get e.writer = some q →
      ∃ t, exec (.markProgramComplete true) s = .next t
        ∧ t.store.engine = none ∧ t.store.sealing = false
        ∧ t.store.flash = Memory.write s.store.flash p { Memory.read s.store.flash p with sealMarker := true }
        ∧ t.store.dir = s.store.dir.map (fun y => if y.state = .writing then { y with state := if y.damageSeen then .damaged else .sealed } else y)
        ∧ answered t q)
    ∧ (∀ p ok, x.op = .retireMark p →
      let flash := if ok then Memory.write s.store.flash p { Memory.read s.store.flash p with retire := true } else s.store.flash
      (s.store.sealAfterMark = false ∨ s.store.clipMark.drop 1 ≠ [] →
        exec (.markProgramComplete ok) s = .next { s with
          store := { s.store with engine := none, clipMark := s.store.clipMark.drop 1, flash := flash } })
      ∧ (s.store.sealAfterMark = true → s.store.clipMark.drop 1 = [] → ∀ q, s.mgmt.inService.get e.writer = some q →
        ∃ t, exec (.markProgramComplete ok) s = .next t
          ∧ t.store.engine = none ∧ t.store.clipMark = [] ∧ t.store.sealing = false ∧ t.store.sealAfterMark = false ∧ t.store.flash = flash
          ∧ t.store.dir = s.store.dir.map (fun y => if y.state = .writing then { y with state := if y.damageSeen then .damaged else .sealed } else y)
          ∧ answered t q))

/-- ERASE_COMPLETE and ERASE_TIMEOUT of the erase backlog: the sector is blank and ERASED again, or STORE ERASE is raised, an erased
spare leaves the pool and takes its place as an ERASED sector, and the retired sector waits for its mark. With unerased spares alone the
lowest is erased first, as a step of the job; with none, SPARES EXHAUSTED is raised and the sector leaves the backlog DAMAGED and mapped as it
was (R116, R125, R127, R128, R131; the moment of each row, log 1; the mark's place in the job, log 21). -/
def Obligations.BacklogErasesEnd : Prop :=
  (∀ (s : State) (x : EngineStep) (p l : Nat), s.store.engine = some x → x.op = .erase p → x.job = .backlog → p ≠ 4160 →
    s.store.readBanks = [] → s.store.backlogWait = none → s.store.backlog.find? (fun l => s.store.physOf l == p) = some l →
    (x.progress = 11 →
      ∃ t, exec .eraseComplete s = .next t
        ∧ t.store.flash = Memory.write s.store.flash p blankSector ∧ t.store.engine = none ∧ t.store.stateOf l = .erased
        ∧ l ∉ t.store.backlog ∧ (∀ k, k ≠ l → (k ∈ t.store.backlog ↔ k ∈ s.store.backlog)) ∧ t.store.remap = s.store.remap
        ∧ t = { s with store := t.store })
    ∧ (x.progress < 11 → 200 ≤ (s.framer.count - x.start).toNat + 1 →
      let f := captured s .storeErase .store (.erase p none)
      (∀ q, s.store.lowestErased = some q →
        ∃ t, exec .eraseTimeout s = .next t
          ∧ t.fault = f ∧ t.store.remap = Sparse.put id l q s.store.remap ∧ t.store.stateOf l = .erased
          ∧ (∀ k e, (k, e) ∈ t.store.spares ↔ k ≠ q ∧ (k, e) ∈ s.store.spares)
          ∧ t.store.retired = s.store.retired ++ [p] ∧ t.store.backlogMark = s.store.backlogMark ++ [p] ∧ l ∉ t.store.backlog
          ∧ t.store.flash = s.store.flash ∧ t = { s with store := t.store, fault := t.fault })
      ∧ (s.store.lowestErased = none → s.store.spares ≠ [] →
          exec .eraseTimeout s = .next { s with fault := f, store := { s.store with engine := none, backlogWait := some (l, p) } })
      ∧ (s.store.spares = [] →
        ∃ t, exec .eraseTimeout s = .next t
          ∧ t.fault = captured { s with fault := f } .sparesExhausted .store (.logical l)
          ∧ t.store.stateOf l = .damaged ∧ l ∉ t.store.backlog ∧ t.store.physOf l = s.store.physOf l
          ∧ t.store.retired = s.store.retired ∧ t.store.backlogMark = s.store.backlogMark ∧ t.store.spares = []
          ∧ t.store.flash = s.store.flash ∧ t = { s with store := t.store, fault := t.fault })))
  ∧ (∀ (s : State) (l p q : Nat), s.store.backlogWait = some (l, p) → s.store.backlogMark = [] → s.store.lowestUnerased = some q →
      s.backlogStart = some (s.startOp (.erase q) .backlog))
  ∧ ∀ (s : State) (x : EngineStep) (l p q : Nat), s.store.engine = some x → x.op = .erase q → x.job = .backlog → q ≠ 4160 →
      s.store.readBanks = [] → s.store.backlogWait = some (l, p) → s.store.lowestErased = none → (q, false) ∈ s.store.spares →
      (x.progress = 11 →
        ∃ t, exec .eraseComplete s = .next t
          ∧ t.store.flash = Memory.write s.store.flash q blankSector ∧ t.store.remap = Sparse.put id l q s.store.remap
          ∧ t.store.stateOf l = .erased ∧ l ∉ t.store.backlog ∧ (∀ e, (q, e) ∉ t.store.spares) ∧ t.store.backlogWait = none
          ∧ t.store.retired = s.store.retired ++ [p] ∧ t.store.backlogMark = s.store.backlogMark ++ [p]
          ∧ t = { s with store := t.store })
      ∧ (x.progress < 11 → 200 ≤ (s.framer.count - x.start).toNat + 1 →
        ∃ t, exec .eraseTimeout s = .next t
          ∧ (∀ e, (q, e) ∉ t.store.spares) ∧ t.store.retired = s.store.retired ++ [q] ∧ t.store.backlogMark = s.store.backlogMark ++ [q]
          ∧ ((∃ y ∈ s.store.spares, y.1 ≠ q) → t.fault = captured s .storeErase .store (.erase q none)
              ∧ t.store.backlogWait = some (l, p))
          ∧ t = { s with store := t.store, fault := t.fault })

/-! ## Side frames and the gang (07, 09) -/

/-- SIDE_FRAME: nothing is taken from a link that is not UP, from a frame that fails R168 or from one whose kind is not its port's,
whatever its body; a
CONTROL is the request it carries, a GANG TICK on GU and a GANG REPORT on GD are the gang agent's, and each has its effect: an IDENTIFY is
answered, a follower takes the tick, a follower keeps the report. A kind without parameters is whole in three bytes, a kind with parameters
in more, as its typed reading (log 10). -/
def Obligations.SideFramesReachTheirAgent : Prop :=
  ∀ (s : State) (raw : RawFrame) (body : SideBody),
    let bare (q : Request) : Bool :=
      [ReqKind.identify, .readFault, .clearFault, .stopProgram, .showLock, .showUnlock, .bedStatus, .saveSettings, .resetUnit].contains q.kind
    (∀ p, (s.links.get p).state ≠ .up ∨ checkSide raw = none → exec (.sideFrame p raw body) s = .next s)
    ∧ ∀ f, checkSide raw = some f →
      (∀ (p : CtlPort), (s.links.get p.port).state = .up →
        let run := exec (.sideFrame p.port raw body) s
        let head (ok : Bool) : CtlHead := { port := p, addr := byteAt f.body 0, tag := byteAt f.body 1, lengthOk := ok }
        (f.kind ≠ 2 → run = .next s)
        ∧ (f.kind = 2 → f.body.length < 3 → run = .next s)
        ∧ (f.kind = 2 → 3 ≤ f.body.length →
          ((∀ q : Request, byteAt f.body 2 ≠ BitVec.ofNat 8 q.kind.code) →
            run = exec (.unknownRequest (head true) (byteAt f.body 2)) s)
          ∧ ∀ q : Request, byteAt f.body 2 = BitVec.ofNat 8 q.kind.code →
            (bare q = true → run = exec (q.command (head (decide (f.body.length = 3)))) s)
            ∧ (bare q = false → 3 < f.body.length → body = .control (some q) → run = exec (q.command (head true)) s)
            ∧ (bare q = false → (f.body.length = 3 ∨ ∀ x, body = .control (some x) → x.kind ≠ q.kind) →
                run = exec (q.command (head false)) s)
            ∧ ∃ t, run = .next t)
        ∧ (f.kind = 2 → f.body.length = 3 → byteAt f.body 2 = 1 → Reaches s (head true) .identify →
            run = .next (replied s (head true) 1 .done
              (.identity Config.vendorCode Config.partCode Config.siliconRevision Config.serialNumber s.gang.position s.gang.size))))
      ∧ ((s.links.get .gu).state = .up → f.kind ≠ 4 ∨ (∀ t, body ≠ .tick t) → exec (.sideFrame .gu raw body) s = .next s)
      ∧ ((s.links.get .gd).state = .up → f.kind ≠ 5 ∨ (∀ es, body ≠ .report es) → exec (.sideFrame .gd raw body) s = .next s)
      ∧ (∀ t, (s.links.get .gu).state = .up → body = .tick t →
          (f.kind = 4 → exec (.sideFrame .gu raw body) s = exec (.gangTick .gu t) s)
          ∧ (f.kind = 4 → (s.framer.run = .gangWait ∨ s.framer.run = .running) → s.gang.role = .follower → 1 ≤ t.hop → t.hop ≤ 3 →
              ∃ u, exec (.sideFrame .gu raw body) s = .next u ∧ u = { s with gang := u.gang } ∧ u.gang.position = t.hop
                ∧ u.gang.leaderPos = t.leader ∧ u.gang.silence = 0 ∧ u.gang.run = min 40 (s.gang.run + 1)))
      ∧ (∀ es, (s.links.get .gd).state = .up → body = .report es →
          (f.kind = 5 → exec (.sideFrame .gd raw body) s = exec (.gangReport .gd es) s)
          ∧ (f.kind = 5 → (s.framer.run = .gangWait ∨ s.framer.run = .running) → s.gang.role = .follower →
              exec (.sideFrame .gd raw body) s = .next { s with gang := { s.gang with below := es } }))

/-- GANG_TICK: a follower takes a tick with hop count 1 to 3 from an UP GU link, and no other unit takes one (R145, R151). At an output
period a JOINED follower applies a group's waiting entry: a group 1 to 7 SETTLED on an eligible rig goes to the entry's eligible source at
the effective position or past it, late with GANG LATE when an AT BOUNDARY one is passed, and waits before it; a group already on the
source only notes the order number (R152, R153, R154). -/
def Obligations.FollowerTakesTicks : Prop :=
  (∀ (s : State) (k : Tick),
    (s.gang.role = .leader ∨ k.hop = 0 ∨ 3 < k.hop ∨ (s.links.get .gu).state ≠ .up → exec (.gangTick .gu k) s = .next s)
    ∧ ((s.framer.run = .gangWait ∨ s.framer.run = .running) → s.gang.role = .follower → 1 ≤ k.hop → k.hop ≤ 3 → (s.links.get .gu).state = .up →
      ∃ t, exec (.gangTick .gu k) s = .next t ∧ t = { s with gang := t.gang }
        ∧ t.gang.position = k.hop ∧ t.gang.size = k.size ∧ t.gang.leaderPos = k.leader ∧ t.gang.silence = 0
        ∧ t.gang.run = min 40 (s.gang.run + 1) ∧ t.gang.state = s.gang.state
        ∧ t.gang.relay = (if k.hop ≤ 2 then some { k with hop := k.hop + 1 } else none)
        ∧ ∀ g, (let new := (match s.gang.received.get g with | none => true | some c => c.order != (k.vector.get g).order)
                t.gang.received.get g = (if new then some (k.vector.get g) else s.gang.received.get g)
                ∧ t.gang.waiting.get g = (if new = true ∧ s.gang.state = .joined
                    then some { entry := k.vector.get g, point := some (k.vector.get g).effective, urgency := (k.vector.get g).urgency }
                    else s.gang.waiting.get g))))
  ∧ ∀ (s : State) (g : Fin 8) (r : Rig) (w : Waiting) (pt : ShowPos) (candidate cueChanged : Bool),
      let x := s.ctl.groups.get g
      let dest := w.entry.source
      let pos := s.align.prog.pos
      let noted : Gang := { s.gang with applied := s.gang.applied.set g (some w.entry.order), waiting := s.gang.waiting.set g none
                                        emergency := s.gang.emergency.set g false }
      s.gang.role = .follower → s.gang.state = .joined → s.align.prog.state ≠ .stopped → g ≠ 0 → x.st = .settled r.source →
      ((s.health.get r).state = .healthy ∨ (s.health.get r).state = .suspect) → s.stepOf r ≠ .outOfStep →
      x.op = none → x.health = none → x.revert = none → x.placed = none → x.timer = none →
      s.gang.waiting.get g = some w → w.point = some pt →
      let run := State.groupStep candidate cueChanged s g
      let switched (y : SwitchOutcome) (f : FaultRecord) : State := { s with
        ctl := { s.ctl with
          groups := s.ctl.groups.set g { x with
            st := if 0 < w.entry.fade then .fading r.source dest w.entry.fade s.framer.count false else .settled dest
            h := 0, healthMoved := true }
          journal := {
            entries := (if 64 ≤ s.ctl.journal.entries.length then s.ctl.journal.entries.drop 1 else s.ctl.journal.entries) ++ [
              { number := s.ctl.journal.next, group := g, origin := r.source, dest := dest, cause := .gang, level := 0
                urgency := w.urgency, outcome := y, pos := pos, count := s.framer.count }]
            next := s.ctl.journal.next + 1 } }
        gang := noted
        fault := f }
      (pt.cue = pos.cue → pos.pos.toNat < pt.pos.toNat → run = s)
      ∧ (dest = r.source → (pos = pt ∨ (pt.cue = pos.cue ∧ pt.pos.toNat < pos.pos.toNat)) → run = { s with gang := noted })
      ∧ (dest ≠ r.source → s.eligible g dest = true →
          (pos = pt → run = switched .seamless s.fault)
          ∧ (pt.cue = pos.cue → pt.pos.toNat < pos.pos.toNat →
              (w.urgency = .immediate → run = switched .seamless s.fault)
              ∧ (w.urgency = .atBoundary → run = switched .late (captured s .gangLate (.group g) (.order w.entry.order pos)))))

/-- GANG_REPORT and UNIT_ABSENT: a leader's rows take a report's entries, each that of its position, the first where a position comes
twice; a follower keeps the report to relay; and a row whose silence reaches 40 becomes absent with GANG LOST and keeps its last entry (R147,
R148; the moment of UNIT_ABSENT, log 1). -/
def Obligations.ReportTableFollowsReports : Prop :=
  ∀ s : State, (s.framer.run = .gangWait ∨ s.framer.run = .running) →
    ((s.links.get .gd).state = .up → s.gang.role = .follower → ∀ es, exec (.gangReport .gd es) s = .next { s with gang := { s.gang with below := es } })
    ∧ ((s.links.get .gd).state = .up → s.gang.role = .leader → ∀ es : List UnitEntry,
      ∃ t, exec (.gangReport .gd es) s = .next t ∧ t = { s with gang := { s.gang with rows := t.gang.rows, size := t.gang.size } }
        ∧ (∀ n : Fin 3, t.gang.rows.get n = match es.find? (fun x => x.position == n.val + 1) with
            | some x => { present := true, silence := 0, last := some x, taken := true }
            | none => s.gang.rows.get n)
        ∧ t.gang.size = 1 + t.gang.presentCount)
    ∧ (s.gang.role = .leader → ∀ n : Fin 3, (s.gang.rows.get n).present = true → (s.gang.rows.get n).taken = false →
        (s.gang.rows.get n).silence = 39 →
      ∃ t, exec (.unitAbsent n) s = .next t
        ∧ t.gang.rows = s.gang.rows.set n { s.gang.rows.get n with present := false, silence := 40, taken := false }
        ∧ t.gang.size = 1 + t.gang.presentCount
        ∧ t.fault = captured s .gangLost (.unitN (n.val + 1)) (.gangState ((s.gang.rows.get n).last.map (fun e => e.state)))
        ∧ t = { s with gang := { s.gang with rows := t.gang.rows, size := t.gang.size }, fault := t.fault })

/-- FOLLOWER_JOINED and FOLLOWER_ISOLATED: the gang state, every group's requests, timers and placement discarded with h 0, the emergency
flags cleared, the adoption of the received vector (a waiting entry at the first switch position past the program position, or at once from
an ineligible source), and GANG LOST (R95, R146, R155, R156, R157; the moment of each row, log 1; a fade or source is left as it is). -/
def Obligations.FollowerJoinsAndIsolates : Prop :=
  ∀ s : State, (s.framer.run = .gangWait ∨ s.framer.run = .running) → s.gang.role = .follower →
    let cleared (t : State) : Prop := ∀ g, t.gang.emergency.get g = false
      ∧ t.ctl.groups.get g = { st := (s.ctl.groups.get g).st, h := 0, op := none, health := none, healthMoved := false, revert := none
                               timer := none, limitReached := false, placed := none }
    ((s.gang.state = .discovering ∨ s.gang.state = .isolated) → s.gang.run = 40 →
      ∃ t, exec .followerJoined s = .next t ∧ cleared t ∧ t.framer = { s.framer with run := .running }
        ∧ (∀ g,
            let now := (s.ctl.groups.get g).st.current
            let pos := s.align.prog.pos
            match s.gang.received.get g with
            | none => t.gang.waiting.get g = none ∧ t.gang.applied.get g = s.gang.applied.get g
            | some e =>
              if e.source = now then t.gang.waiting.get g = none ∧ t.gang.applied.get g = some e.order
              else t.gang.applied.get g = s.gang.applied.get g
                ∧ t.gang.waiting.get g = some (if s.eligible g now = true
                    then { entry := e, urgency := .atBoundary, point := (search s.policyInUse (pos.pos.toNat + 1)).map
                             (fun y => { cue := pos.cue, pos := BitVec.ofNat 32 y }) }
                    else { entry := e, urgency := .immediate, point := some pos }))
        ∧ t = { s with
            framer := t.framer
            gang := { s.gang with state := .joined, emergency := t.gang.emergency, waiting := t.gang.waiting, applied := t.gang.applied }
            ctl := { s.ctl with groups := t.ctl.groups } })
    ∧ (s.gang.state = .joined → s.gang.silence = 39 → s.gang.tickTaken = false →
      ∃ t, exec .followerIsolated s = .next t ∧ cleared t ∧ (∀ g, t.gang.waiting.get g = none)
        ∧ t.fault = captured s .gangLost .gu (.leaderPos (if s.gang.everTick then some s.gang.leaderPos else none))
        ∧ t = { s with
            gang := { s.gang with state := .isolated, silence := 40, run := 0, emergency := t.gang.emergency, waiting := t.gang.waiting }
            fault := t.fault
            ctl := { s.ctl with groups := t.ctl.groups } })

/-! ## The judgement of a request (10) -/

/-- R168 and steps 2 and 3 of R176: a CONTROL on a link that is not UP, on a port granted NONE or for another unit changes nothing. -/
def Obligations.IgnoredRequestsChangeNothing : Prop :=
  ∀ (s : State) (h : CtlHead),
    ((s.links.get h.port.port).state ≠ .up ∨ s.mgmt.grants.get h.port = .none
      ∨ (h.addr ≠ BitVec.ofNat 8 s.gang.position ∧ h.addr ≠ 15)) →
    (∀ q : Request, exec (q.command h) s = .next s) ∧ ∀ kind, exec (.unknownRequest h kind) s = .next s

/-- R176 steps 4 to 11 in their order: the first that applies gives the reply, which changes nothing else; past them the owner decides. -/
def Obligations.FirstRefusalAnswers : Prop :=
  ∀ (s : State) (h : CtlHead), (s.links.get h.port.port).state = .up → s.mgmt.grants.get h.port ≠ .none →
    (h.addr = BitVec.ofNat 8 s.gang.position ∨ h.addr = 15) → s.framer.run ≠ .off →
    (∀ q : Request,
      let k := q.kind
      let first : Option Completion :=
        if (s.mgmt.inService.get h.port).isSome then some .busy
        else if h.addr = 15 ∧ k.farEnd = false then some .malformed
        else if s.mgmt.grants.get h.port = .observe ∧ k.isRead = false then some .denied
        else if (s.framer.run = .hold ∨ s.framer.run = .load) ∧ k.early = false then some .busy
        else if s.mgmt.lock = true ∧ k.underLock = true then some .locked
        else if h.lengthOk = false then some .malformed
        else none
      (∀ c, first = some c → exec (q.command h) s = .next (replied s h (BitVec.ofNat 8 k.code) c .none))
      ∧ (first = none ↔ Reaches s h k))
    ∧ ∀ kind, exec (.unknownRequest h kind) s
        = .next (replied s h kind (if (s.mgmt.inService.get h.port).isSome then .busy else .malformed) .none)

/-! ## Reads -/

/-- R162: READ FAULT, from a FULL or OBSERVE port, locked or not and at address 15 too, returns the whole record and changes nothing. -/
def Obligations.ReadFaultReturnsTheRecord : Prop :=
  ∀ (s : State) (h : CtlHead), (s.links.get h.port.port).state = .up → s.mgmt.grants.get h.port ≠ .none →
    (h.addr = BitVec.ofNat 8 s.gang.position ∨ h.addr = 15) → s.mgmt.inService.get h.port = none → h.lengthOk = true →
    exec (.readFault h) s = .next (replied s h 7 .done (.fault s.fault))
    ∧ (RecordOk s.fault → s.fault.later.Pairwise (fun x y => x.code < y.code)
        ∧ (s.fault.locked = true ↔ ∃ x, s.fault.first = some x) ∧ (s.fault.second = true ↔ s.fault.later ≠ []))

/-- R23: READ HEALTH, from a FULL or OBSERVE port, locked or not and at address 15 too, returns the rig's whole health record and
changes nothing; a rig parameter other than A or B is OUT OF RANGE. -/
def Obligations.ReadHealthReturnsTheRecord : Prop :=
  ∀ (s : State) (h : CtlHead) (rig : RigArg), (s.links.get h.port.port).state = .up → s.mgmt.grants.get h.port ≠ .none →
    (h.addr = BitVec.ofNat 8 s.gang.position ∨ h.addr = 15) → s.mgmt.inService.get h.port = none → h.lengthOk = true →
    exec (.readHealth h rig) s = .next (match rig with
      | .a => replied s h 3 .done (.health s.health.a)
      | .b => replied s h 3 .done (.health s.health.b)
      | _ => replied s h 3 .outOfRange .none)

/-- IDENTIFY, READ STATUS, READ GROUP, READ JOURNAL, BED LIST and BED STATUS answer from the records named here and change nothing else
(R65, R97, R140, R186): each part of READ STATUS with R20's step state of the timing rig, R172's clock source, R137's bed readiness and R5's
E; at most four journal entries, at successive indices from the start and on from index 0; BED STATUS's counts. The codes and serial number
of IDENTIFY are unspecified constants (log 15); READ STATUS PORTS shows its own port in service (log 11); E from an anchor to the next output period is log 58's. -/
def Obligations.ReadsAnswerAndChangeNothing : Prop :=
  ∀ (s : State) (h : CtlHead),
    let prog := s.align.prog
    let source := s.ctl.groups.g0.st.current
    let acts := s.framer.run = .gangWait ∨ s.framer.run = .running
    let held (c page : Nat) : Bool := s.player.window.any (fun x => x.clip == c && x.page == page)
    let bedReady : Bool := match s.player.tracked with
      | none => false
      | some (c, start) => match s.store.dir.find? (fun e => e.id == c) with
        | none => false
        | some e =>
          let off : Int := (prog.pos.pos.toNat : Int) - (start : Int)
          if off < 0 then true
          else if off.toNat < e.length then held c (off.toNat / 16)
          else if 0 < e.loopLength then held c ((e.loopStart + (off.toNat - e.loopStart) % e.loopLength) / 16)
          else true
    let report (n : Fin 8) : GroupReport :=
      let x := s.ctl.groups.get n
      { st := (match x.st with
          | .settled y => .settled y
          | .fading o d f start ret => .fading o d f start (s.framer.count - start).toNat ret)
        h := x.h, op := x.op, health := x.health, revert := x.revert, timer := x.timer, limitReached := x.limitReached
        placed := x.placed }
    let rig (r : Rig) : RigStatus :=
      let a := s.align.rigs.get r
      { link := (s.links.get r.port).state, breaks := (s.links.get r.port).breaks, health := (s.health.get r).state
        step := if source = r.source then .inStep else a.step.state
        streak := a.step.streak, miss := a.step.miss, lastSkew := a.step.lastSkew }
    let control (p : Port) (q : CtlPort) : PortStatus :=
      { link := (s.links.get p).state, breaks := (s.links.get p).breaks, grant := some (s.mgmt.grants.get q)
        inService := decide (q = h.port ∨ s.mgmt.inService.get q ≠ none ∨ (s.framer.holders.get q).short ≠ [])
        completions := (s.framer.holders.get q).completion.length }
    let gangPort (p : Port) : PortStatus :=
      { link := (s.links.get p).state, breaks := (s.links.get p).breaks, grant := none, inService := false, completions := 0 }
    let unit : UnitStatus :=
      { run := s.framer.run, bypass := s.framer.bypass
        clock := if acts ∧ source = .a ∧ s.links.ra.state = .up then .link .a
          else if acts ∧ source = .b ∧ s.links.rb.state = .up then .link .b else .localOsc
        count := s.framer.count, lock := s.mgmt.lock, commit := s.routes.commit, bedReady := bedReady, saving := s.store.save.isSome }
    let program : ProgramStatus :=
      { state := prog.state, pos := prog.pos, due := prog.due, dInForce := prog.dInForce
        e := if prog.state = .stopped then none else some (match prog.eSlot.or s.framer.periodSlot, prog.due with
          | some k, some d => Word.diff k d
          | _, _ => 0)
        held := prog.held, anchorPending := prog.anchorPending, stopHold := prog.stopHold, grace := prog.grace
        stopMarks := { a := s.align.rigs.a.stopMark, b := s.align.rigs.b.stopMark } }
    let gang : GangStatus :=
      { role := s.gang.role, state := s.gang.state, position := s.gang.position, size := s.gang.size, silence := s.gang.silence
        run := s.gang.run, leaderPos := s.gang.leaderPos, received := s.gang.received.map (fun e => e.map (fun x => x.order))
        applied := s.gang.applied, waiting := s.gang.waiting, emergency := s.gang.emergency, rows := s.gang.rows }
    let status (part : StatusPart) (d : StatusData) : Prop := exec (.readStatus h part) s = .next (replied s h 2 .done (.status d))
    let numbered (i : Nat) : Option JournalEntry := s.ctl.journal.entries.find? (fun e => e.number.toNat % 64 == i)
    (Reaches s h .identify → exec (.identify h) s = .next (replied s h 1 .done
      (.identity Config.vendorCode Config.partCode Config.siliconRevision Config.serialNumber s.gang.position s.gang.size)))
    ∧ (Reaches s h .readStatus →
        status .unit (.unit unit) ∧ status .program (.program program) ∧ status .rigs (.rigs (rig .a) (rig .b) s.ctl.stamps)
        ∧ status .groupsLow (.groups (report 0) (report 1) (report 2) (report 3))
        ∧ status .groupsHigh (.groups (report 4) (report 5) (report 6) (report 7))
        ∧ status .gang (.gang gang)
        ∧ status .ports (.ports { ra := control .ra .ra, rb := control .rb .rb, o1 := control .o1 .o1, o2 := control .o2 .o2
                                  gu := gangPort .gu, gd := gangPort .gd })
        ∧ exec (.readStatus h .other) s = .next (replied s h 2 .outOfRange .none))
    ∧ (Reaches s h .readGroup → ∀ n : Nat,
        (∀ hn : n < 8, exec (.readGroup h n) s
          = .next (replied s h 18 .done (.group (s.ctl.policies.get ⟨n, hn⟩) (report ⟨n, hn⟩))))
        ∧ (7 < n → exec (.readGroup h n) s = .next (replied s h 18 .outOfRange .none)))
    ∧ (Reaches s h .readJournal → ∀ start, exec (.readJournal h start) s = .next (replied s h 9 .done
        (.journal s.ctl.journal.entries.length (s.ctl.journal.entries.getLast?.map (fun e => e.number))
          ((((List.range 64).map (fun i => (start + i) % 64)).filterMap numbered).take 4))))
    ∧ (Reaches s h .bedList → ∀ start,
        (1 ≤ start → start ≤ 255 → exec (.bedList h start) s = .next (replied s h 29 .done
          (.clips ((s.store.dir.filter (fun e => decide (start ≤ e.id))).take 12)
            (decide (12 < (s.store.dir.filter (fun e => decide (start ≤ e.id))).length)) s.store.dir.length)))
        ∧ (start = 0 → exec (.bedList h start) s = .next (replied s h 29 .outOfRange .none)))
    ∧ (Reaches s h .bedStatus → exec (.bedStatus h) s = .next (replied s h 30 .done (.bedStatus
        { engine := (match s.store.engine with
            | none => .idle
            | some x => match x.op with
              | .erase _ => if x.suspended then .eraseSuspended else .erase
              | _ => .program)
          job := s.store.engine.map (fun x => x.job)
          spares := s.store.spares.length, erasedSpares := (s.store.spares.filter (fun x => x.2)).length
          retired := s.store.retired.length, backlog := s.store.backlog.length, scrubQueue := s.store.scrubQueue.length
          erased := ((List.range 4096).filter (fun l => s.store.stateOf l == .erased)).length
          damaged := ((List.range 4096).filter (fun l => s.store.stateOf l == .damaged)).length
          openClip := s.store.dir.find? (fun e => e.state == .writing), saving := s.store.save.isSome })))

/-- READ BAD FRAME returns the rig's capture with its locked flag, and then clears that flag alone (R41). -/
def Obligations.ReadBadFrameUnlocks : Prop :=
  ∀ (s : State) (h : CtlHead), Reaches s h .readBadFrame →
    (∀ r : Rig, exec (.readBadFrame h (match r with | .a => .a | .b => .b)) s
      = .next (replied { s with health := s.health.set r { s.health.get r with capture := { (s.health.get r).capture with locked := false } } }
          h 6 .done (.capture (s.health.get r).capture)))
    ∧ exec (.readBadFrame h .both) s = .next (replied s h 6 .outOfRange .none)
    ∧ exec (.readBadFrame h .other) s = .next (replied s h 6 .outOfRange .none)

/-- READ CUE and LIST CUES (R60). -/
def Obligations.CueReadsAnswer : Prop :=
  ∀ (s : State) (h : CtlHead),
    (Reaches s h .readCue → ∀ c : Nat,
      let staged : Option StagedAction := match s.cues.staged with | some x => if x.cue = c then some x.action else none | none => none
      (∀ r, s.cues.records.find? (fun r => r.cue == c) = some r →
        exec (.readCue h c) s = .next (replied s h 11 .done (.cue (some r) staged)))
      ∧ ((∀ r ∈ s.cues.records, r.cue ≠ c) → exec (.readCue h c) s = .next (replied s h 11 .notFound (.cue none staged))))
    ∧ (Reaches s h .listCues → ∀ start : Nat,
      let from_ := (s.cues.records.map (fun r => r.cue)).filter (fun c => decide (start ≤ c))
      (start = 0 → exec (.listCues h start) s = .next (replied s h 13 .outOfRange .none))
      ∧ (1 ≤ start → start ≤ 65535 → exec (.listCues h start) s = .next (replied s h 13 .done
          (.cueList (from_.take 40) (decide (40 < from_.length)) s.cues.occupancy (s.cues.staged.map (fun x => x.cue))))))

/-- R103: READ ROUTE, from a FULL or OBSERVE port and locked or not, returns the named entries in channel order and changes nothing; any
other bank, count or range is OUT OF RANGE. -/
def Obligations.ReadRouteReturnsEntries : Prop :=
  ∀ (s : State) (h : CtlHead) (first count : Nat), (s.links.get h.port.port).state = .up → s.mgmt.grants.get h.port ≠ .none →
    (h.addr = BitVec.ofNat 8 s.gang.position ∨ h.addr = 15) → s.mgmt.inService.get h.port = none → h.lengthOk = true →
    (s.framer.run = .gangWait ∨ s.framer.run = .running) →
    let fits := 1 ≤ count ∧ count ≤ 32 ∧ first + count ≤ 64
    (fits → exec (.readRoute h .active first count) s = .next (replied s h 15 .done (.routes ((s.routes.active.drop first).take count))))
    ∧ (fits → exec (.readRoute h .shadow first count) s = .next (replied s h 15 .done (.routes ((s.routes.shadow.drop first).take count))))
    ∧ (¬fits → ∀ bank, exec (.readRoute h bank first count) s = .next (replied s h 15 .outOfRange .none))
    ∧ exec (.readRoute h .other first count) s = .next (replied s h 15 .outOfRange .none)

/-! ## Requests of the monitors and the fault record -/

/-- CLEAR FAULT empties the record, answers with the record as it stood, and changes nothing else (R163). -/
def Obligations.ClearFaultEmptiesTheRecord : Prop :=
  ∀ (s : State) (h : CtlHead), Reaches s h .clearFault →
    exec (.clearFault h) s = .next (replied { s with fault := { first := none, later := [] } } h 8 .done (.fault s.fault))

/-- SET HEALTH LIMITS: a set that fails a check changes no limit; a good one replaces the named rigs' limits, lowers a running recovery
hold, and starts the pilot hold anew when the pilot channel or floor changes (R43; that the hold is lowered, and the pilot hold count and
PILOT LOST cleared, as the request is accepted is the model's choice, log 51). -/
def Obligations.SetHealthLimitsReplaces : Prop :=
  ∀ (s : State) (h : CtlHead) (l : HealthLimits), Reaches s h .setHealthLimits →
    let ok := 2 ≤ l.gap ∧ l.gap ≤ 400 ∧ 1 ≤ l.warn ∧ l.warn ≤ 1023 ∧ 2 ≤ l.corrupt ∧ l.corrupt ≤ 1024 ∧ l.warn < l.corrupt
      ∧ (∀ c, l.pilotChannel = some c → c ≤ 63) ∧ 1 ≤ l.pilotFloor ∧ l.pilotFloor ≤ 8388607 ∧ 4 ≤ l.pilotHold ∧ l.pilotHold ≤ 4000
      ∧ 40 ≤ l.qualify ∧ l.qualify ≤ 40000 ∧ 400 ≤ l.recovery ∧ l.recovery ≤ 400000
    (¬ok → ∀ rig, exec (.setHealthLimits h rig l) s = .next (replied s h 4 .outOfRange .none))
    ∧ exec (.setHealthLimits h .other l) s = .next (replied s h 4 .outOfRange .none)
    ∧ (ok → ∀ rig, rig ≠ .other →
      ∃ v : Pair HealthRec, exec (.setHealthLimits h rig l) s = .next (replied { s with health := v } h 4 .done .none)
        ∧ ∀ r : Rig,
          if rig = .both ∨ (rig = .a ∧ r = .a) ∨ (rig = .b ∧ r = .b) then
            (v.get r).limits = l ∧ (v.get r).state = (s.health.get r).state ∧ (v.get r).qual = (s.health.get r).qual
            ∧ (v.get r).bucket = (s.health.get r).bucket ∧ (v.get r).gap = (s.health.get r).gap
            ∧ (l.pilotChannel = (s.health.get r).limits.pilotChannel → l.pilotFloor = (s.health.get r).limits.pilotFloor →
                v.get r = { s.health.get r with limits := l, recovery := (s.health.get r).recovery.map (fun n => min n l.recovery) })
            ∧ (l.pilotChannel ≠ (s.health.get r).limits.pilotChannel ∨ l.pilotFloor ≠ (s.health.get r).limits.pilotFloor →
                (v.get r).pilotCount = 0 ∧ (v.get r).hard.pilotLost = false)
          else v.get r = s.health.get r)

/-- REQUALIFY RIG by the rig's state: refused in FAILED without requalify ready, and otherwise the patch count, the repeat-stall flag and
the soft-jump timer are cleared, a QUALIFYING rig counts anew and a ready FAILED one is QUALIFYING; a STOPPED, HEALTHY or SUSPECT rig is
graded anew only where a soft JUMP ends with it (R27, R42). -/
def Obligations.RequalifyActsOnTheState : Prop :=
  ∀ (s : State) (h : CtlHead) (r : Rig), Reaches s h .requalifyRig →
    let m := s.health.get r
    let cmd : Instr := .requalifyRig h (match r with | .a => .a | .b => .b)
    let cleared : HealthRec := { m with patches := 0, repeatStall := false, softJump := none }
    (m.state = .failed → m.requalifyReady = false → exec cmd s = .next (replied s h 5 .busy .none))
    ∧ (m.state = .offline → exec cmd s = .next (replied { s with health := s.health.set r cleared } h 5 .done .none))
    ∧ (m.state = .qualifying → exec cmd s = .next (replied { s with health := s.health.set r { cleared with qual := 0 } } h 5 .done .none))
    ∧ (m.state = .failed → m.requalifyReady = true →
        exec cmd s = .next (replied { s with health := s.health.set r { cleared with
          qual := 0, requalifyReady := false, state := .qualifying
          event := some { before := .failed, after := .qualifying, reason := .requested } } } h 5 .done .none))
    ∧ (m.state = .stopped ∨ m.state = .healthy ∨ m.state = .suspect →
        (m.softJump = none → exec cmd s = .next (replied { s with health := s.health.set r cleared } h 5 .done .none))
        ∧ (m.softJump ≠ none →
          ∃ v st, exec cmd s = .next (replied { s with health := v, ctl := { s.ctl with stamps := st } } h 5 .done .none)
            ∧ (v.get r).patches = 0 ∧ (v.get r).repeatStall = false ∧ (v.get r).softJump = none ∧ v.get r.other = s.health.get r.other
            ∧ (v.get r).state = (if m.playing then (if m.warn then .suspect else .healthy) else .stopped)))

/-! ## The cue map (03) -/

/-- R45: the record WRITE CUE takes, check by check; a record that fails one is OUT OF RANGE with the number of the first failing check,
and a wrong zone count is MALFORMED; both change nothing. -/
def Obligations.WriteCueChecksTheRecord : Prop :=
  ∀ (r : CueRecord),
    let p := r.policy
    let checks : List Prop :=
      [1 ≤ r.cue ∧ r.cue ≤ 65535,
       ∀ n, p.length = some n → 1 ≤ n ∧ n ≤ 4294967295,
       p.framesPerBeat = 0 ∨ (240 ≤ p.framesPerBeat ∧ p.framesPerBeat ≤ 24000),
       p.beatOffset < p.framesPerBeat ∨ (p.framesPerBeat = 0 ∧ p.beatOffset = 0),
       p.zones.length ≤ 4 ∧ ∀ z ∈ p.zones, z.1 < z.2 ∧ z.2 ≤ 4294967295,
       ∀ i z y, p.zones[i]? = some z → p.zones[i + 1]? = some y → z.2 ≤ y.1,
       ∀ n z, p.length = some n → p.zones.getLast? = some z → z.2 ≤ n,
       ∀ c, p.clip = some c → 1 ≤ c ∧ c ≤ 255]
    (CueRecordValid r = true ↔ ∀ c ∈ checks, c)
    ∧ (∀ i, firstBadField r = some (i + 1) ↔ ∃ c, checks[i]? = some c ∧ ¬c ∧ ∀ (j : Nat) d, j < i → checks[j]? = some d → d)
    ∧ ∀ (s : State) (h : CtlHead), Reaches s h .writeCue →
        (∀ n, n ≠ p.zones.length → exec (.writeCue h r n) s = .next (replied s h 10 .malformed .none))
        ∧ ∀ i, firstBadField r = some i → exec (.writeCue h r p.zones.length) s = .next (replied s h 10 .outOfRange (.field i))

/-- R49: WRITE CUE of a valid record for a cue that is not the cue in use applies at once, with staged clear and a record-changed notice,
unless the map is full. -/
def Obligations.WriteCueAppliesAtOnce : Prop :=
  ∀ (s : State) (h : CtlHead) (r : CueRecord), Reaches s h .writeCue → CueRecordValid r = true → s.cues.inUse ≠ some r.cue →
    ((∃ x ∈ s.cues.records, x.cue = r.cue) ∨ s.cues.occupancy < 256 →
      exec (.writeCue h r r.policy.zones.length) s
        = .next (replied (State.recordChanged { s with cues := { s.cues with records := putRecord r s.cues.records } } r.cue)
            h 10 .done (.staged false)))
    ∧ ((¬∃ x ∈ s.cues.records, x.cue = r.cue) → 256 ≤ s.cues.occupancy →
      exec (.writeCue h r r.policy.zones.length) s = .next (replied s h 10 .full .none))
    ∧ (s.cues.records.Pairwise (fun x y => x.cue < y.cue) →
      (∀ x, x ∈ putRecord r s.cues.records ↔ x = r ∨ (x ∈ s.cues.records ∧ x.cue ≠ r.cue))
      ∧ (putRecord r s.cues.records).Pairwise (fun x y => x.cue < y.cue))
    ∧ ∃ v, State.recordChanged { s with cues := { s.cues with records := putRecord r s.cues.records } } r.cue
        = { s with cues := { s.cues with records := putRecord r s.cues.records }, player := v }

/-- WRITE CUE and DELETE CUE for the cue in use: the staged slot and the reply after each, by R51's table; the map is not changed. -/
def Obligations.EditsOfTheCueInUseAreStaged : Prop :=
  ∀ (s : State) (h : CtlHead) (r : CueRecord), CueRecordValid r = true → s.cues.inUse = some r.cue →
    let has := ∃ x ∈ s.cues.records, x.cue = r.cue
    let holdsNew := ∃ x, s.cues.staged = some x ∧ x.isNew = true
    let slot (v : Option Staged) : State := { s with cues := { s.cues with staged := v } }
    (Reaches s h .writeCue →
      (has → exec (.writeCue h r r.policy.zones.length) s
        = .next (replied (slot (some { cue := r.cue, action := .write r.policy, isNew := false })) h 10 .done (.staged true)))
      ∧ (¬has → s.cues.occupancy < 256 ∨ holdsNew → exec (.writeCue h r r.policy.zones.length) s
        = .next (replied (slot (some { cue := r.cue, action := .write r.policy, isNew := true })) h 10 .done (.staged true)))
      ∧ (¬has → 256 ≤ s.cues.occupancy → ¬holdsNew → exec (.writeCue h r r.policy.zones.length) s = .next (replied s h 10 .full .none)))
    ∧ (Reaches s h .deleteCue →
      (has → exec (.deleteCue h r.cue) s
        = .next (replied (slot (some { cue := r.cue, action := .delete, isNew := false })) h 12 .done (.staged true)))
      ∧ (¬has → s.cues.staged ≠ none → exec (.deleteCue h r.cue) s = .next (replied (slot none) h 12 .done (.staged true)))
      ∧ (¬has → s.cues.staged = none → exec (.deleteCue h r.cue) s = .next (replied s h 12 .notFound .none)))

/-- R50: DELETE CUE for a cue that is not the cue in use removes its record at once, with a record-changed notice, or finds none; the
clips are not touched. -/
def Obligations.DeleteCueAppliesAtOnce : Prop :=
  ∀ (s : State) (h : CtlHead) (c : Nat), Reaches s h .deleteCue → s.cues.inUse ≠ some c →
    let left := { s with cues := { s.cues with records := s.cues.records.filter (fun r => decide (r.cue ≠ c)) } }
    ((∃ x ∈ s.cues.records, x.cue = c) →
      exec (.deleteCue h c) s = .next (replied (State.recordChanged left c) h 12 .done (.staged false)))
    ∧ ((¬∃ x ∈ s.cues.records, x.cue = c) → exec (.deleteCue h c) s = .next (replied s h 12 .notFound .none))
    ∧ ∃ v, State.recordChanged left c = { left with player := v }

/-! ## Routes, policies and operator requests (04, 05) -/

/-- WRITE ROUTE writes the shadow bank alone, whole or not at all, by R99's ranges of a group, two rig channels and a bed track, and
COMMIT ROUTES sets the pending commit alone (R100, R101; the index of the first bad entry counts from 0, and a count or range outside its
bounds names none, log 46). At an output period a pending commit that is due copies the shadow bank whole into the active bank: NOW at the
first one, AT CUE CHANGE at the first that finds the program STOPPED or whose program cue differs from the one before (R102). -/
def Obligations.RouteRequestsWriteTheirOwn : Prop :=
  let valid (e : RouteEntry) : Prop :=
    e.group ≤ 7 ∧ (∀ c, e.rigA = some c → c ≤ 63) ∧ (∀ c, e.rigB = some c → c ≤ 63) ∧ ∀ k, e.track = some k → k ≤ 3
  (∀ (s : State) (h : CtlHead),
    (Reaches s h .writeRoute → ∀ (first : Nat) (l : List RouteEntry),
      (∀ n, n ≠ l.length → exec (.writeRoute h first n l) s = .next (replied s h 14 .malformed .none))
      ∧ (l.length = 0 ∨ 32 < l.length ∨ 64 < first + l.length →
          exec (.writeRoute h first l.length l) s = .next (replied s h 14 .outOfRange .none))
      ∧ (1 ≤ l.length → l.length ≤ 32 → first + l.length ≤ 64 →
        ((∀ e ∈ l, valid e) →
          exec (.writeRoute h first l.length l) s = .next (replied
            { s with routes := { s.routes with shadow := s.routes.shadow.take first ++ l ++ s.routes.shadow.drop (first + l.length) } }
            h 14 .done .none))
        ∧ ∀ i e, l[i]? = some e → ¬valid e → (∀ (j : Nat) d, j < i → l[j]? = some d → valid d) →
            exec (.writeRoute h first l.length l) s = .next (replied s h 14 .outOfRange (.field i))))
    ∧ (Reaches s h .commitRoutes →
      (∀ t, exec (.commitRoutes h (some t)) s = .next (replied { s with routes := { s.routes with commit := some t } } h 16 .done .none))
      ∧ exec (.commitRoutes h none) s = .next (replied s h 16 .outOfRange .none)))
  ∧ ∀ (s : State) (i : PeriodInput), (s.framer.run = .gangWait ∨ s.framer.run = .running) → s.framer.resetReq = none →
      let committed : RouteTable := { active := s.routes.shadow, shadow := s.routes.shadow, commit := none }
      ∃ t, exec (.outputPeriod i) s = .next t
        ∧ (s.routes.commit = none → t.routes = s.routes)
        ∧ (s.routes.commit = some .now → t.routes = committed)
        ∧ (s.routes.commit = some .atCueChange →
            t.routes = if s.align.prog.state = .stopped ∨ (t.align.prog.state ≠ .stopped ∧ t.align.prog.pos.cue ≠ s.align.prog.prevCue)
              then committed else s.routes)

/-- WRITE GROUP: checked whole against the ranges of section 4.2, levels written as 0 kept with the reply KEPT, group 0's items stored for
group 0 alone, a pending REVERT dropped from a group now on its first source, and D in force loaded while STOPPED (R5, R64, R143). -/
def Obligations.WriteGroupReplacesThePolicy : Prop :=
  ∀ (s : State) (h : CtlHead) (g : Fin 8) (p : GroupPolicy), Reaches s h .writeGroup →
    let old := s.ctl.policies.get g
    let kept (x y : Nat) : Nat := if y = 0 then x else y
    let v : GroupPolicy := { p with
      operatorLevel := kept old.operatorLevel p.operatorLevel
      healthLevel := kept old.healthLevel p.healthLevel
      revertLevel := kept old.revertLevel p.revertLevel
      hardAllowed := if g = 0 then p.hardAllowed else old.hardAllowed
      dSet := if g = 0 then p.dSet else old.dSet
      startGrace := if g = 0 then p.startGrace else old.startGrace
      gangLead := if g = 0 then p.gangLead else old.gangLead }
    let inRange : Prop :=
      1 ≤ p.fallback.length ∧ p.fallback.length ≤ 3 ∧ p.fallback.Nodup ∧ .mute ∉ p.fallback
      ∧ p.operatorLevel ≤ 3 ∧ p.healthLevel ≤ 3 ∧ p.revertLevel ≤ 3 ∧ p.fade ≤ 32 ∧ p.deferral ≤ 40000
      ∧ 400 ≤ p.revertSettle ∧ p.revertSettle ≤ 400000
      ∧ (g = 0 → 4 ≤ p.dSet ∧ p.dSet ≤ 32 ∧ 4 ≤ p.startGrace ∧ p.startGrace ≤ 400 ∧ 2 ≤ p.gangLead ∧ p.gangLead ≤ 16)
    (¬inRange → exec (.writeGroup h g.val p) s = .next (replied s h 17 .outOfRange .none))
    ∧ (∀ n, 7 < n → exec (.writeGroup h n p) s = .next (replied s h 17 .outOfRange .none))
    ∧ (inRange →
      ∃ u, exec (.writeGroup h g.val p) s = .next (replied u h 17
            (if p.operatorLevel = 0 ∨ p.healthLevel = 0 ∨ p.revertLevel = 0 then .kept else .done) .none)
        ∧ u.ctl.policies = s.ctl.policies.set g v
        ∧ (p.fallback.head? ≠ some (s.ctl.groups.get g).st.current → u.ctl.groups = s.ctl.groups)
        ∧ (p.fallback.head? = some (s.ctl.groups.get g).st.current →
            (u.ctl.groups.get g).revert = none ∧ (u.ctl.groups.get g).op = (s.ctl.groups.get g).op
            ∧ (u.ctl.groups.get g).h = (s.ctl.groups.get g).h ∧ (u.ctl.groups.get g).st = (s.ctl.groups.get g).st
            ∧ ∀ j, j ≠ g → u.ctl.groups.get j = s.ctl.groups.get j)
        ∧ u.align.prog.dInForce = (if g = 0 ∧ s.align.prog.state = .stopped then p.dSet else s.align.prog.dInForce)
        ∧ u = { s with ctl := { s.ctl with policies := u.ctl.policies, groups := u.ctl.groups }
                       align := { s.align with prog := { s.align.prog with dInForce := u.align.prog.dInForce } } })

/-- FORCE SOURCE and RELEASE FORCE on a unit that decides for itself: each named group's OPERATOR slot and h, and no other group's, and an
empty set of groups is OUT OF RANGE (R77, R78); a JOINED or DISCOVERING follower answers NOT LEADER whatever the parameters (R178, in the
order of log 25). -/
def Obligations.OperatorRequestsActOnTheirGroups : Prop :=
  ∀ (s : State) (h : CtlHead) (gs : List (Fin 8)) (x : Source) (u : Urgency) (hard : Bool), gs.Nodup →
    let follows := s.gang.role = .follower ∧ (s.gang.state = .joined ∨ s.gang.state = .discovering)
    let asked (g : Fin 8) : SwitchReq :=
      { target := some x, urgency := u, level := (s.ctl.policies.get g).operatorLevel, hard := hard, latched := s.framer.count }
    (Reaches s h .forceSource →
      (follows → exec (.forceSource h gs (some x) (some u) hard) s = .next (replied s h 19 .notLeader .none))
      ∧ (¬follows → gs = [] → exec (.forceSource h gs (some x) (some u) hard) s = .next (replied s h 19 .outOfRange .none))
      ∧ (¬follows → gs ≠ [] →
        ∃ t, exec (.forceSource h gs (some x) (some u) hard) s
            = .next (replied { s with ctl := { s.ctl with groups := t } } h 19 .done .none)
          ∧ ∀ g, (g ∉ gs → t.get g = s.ctl.groups.get g)
            ∧ (g ∈ gs → (s.ctl.groups.get g).st.current = x → (t.get g).op = none ∧ (t.get g).h = (s.ctl.policies.get g).operatorLevel)
            ∧ (g ∈ gs → (s.ctl.groups.get g).st.current ≠ x → (t.get g).h = 0 ∧ (t.get g).op = some (asked g))
            ∧ (t.get g).st = (s.ctl.groups.get g).st ∧ (t.get g).health = (s.ctl.groups.get g).health
            ∧ (t.get g).revert = (s.ctl.groups.get g).revert ∧ (t.get g).placed = (s.ctl.groups.get g).placed))
    ∧ (Reaches s h .releaseForce →
      (follows → exec (.releaseForce h gs) s = .next (replied s h 20 .notLeader .none))
      ∧ (¬follows → gs = [] → exec (.releaseForce h gs) s = .next (replied s h 20 .outOfRange .none))
      ∧ (¬follows → gs ≠ [] →
        ∃ t, exec (.releaseForce h gs) s = .next (replied { s with ctl := { s.ctl with groups := t } } h 20 .done .none)
          ∧ ∀ g, (g ∉ gs → t.get g = s.ctl.groups.get g)
            ∧ (g ∈ gs → (t.get g).op = none ∧ (t.get g).h = 0 ∧ (t.get g).st = (s.ctl.groups.get g).st
                ∧ (t.get g).health = (s.ctl.groups.get g).health ∧ (t.get g).revert = (s.ctl.groups.get g).revert
                ∧ (t.get g).placed = (s.ctl.groups.get g).placed)))

/-- STOP PROGRAM sets the stop hold in every program state; in STOPPED it drops a held anchor and idles the start grace timer, and in
RUNNING or FREE the program enters STOPPED with the staged edit applied and no cue in use (R11, R52, R54). -/
def Obligations.StopProgramStops : Prop :=
  ∀ (s : State) (h : CtlHead), Reaches s h .stopProgram →
    (s.align.prog.state = .stopped → exec (.stopProgram h) s = .next (replied
      { s with align := { s.align with prog := { s.align.prog with held := none, grace := none, stopHold := true } } } h 21 .done .none))
    ∧ (s.align.prog.state ≠ .stopped →
      ∃ t, exec (.stopProgram h) s = .next (replied t h 21 .done .none)
        ∧ t.align.prog.state = .stopped ∧ t.align.prog.pos = { cue := 0, pos := 0 } ∧ t.align.prog.due = none ∧ t.align.prog.held = none
        ∧ t.align.prog.anchorPending = false ∧ t.align.prog.grace = none ∧ t.align.prog.dInForce = s.ctl.policies.g0.dSet
        ∧ t.align.prog.stopHold = true ∧ t.cues.inUse = none ∧ t.cues.staged = none ∧ t.cues.records = s.cues.applyStaged.records
        ∧ t.player.tracked = none ∧ t.health = s.health ∧ t.links = s.links ∧ t.framer = s.framer ∧ t.routes = s.routes
        ∧ t.store = s.store ∧ t.mgmt = s.mgmt ∧ t.fault = s.fault)

/-- SHOW LOCK, SHOW UNLOCK, WRITE PORT GRANTS and RESET UNIT: the lock, the four grants when one is FULL, and the reset that waits for its
reply's slot, with nothing else changed (R182, R183, R185; of two RESET UNITs in one slot the first stands, log 37). -/
def Obligations.ManagementRequestsActAtOnce : Prop :=
  ∀ (s : State) (h : CtlHead),
    (Reaches s h .showLock → exec (.showLock h) s = .next (replied { s with mgmt := { s.mgmt with lock := true } } h 22 .done .none))
    ∧ (Reaches s h .showUnlock → exec (.showUnlock h) s = .next (replied { s with mgmt := { s.mgmt with lock := false } } h 23 .done .none))
    ∧ (Reaches s h .writePortGrants →
      (∀ a b c d : Grant, a = .full ∨ b = .full ∨ c = .full ∨ d = .full →
        exec (.writePortGrants h { ra := some a, rb := some b, o1 := some c, o2 := some d }) s
          = .next (replied { s with mgmt := { s.mgmt with grants := { ra := a, rb := b, o1 := c, o2 := d } } } h 32 .done .none))
      ∧ ∀ g : Four (Option Grant), (∃ p, g.get p = none) ∨ (∀ p, g.get p ≠ some .full) →
          exec (.writePortGrants h g) s = .next (replied s h 32 .outOfRange .none))
    ∧ (Reaches s h .resetUnit → s.framer.resetReq = none →
      exec (.resetUnit h) s = .next
        { inHand (replied s h 33 .done .none) h .resetUnit with
          framer := { (replied s h 33 .done .none).framer with resetReq := some { port := h.port, sent := false } } })
    ∧ (∀ x, Reaches s h .resetUnit → s.framer.resetReq = some x →
      exec (.resetUnit h) s = .next (inHand (replied s h 33 .done .none) h .resetUnit)
      ∧ (inHand (replied s h 33 .done .none) h .resetUnit).framer.resetReq = some x)

/-! ## Requests of the store (06, 10) -/

/-- BED OPEN: the first failing check of R120's table answers and changes nothing; past them the lowest run of ERASED sectors is
allocated to a WRITING entry, which stands in the directory in clip id order, with the filling buffer empty at page 0 and the other buffer
empty; there is no such run where the check says so, and no other sector's state changes. -/
def Obligations.BedOpenAllocates : Prop :=
  ∀ (s : State) (h : CtlHead) (clip length ls ll : Nat), Reaches s h .bedOpen → clip ≤ 255 →
    let no (c : Completion) : Host.Outcome State Fault Refusal := .next (replied s h 24 c .none)
    let n := (length + 1023) / 1024
    let entry (l : Nat) : DirEntry :=
      { id := clip, first := l, count := n, length := length, loopStart := ls, loopLength := ll, state := .writing, writer := h.port
        next := 0, damageSeen := false, storeFault := false }
    (∀ l, State.firstRun s.store n = some l →
      let u := State.openClip s.store (entry l)
      l + n ≤ 4096 ∧ (∀ m, m < l → ∃ i, i < n ∧ s.store.stateOf (m + i) ≠ .erased)
      ∧ (∀ i, i < n → s.store.stateOf (l + i) = .erased ∧ u.stateOf (l + i) = .allocated)
      ∧ (∀ k, (k < l ∨ l + n ≤ k) → u.stateOf k = s.store.stateOf k)
      ∧ (∀ e, e ∈ u.dir ↔ e = entry l ∨ e ∈ s.store.dir) ∧ u.dir.length = s.store.dir.length + 1
      ∧ (s.store.dir.Pairwise (fun x y => x.id < y.id) → (∀ e ∈ s.store.dir, e.id ≠ clip) → u.dir.Pairwise (fun x y => x.id < y.id))
      ∧ u = { s.store with logical := u.logical, dir := u.dir, fill := some { page := 0, frames := [] }, handed := [] })
    ∧ (State.firstRun s.store n = none → ∀ m, m + n ≤ 4096 → ∃ i, i < n ∧ s.store.stateOf (m + i) ≠ .erased)
    ∧ exec (.bedOpen h clip length ls ll) s =
      if clip = 0 ∨ (∃ e ∈ s.store.dir, e.id = clip) then no .outOfRange
      else if length = 0 ∨ 4194304 < length then no .outOfRange
      else if length ≤ ls ∨ (0 < ll ∧ length < ls + ll) then no .outOfRange
      else if ∃ e ∈ s.store.dir, e.state = .writing then no .busy
      else if ∃ x ∈ s.store.backlogFirst, x.2 = clip then no .busy
      else if s.otherHoldsStore h.port then no .busy
      else if 128 ≤ s.store.dir.length then no .full
      else match State.firstRun s.store n with
        | none => no .full
        | some l => .next (replied { s with store := State.openClip s.store (entry l) } h 24 .done (.firstSector l))

/-- BED DATA: R121's refusals, then two frames joined to the filling buffer; a full buffer is handed on, and the request is held while
the other one is programming, or BUSY when the completion queue is full (R121, R179). -/
def Obligations.BedDataFillsThePage : Prop :=
  ∀ (s : State) (h : CtlHead) (clip offset : Nat) (f0 f1 : BedFrame), Reaches s h .bedData →
    let run := exec (.bedData h clip offset f0 f1) s
    let no (c : Completion) : Host.Outcome State Fault Refusal := .next (replied s h 25 c .none)
    ((∀ e, s.store.clip clip = some e → e.state ≠ .writing) → run = no .notFound)
    ∧ ∀ e, s.store.clip clip = some e → e.state = .writing →
      (e.writer ≠ h.port → run = no .busy)
      ∧ (e.writer = h.port → e.storeFault = true → run = no .storeFault)
      ∧ (e.writer = h.port → e.storeFault = false → offset ≠ e.next ∨ e.length ≤ offset → run = no .outOfRange)
      ∧ (e.writer = h.port → e.storeFault = false → offset = e.next → offset < e.length →
        ∀ b, s.store.fill = some b →
          let b2 : PageBuf := { b with frames := b.frames ++ [f0, f1] }
          let dir := s.store.dir.map (fun x => if x.id = clip then { x with next := x.next + 2 } else x)
          let fresh : PageBuf := { page := (e.next + 2) / 16, frames := [] }
          let held : Store := { s.store with dir := dir, handed := s.store.handed ++ [b2], fill := none, dataHeld := true }
          (b2.frames.length < 16 → run = .next (replied { s with store := { s.store with dir := dir, fill := some b2 } } h 25 .done .none))
          ∧ (16 ≤ b2.frames.length → s.store.handed = [] →
              run = .next (replied { s with store := { s.store with dir := dir, handed := [b2], fill := some fresh } } h 25 .done .none))
          ∧ (16 ≤ b2.frames.length → s.store.handed ≠ [] → 2 ≤ (s.framer.holders.get h.port).completion.length → run = no .busy)
          ∧ (16 ≤ b2.frames.length → s.store.handed ≠ [] → (s.framer.holders.get h.port).completion.length < 2 →
              run = .next (inHand { s with store := held } h .bedData)))

/-- BED SEAL, BED ABORT and BED DELETE: R122's refusals, and the seal held in service once every frame is in; an aborted or deleted clip
leaves the directory, its sectors DIRTY and in the erase backlog in index order, and the bed player loses it: tracking of it stops with its
slots emptied, its prime is cleared, and its outstanding read stands for its completion; nothing else is tracked before the next output
period (R135, R138, R139); BED DELETE of a WRITING clip acts as BED ABORT, with the
open clip's buffers, relocation and held request ended (R122, R123, R179). -/
def Obligations.ClipsAreSealedAndRemoved : Prop :=
  ∀ (s : State) (h : CtlHead) (clip : Nat),
    let removed (t : State) (e : DirEntry) : Prop :=
      t.store.dir = s.store.dir.filter (fun x => decide (x.id ≠ e.id))
      ∧ t.store.backlog = s.store.backlog ++ (List.range e.count).map (fun j => e.first + j)
      ∧ t.store.backlogFirst = s.store.backlogFirst ++ [(e.first, e.id)]
      ∧ (∀ k, e.first ≤ k → k < e.first + e.count → t.store.stateOf k = .dirty)
      ∧ (∀ k, (k < e.first ∨ e.first + e.count ≤ k) → t.store.stateOf k = s.store.stateOf k)
      ∧ t.store.flash = s.store.flash
      ∧ (let q := s.player
         let stops : Bool := q.tracked.map (fun x => x.1) == some e.id
         t.player = {
           tracked := if stops then none else q.tracked
           window := if stops then [] else q.window
           reading := if q.reading.map (fun x => x.1) = some e.id then none else q.reading
           lostRead := match q.reading with
             | some (c, page) => if c = e.id then some { clip := c, sector := e.first + page / 64, page := page % 64 } else q.lostRead
             | none => q.lostRead
           prime := if q.prime.map (fun x => x.clip) = some e.id then none else q.prime
           lastPrime := q.lastPrime })
    let aborted (t : State) (e : DirEntry) : Prop :=
      removed t e ∧ t.store.fill = none ∧ t.store.handed = [] ∧ t.store.clipCopy = none
      ∧ (∀ j p, s.store.clipCopy = some j → j.target = some p →
          ((∀ x, s.store.engine = some x → x.job ≠ .clip) → (p, false) ∈ t.store.spares ∧ p ∉ t.store.relocating)
          ∧ (∀ x, s.store.engine = some x → x.job = .clip → t.store.orphanTarget = some p))
      ∧ t.store.engine = s.store.engine.map (fun x => { x with orphan := x.orphan || decide (x.job = .clip) })
      ∧ (∀ q, (s.store.dataHeld = true ∨ s.store.sealing = true) → s.mgmt.inService.get e.writer = some q →
          t.mgmt.inService.get e.writer = none
          ∧ (t.framer.holders.get e.writer).completion = (s.framer.holders.get e.writer).completion
              ++ [{ addr := BitVec.ofNat 8 s.gang.position, tag := q.tag, kind := BitVec.ofNat 8 q.kind.code, code := .notFound, data := .none }])
      ∧ t = { s with store := t.store, player := t.player, framer := t.framer, mgmt := t.mgmt }
    (Reaches s h .bedSeal →
      ((∀ e, s.store.clip clip = some e → e.state ≠ .writing) → exec (.bedSeal h clip) s = .next (replied s h 26 .notFound .none))
      ∧ ∀ e, s.store.clip clip = some e → e.state = .writing →
        (e.writer ≠ h.port → exec (.bedSeal h clip) s = .next (replied s h 26 .busy .none))
        ∧ (e.writer = h.port → e.storeFault = true → exec (.bedSeal h clip) s = .next (replied s h 26 .storeFault .none))
        ∧ (e.writer = h.port → e.storeFault = false →
          (e.next < e.length → exec (.bedSeal h clip) s = .next (replied s h 26 .outOfRange .none))
          ∧ (e.length ≤ e.next → 2 ≤ (s.framer.holders.get h.port).completion.length →
              exec (.bedSeal h clip) s = .next (replied s h 26 .busy .none))
          ∧ (e.length ≤ e.next → (s.framer.holders.get h.port).completion.length < 2 →
              exec (.bedSeal h clip) s = .next (inHand { s with store := State.takeSeal s.store } h .bedSeal)
              ∧ (State.takeSeal s.store).sealing = true
              ∧ ((∀ b, s.store.fill = some b → b.frames = []) → State.takeSeal s.store = { s.store with sealing := true })
              ∧ ∀ b, s.store.fill = some b → b.frames ≠ [] → State.takeSeal s.store = { s.store with
                  sealing := true, fill := none
                  handed := s.store.handed ++ [{ b with frames := b.frames ++ List.replicate (16 - b.frames.length) zeroFrame }] })))
    ∧ (Reaches s h .bedAbort →
      ((∀ e, s.store.clip clip = some e → e.state ≠ .writing) → exec (.bedAbort h clip) s = .next (replied s h 27 .notFound .none))
      ∧ ∀ e, s.store.clip clip = some e → e.state = .writing →
        ∃ t, exec (.bedAbort h clip) s = .next (replied t h 27 .done .none) ∧ aborted t e)
    ∧ (Reaches s h .bedDelete →
      (s.store.clip clip = none → exec (.bedDelete h clip) s = .next (replied s h 28 .notFound .none))
      ∧ (∀ e, s.store.clip clip = some e → e.state = .writing →
          ∃ t, exec (.bedDelete h clip) s = .next (replied t h 28 .done .none) ∧ aborted t e)
      ∧ ∀ e, s.store.clip clip = some e → e.state ≠ .writing →
        ∃ t, exec (.bedDelete h clip) s = .next (replied t h 28 .done .none) ∧ removed t e
          ∧ (∀ l, l ∈ t.store.scrubQueue ↔
              l ∈ s.store.scrubQueue ∧ (l < e.first ∨ e.first + e.count ≤ l ∨ s.store.scrub.map (fun j => j.logical) = some l))
          ∧ t.cues = s.cues ∧ t = { s with store := t.store, player := t.player })

/-- SAVE SETTINGS is BUSY while another port holds a store operation or the port's completion queue is full; otherwise the snapshot of
section 6.7 stands in the save buffer, the save job waits and the request is in service (R179, R184). The job's steps are those of R133:
the erase of sector 4,160, then the image's pages in order, the last of which ends the request DONE; a failed erase or page raises its
fault and ends it STORE FAULT (the moment of each row, log 1; the outcome of a step, log 6; the pages of an image, log 27;
the page named by a failed erase, log 36). -/
def Obligations.SaveSettingsTakesTheSnapshot : Prop :=
  (∀ (s : State) (h : CtlHead), Reaches s h .saveSettings →
    let image : Settings :=
      { cues := s.cues.records, routes := s.routes.active, policies := s.ctl.policies
        limits := { a := s.health.a.limits, b := s.health.b.limits }, grants := s.mgmt.grants }
    let job : SaveJob := { port := h.port, erased := false, next := 0, pages := 1 + (s.cues.records.length + 15) / 16 }
    (s.otherHoldsStore h.port = true ∨ 2 ≤ (s.framer.holders.get h.port).completion.length →
      exec (.saveSettings h) s = .next (replied s h 31 .busy .none))
    ∧ (s.otherHoldsStore h.port = false → (s.framer.holders.get h.port).completion.length < 2 →
      exec (.saveSettings h) s = .next (inHand { s with mgmt := { s.mgmt with saveBuffer := some image }
                                                        store := { s.store with save := some job } } h .saveSettings)))
  ∧ ∀ (s : State) (x : EngineStep) (j : SaveJob) (v : Settings) (q : Service), s.store.engine = some x → x.job = .save → x.orphan = false →
      s.store.save = some j → s.mgmt.saveBuffer = some v → s.mgmt.inService.get j.port = some q → s.store.readBanks = [] →
      let reply (code : Completion) : Reply :=
        { addr := BitVec.ofNat 8 s.gang.position, tag := q.tag, kind := BitVec.ofNat 8 q.kind.code, code := code, data := .none }
      let old := s.framer.holders.get j.port
      let ended (code : Completion) (f : FaultRecord) (image : SettingsSector) : State := { s with
        fault := f
        framer := { s.framer with holders := s.framer.holders.set j.port { old with completion := old.completion ++ [reply code] } }
        mgmt := { s.mgmt with saveBuffer := none, inService := s.mgmt.inService.set j.port none }
        store := { s.store with engine := none, save := none, settings := image } }
      (x.op = .erase 4160 →
        (x.progress = 11 → exec .eraseComplete s = .next { s with store := { s.store with
          engine := none, settings := { pages := [], disturbed := false }, save := some { j with erased := true } } })
        ∧ (x.progress < 11 → 200 ≤ (s.framer.count - x.start).toNat + 1 →
          exec .eraseTimeout s
            = .next (ended .storeFault (captured s .storeErase .store (.erase 4160 (some 0))) s.store.settings)))
      ∧ ∀ k, x.op = .settingsPage k → 2 ≤ (s.framer.count - x.start).toNat + 1 →
          let image : SettingsSector := { pages := s.store.settings.pages ++ [imagePage v k], disturbed := false }
          (k + 1 < j.pages → exec (.pageProgramComplete true) s = .next { s with store := { s.store with
            engine := none, settings := image, save := some { j with next := k + 1 } } })
          ∧ (j.pages ≤ k + 1 → exec (.pageProgramComplete true) s = .next (ended .done s.fault image))
          ∧ exec (.pageProgramComplete false) s
              = .next (ended .storeFault (captured s .storeProgram .store (.program 4160 k)) s.store.settings)
          ∧ (k + 1 = imagePages v → s.store.settings.pages = (List.range k).map (imagePage v) → image = savedImage v)

/-! ## Searches, mixes, records and frames -/

/-- The search of R58 over a record that R45 admits: an answer is the first switch position of R56 at or above `x`, and NEXT CUE means that
the cue has none at or above `x`. -/
def Obligations.SearchFindsTheFirstSwitchPosition : Prop :=
  ∀ (r : CueRecord) (x : Nat), CueRecordValid r = true →
    let p := r.policy
    let switches (y : Nat) : Prop :=
      (p.framesPerBeat = 0 ∨ (p.beatOffset ≤ y ∧ ∃ n, y = p.beatOffset + n * p.framesPerBeat))
      ∧ (∀ z ∈ p.zones, y < z.1 ∨ z.2 ≤ y) ∧ (∀ n, p.length = some n → y < n)
    (∀ y, Machine.CuePolicy.switchPosition p y = true ↔ switches y)
    ∧ match search p x with
      | some y => x ≤ y ∧ y ≤ 4294967295 ∧ switches y ∧ ∀ w, x ≤ w → w < y → ¬switches w
      | none => ∀ w, x ≤ w → w ≤ 4294967295 → ¬switches w

/-- The mix of a fade: the nearest integer to the weighted sum, halves away from zero, and never outside the two sides (R85, R110). The
output frame: a channel for each entry of the active bank in order, 64 in a state Inv holds in, from the entry and its group's record (R99,
R104): a rig's entry at the program position through the entry's column, zero past the guards of health and step, the other rig in its place
where R108 patches, the bed's samples in the upper 16 bits, zero for MUTE, and in a fade the mix of its two sides, each a rig under its
guards and without a patch, the bed or MUTE (R105 to R110). The frame's status summary is R111's, its role code 0 (9.3). -/
def Obligations.MixLiesBetweenItsSides : Prop :=
  (∀ (n k j : Nat) (o d : Int), k < n → j < 12 →
    let w : Int := ((12 * k + j + 1 : Nat) : Int)
    let total : Int := ((12 * n : Nat) : Int)
    let sum := o * (total - w) + d * w
    let y := State.mixSample k n j o d
    2 * (y * total - sum).natAbs ≤ 12 * n ∧ (2 * (y * total - sum).natAbs = 12 * n → (sum.natAbs : Int) ≤ (y * total).natAbs)
    ∧ min o d ≤ y ∧ y ≤ max o d)
  ∧ (∀ s : State,
    (s.align.prog.state ≠ .stopped → s.outputFrame.kind = .audio ∧ s.outputFrame.stopped = false
      ∧ s.outputFrame.pos = s.align.prog.pos ∧ s.outputFrame.channels = s.routes.active.map s.channelSamples
      ∧ (Inv s → s.outputFrame.channels.length = 64))
    ∧ (s.align.prog.state = .stopped → s.outputFrame.kind = .idle ∧ s.outputFrame.stopped = true
      ∧ s.outputFrame.pos = { cue := 0, pos := 0 } ∧ s.outputFrame.channels = [])
    ∧ s.outputFrame.role = 0 ∧ s.outputFrame.declared = false ∧ s.outputFrame.pilot = false
    ∧ let step (r : Rig) : StepState := if s.ctl.groups.g0.st.current = r.source then .inStep else (s.align.rigs.get r).step.state
      s.outputFrame.summary =
        { sources := s.ctl.groups.map (fun g => match g.st with | .settled x => x | .fading _ d _ _ _ => d)
          healthA := s.health.a.state, stepA := step .a, healthB := s.health.b.state, stepB := step .b
          faultLocked := s.fault.first.isSome, showLock := s.mgmt.lock, bedReady := s.bedReady, bypass := s.framer.bypass
          position := s.gang.position, size := s.gang.size })
  ∧ ∀ (s : State) (e : RouteEntry) (g : Fin 8), e.group = g.val →
      let x := s.ctl.groups.get g
      let zeros : List Int := List.replicate 12 0
      let mutes (r : Rig) : Prop := (s.health.get r).state = .failed ∨ (s.health.get r).state = .offline
        ∨ (s.health.get r).state = .qualifying ∨ (g ≠ 0 ∧ s.stepOf r = .outOfStep)
      let found (r : Rig) : Option RingEntry := (s.align.rigs.get r).ring.reverse.find? (fun y => y.pos == s.align.prog.pos)
      let taken (y : RingEntry) (r : Rig) : List Int := match (match r with | .a => e.rigA | .b => e.rigB) with
        | none => zeros
        | some c => if c < y.channels then y.samples.getD c zeros else zeros
      let bed : List Int := match e.track with
        | none => zeros
        | some k => ((s.bedSamples k).getD zeros).map (fun y => y * 256)
      (∀ r, x.st = .settled r.source →
        (mutes r → s.channelSamples e = zeros)
        ∧ (¬mutes r → (∀ y, found r = some y → s.channelSamples e = taken y r)
            ∧ (found r = none →
              let stands := ((s.health.get r.other).state = .healthy ∨ (s.health.get r.other).state = .suspect)
                ∧ s.stepOf r.other = .inStep
              (stands → s.channelSamples e = match found r.other with | some y => taken y r.other | none => zeros)
              ∧ (¬stands → s.channelSamples e = zeros))))
      ∧ (x.st = .settled .mute → s.channelSamples e = zeros)
      ∧ (x.st = .settled .bed → s.channelSamples e = bed)
      ∧ ∀ (o d : Source) (n : Nat) (start : Word) (ret : Bool), x.st = .fading o d n start ret →
          let side (y : Source) (l : List Int) : Prop :=
            (y = .mute → l = zeros) ∧ (y = .bed → l = bed)
            ∧ ∀ r : Rig, y = r.source →
              ((mutes r ∨ found r = none) → l = zeros) ∧ (¬mutes r → ∀ v, found r = some v → l = taken v r)
          let k := (s.framer.count - start).toNat
          ∃ a b, side o a ∧ side d b
            ∧ (k < n → (s.channelSamples e).length = min a.length b.length
                ∧ ∀ (j : Nat) (u v : Int), a[j]? = some u → b[j]? = some v → (s.channelSamples e)[j]? = some (State.mixSample k n j u v))
            ∧ (n ≤ k → s.channelSamples e = b)

/-- R161: a fault that reaches a locked record sets the second-fault flag and adds its kind once; the first-fault fields stay. -/
def Obligations.LaterFaultsJoinTheSet : Prop :=
  ∀ (s : State) (k : FaultKind) (o : FaultOrigin) (d : FaultDetail) (x : FirstFault), s.fault.first = some x → RecordOk s.fault →
    let t := s.raise k o d
    t.fault.first = some x ∧ t.fault.second = true ∧ (∀ j, j ∈ t.fault.later ↔ j = k ∨ j ∈ s.fault.later) ∧ t.fault.later.Nodup
    ∧ RecordOk t.fault ∧ (∀ f : FaultRecord, f.second = true ↔ f.later ≠ []) ∧ t = { s with fault := t.fault }

/-- A main frame the part sends is one that its receiver takes, with every field that the receiver reads as it was sent; its role stands
in byte 11 and its status summary, by R111's codes, in bytes 12 to 19, which the receiver does not read (R167, 9.3). -/
def Obligations.SentMainFramesAreReceived : Prop :=
  ∀ f : MainFrame, f.channels.length ≤ 64 → (f.kind = .idle ↔ f.channels = []) →
    (∀ c ∈ f.channels, c.length = 12 ∧ ∀ x ∈ c, -8388608 ≤ x ∧ x ≤ 8388607) →
    let source : Source → Nat | .mute => 0 | .a => 1 | .b => 2 | .bed => 3
    let health : HealthState → Nat | .offline => 0 | .qualifying => 1 | .stopped => 2 | .healthy => 3 | .suspect => 4 | .failed => 5
    let step : StepState → Nat | .outOfStep => 0 | .drifting => 1 | .inStep => 2
    let flag (b : Bool) (n : Nat) : Nat := if b then n else 0
    let m := f.summary
    checkMain (some { marks := true, bytes := f.toBytes })
      = .valid { kind := f.kind, stopped := f.stopped, declared := f.declared, pilot := f.pilot, seq := f.seq, pos := f.pos,
                 count := f.channels.length, channels := f.channels }
    ∧ f.toBytes[11]? = some f.role
    ∧ (m.position ≤ 3 → m.size ≤ 4 → (f.toBytes.drop 12).take 8 = ([
        16 * source m.sources.g0 + source m.sources.g1, 16 * source m.sources.g2 + source m.sources.g3,
        16 * source m.sources.g4 + source m.sources.g5, 16 * source m.sources.g6 + source m.sources.g7,
        16 * health m.healthA + step m.stepA, 16 * health m.healthB + step m.stepB,
        flag m.faultLocked 1 + flag m.showLock 2 + flag m.bedReady 4 + flag m.bypass 8,
        16 * m.position + m.size].map (BitVec.ofNat 8)))
end

