-- ==== Sys2Proof/Laws/Memory.lean ====
section
/-! SUPPORT. The sparse tables and the flash memory: every write keeps the canonical form, and a read after a write. -/

namespace Sys2Proof.Machine

namespace Sparse

variable {α : Type} {d : Nat → α}

theorem get_insert (k j : Nat) (v : α) (m : List (Nat × α)) (h : m.Pairwise (fun x y => x.1 < y.1)) :
    get d j (insert k v m) = if j = k then v else get d j m := by
  induction m with
  | nil => simp only [insert, get]; split <;> simp_all [eq_comm]
  | cons x m ih =>
    obtain ⟨i, w⟩ := x
    have hx := List.pairwise_cons.mp h
    simp only [insert]
    split
    · simp only [get]
      by_cases hj : j = k
      · simp [hj]
      · simp [hj, Ne.symm hj]
    · split
      · rename_i hk
        subst hk
        simp only [get]
        by_cases hj : j = k
        · simp [hj]
        · simp [hj, Ne.symm hj]
      · simp only [get]
        rw [ih hx.2]
        by_cases hj : j = k
        · subst hj
          have : i ≠ j := by omega
          simp [this]
        · simp [hj]

theorem get_erase (k j : Nat) (m : List (Nat × α)) : get d j (erase k m) = if j = k then d j else get d j m := by
  induction m with
  | nil => simp [erase, get]
  | cons x m ih =>
    obtain ⟨i, w⟩ := x
    simp only [erase, List.filter_cons]
    simp only [erase] at ih
    by_cases hi : i = k
    · subst hi
      simp only [ne_eq, not_true_eq_false, decide_false, Bool.false_eq_true, if_false, ih, get]
      by_cases hj : j = i
      · simp [hj]
      · simp [hj, Ne.symm hj]
    · simp only [ne_eq, hi, not_false_eq_true, decide_true, if_true, get, ih]
      by_cases hj : j = k
      · subst hj; simp [hi]
      · simp [hj]

variable [DecidableEq α]

/-- Keys above a bound are above every lower bound. -/
theorem wfAbove_weaken {k : Nat} {lo : Option Nat} {m : List (Nat × α)} (hl : ∀ l, lo = some l → l < k) (h : wfAbove d (some k) m = true) :
    wfAbove d lo m = true := by
  cases m with
  | nil => rfl
  | cons x m =>
    obtain ⟨i, w⟩ := x
    simp only [wfAbove, Bool.and_eq_true, decide_eq_true_eq] at h ⊢
    refine ⟨⟨?_, h.1.2⟩, h.2⟩
    cases lo with
    | none => rfl
    | some l => simpa using Nat.lt_trans (hl l rfl) h.1.1

theorem wfAbove_keys {lo : Option Nat} {m : List (Nat × α)} (h : wfAbove d lo m = true) :
    m.Pairwise (fun x y => x.1 < y.1) ∧ ∀ l, lo = some l → ∀ x ∈ m, l < x.1 := by
  induction m generalizing lo with
  | nil => simp
  | cons x m ih =>
    obtain ⟨i, w⟩ := x
    simp only [wfAbove, Bool.and_eq_true, decide_eq_true_eq] at h
    have hm := ih h.2
    refine ⟨List.pairwise_cons.mpr ⟨fun y hy => hm.2 i rfl y hy, hm.1⟩, ?_⟩
    rintro l hl y hy
    subst hl
    have hli : l < i := by simpa using h.1.1
    rcases List.mem_cons.mp hy with hy | hy
    · exact hy ▸ hli
    · exact Nat.lt_trans hli (hm.2 i rfl y hy)

theorem insert_wf {k : Nat} {v : α} (hv : v ≠ d k) {lo : Option Nat} {m : List (Nat × α)} (hl : ∀ l, lo = some l → l < k)
    (h : wfAbove d lo m = true) : wfAbove d lo (insert k v m) = true := by
  induction m generalizing lo with
  | nil =>
    simp only [insert, wfAbove, Bool.and_eq_true, decide_eq_true_eq]
    refine ⟨⟨?_, hv⟩, trivial⟩
    cases lo with
    | none => rfl
    | some l => simpa using hl l rfl
  | cons x m ih =>
    obtain ⟨i, w⟩ := x
    simp only [wfAbove, Bool.and_eq_true, decide_eq_true_eq] at h
    simp only [insert]
    split
    · rename_i hk
      simp only [wfAbove, Bool.and_eq_true, decide_eq_true_eq]
      refine ⟨⟨?_, hv⟩, ⟨hk, h.1.2⟩, h.2⟩
      cases lo with
      | none => rfl
      | some l => simpa using hl l rfl
    · split
      · rename_i hk
        subst hk
        simp only [wfAbove, Bool.and_eq_true, decide_eq_true_eq]
        exact ⟨⟨h.1.1, hv⟩, h.2⟩
      · simp only [wfAbove, Bool.and_eq_true, decide_eq_true_eq]
        refine ⟨⟨h.1.1, h.1.2⟩, ih ?_ h.2⟩
        intro l hl2
        cases hl2
        omega

theorem erase_wf {k : Nat} {lo : Option Nat} {m : List (Nat × α)} (h : wfAbove d lo m = true) : wfAbove d lo (erase k m) = true := by
  induction m generalizing lo with
  | nil => rfl
  | cons x m ih =>
    obtain ⟨i, w⟩ := x
    simp only [wfAbove, Bool.and_eq_true, decide_eq_true_eq] at h
    simp only [erase] at ih
    simp only [erase, List.filter_cons]
    split
    · simp only [wfAbove, Bool.and_eq_true, decide_eq_true_eq]
      exact ⟨h.1, ih h.2⟩
    · refine ih (wfAbove_weaken ?_ h.2)
      intro l hl
      subst hl
      simpa using h.1.1

theorem put_wf {k : Nat} {v : α} {m : List (Nat × α)} (h : wfAbove d none m = true) : wfAbove d none (put d k v m) = true := by
  unfold put
  split
  · exact erase_wf h
  · rename_i hv
    exact insert_wf hv (fun l hl => by cases hl) h

theorem get_put {k j : Nat} {v : α} {m : List (Nat × α)} (h : wfAbove d none m = true) :
    get d j (put d k v m) = if j = k then v else get d j m := by
  unfold put
  split
  · rename_i hv
    rw [get_erase]
    split
    · rename_i hj; rw [hv, hj]
    · rfl
  · exact get_insert k j v m (wfAbove_keys h).1

end Sparse

/-! ## The flash -/

/-- Every write keeps the canonical form. -/
@[simp] theorem Memory.write_wf {m : List (Nat × FlashSector)} (h : Memory.wf m = true) (p : Nat) (v : FlashSector) :
    Memory.wf (Memory.write m p v) = true := Sparse.put_wf h

/-- The flash at State.reset has the canonical form. -/
theorem Memory.reset_wf : Memory.wf State.reset.store.flash = true := rfl

theorem Memory.read_write_same {m : List (Nat × FlashSector)} (h : Memory.wf m = true) (p : Nat) (v : FlashSector) :
    Memory.read (Memory.write m p v) p = v := by simp [Memory.read, Memory.write, Sparse.get_put h]

theorem Memory.read_write_other {m : List (Nat × FlashSector)} (h : Memory.wf m = true) {p q : Nat} (v : FlashSector) (hq : q ≠ p) :
    Memory.read (Memory.write m p v) q = Memory.read m q := by simp [Memory.read, Memory.write, Sparse.get_put h, hq]

end Sys2Proof.Machine
end

