-- ==== Sys2Proof/Laws/State.lean ====
section
/-! SUPPORT. One lemma for each field of State under each update of a block's record, and for each access after an update, all
by rfl, so that no later proof unfolds a record update. -/

namespace Sys2Proof

/-! ## Access after an update -/

@[simp] theorem Four.get_set_same {α : Type} (p : Four α) (k : CtlPort) (v : α) : (p.set k v).get k = v := by
  cases k <;> rfl
@[simp] theorem Four.get_set_other {α : Type} (p : Four α) (k j : CtlPort) (v : α) (h : j ≠ k) : (p.set k v).get j = p.get j := by
  cases k <;> cases j <;> first | rfl | exact absurd rfl h
@[simp] theorem Oct.get_set_same {α : Type} (p : Oct α) (k : Fin 8) (v : α) : (p.set k v).get k = v := by
  match k with
  | 0 => rfl | 1 => rfl | 2 => rfl | 3 => rfl | 4 => rfl | 5 => rfl | 6 => rfl | 7 => rfl
@[simp] theorem Oct.get_map {α β : Type} (f : α → β) (p : Oct α) (k : Fin 8) : (p.map f).get k = f (p.get k) := by
  match k with
  | 0 => rfl | 1 => rfl | 2 => rfl | 3 => rfl | 4 => rfl | 5 => rfl | 6 => rfl | 7 => rfl
theorem Oct.ext_get {α : Type} (p q : Oct α) (h : ∀ k, p.get k = q.get k) : p = q := by
  cases p; cases q
  have h0 := h 0; have h1 := h 1; have h2 := h 2; have h3 := h 3; have h4 := h 4; have h5 := h 5; have h6 := h 6; have h7 := h 7
  simp only [Oct.get] at h0 h1 h2 h3 h4 h5 h6 h7
  subst h0 h1 h2 h3 h4 h5 h6 h7
  rfl
@[simp] theorem Oct.get_set_other {α : Type} (p : Oct α) (k j : Fin 8) (v : α) (h : j ≠ k) : (p.set k v).get j = p.get j := by
  match k, j, h with

  | 0, 0, h => exact absurd rfl h | 0, 1, h => rfl | 0, 2, h => rfl | 0, 3, h => rfl | 0, 4, h => rfl | 0, 5, h => rfl | 0, 6, h => rfl | 0, 7, h => rfl
  | 1, 0, h => rfl | 1, 1, h => exact absurd rfl h | 1, 2, h => rfl | 1, 3, h => rfl | 1, 4, h => rfl | 1, 5, h => rfl | 1, 6, h => rfl | 1, 7, h => rfl
  | 2, 0, h => rfl | 2, 1, h => rfl | 2, 2, h => exact absurd rfl h | 2, 3, h => rfl | 2, 4, h => rfl | 2, 5, h => rfl | 2, 6, h => rfl | 2, 7, h => rfl
  | 3, 0, h => rfl | 3, 1, h => rfl | 3, 2, h => rfl | 3, 3, h => exact absurd rfl h | 3, 4, h => rfl | 3, 5, h => rfl | 3, 6, h => rfl | 3, 7, h => rfl
  | 4, 0, h => rfl | 4, 1, h => rfl | 4, 2, h => rfl | 4, 3, h => rfl | 4, 4, h => exact absurd rfl h | 4, 5, h => rfl | 4, 6, h => rfl | 4, 7, h => rfl
  | 5, 0, h => rfl | 5, 1, h => rfl | 5, 2, h => rfl | 5, 3, h => rfl | 5, 4, h => rfl | 5, 5, h => exact absurd rfl h | 5, 6, h => rfl | 5, 7, h => rfl
  | 6, 0, h => rfl | 6, 1, h => rfl | 6, 2, h => rfl | 6, 3, h => rfl | 6, 4, h => rfl | 6, 5, h => rfl | 6, 6, h => exact absurd rfl h | 6, 7, h => rfl
  | 7, 0, h => rfl | 7, 1, h => rfl | 7, 2, h => rfl | 7, 3, h => rfl | 7, 4, h => rfl | 7, 5, h => rfl | 7, 6, h => rfl | 7, 7, h => exact absurd rfl h

namespace Machine

@[simp] theorem Pair.get_set_same {α : Type} (p : Pair α) (k : Rig) (v : α) : (p.set k v).get k = v := by
  cases k <;> rfl
@[simp] theorem Pair.get_set_other {α : Type} (p : Pair α) (k j : Rig) (v : α) (h : j ≠ k) : (p.set k v).get j = p.get j := by
  cases k <;> cases j <;> first | rfl | exact absurd rfl h
@[simp] theorem Six.get_set_same {α : Type} (p : Six α) (k : Port) (v : α) : (p.set k v).get k = v := by
  cases k <;> rfl
@[simp] theorem Six.get_set_other {α : Type} (p : Six α) (k j : Port) (v : α) (h : j ≠ k) : (p.set k v).get j = p.get j := by
  cases k <;> cases j <;> first | rfl | exact absurd rfl h
@[simp] theorem Three.get_set_same {α : Type} (p : Three α) (k : Fin 3) (v : α) : (p.set k v).get k = v := by
  match k with
  | 0 => rfl | 1 => rfl | 2 => rfl

namespace State

/-! ## setFramer -/

@[simp] theorem setFramer_framer (s : State) (v : Framer) : (s.setFramer v).framer = v := rfl
@[simp] theorem setFramer_links (s : State) (v : Framer) : (s.setFramer v).links = s.links := rfl
@[simp] theorem setFramer_align (s : State) (v : Framer) : (s.setFramer v).align = s.align := rfl
@[simp] theorem setFramer_health (s : State) (v : Framer) : (s.setFramer v).health = s.health := rfl
@[simp] theorem setFramer_cues (s : State) (v : Framer) : (s.setFramer v).cues = s.cues := rfl
@[simp] theorem setFramer_ctl (s : State) (v : Framer) : (s.setFramer v).ctl = s.ctl := rfl
@[simp] theorem setFramer_routes (s : State) (v : Framer) : (s.setFramer v).routes = s.routes := rfl
@[simp] theorem setFramer_store (s : State) (v : Framer) : (s.setFramer v).store = s.store := rfl
@[simp] theorem setFramer_player (s : State) (v : Framer) : (s.setFramer v).player = s.player := rfl
@[simp] theorem setFramer_gang (s : State) (v : Framer) : (s.setFramer v).gang = s.gang := rfl
@[simp] theorem setFramer_fault (s : State) (v : Framer) : (s.setFramer v).fault = s.fault := rfl
@[simp] theorem setFramer_mgmt (s : State) (v : Framer) : (s.setFramer v).mgmt = s.mgmt := rfl
@[simp] theorem setFramer_pending (s : State) (v : Framer) : (s.setFramer v).pending = s.pending := rfl

/-! ## setLinks -/

@[simp] theorem setLinks_framer (s : State) (v : Six PortLink) : (s.setLinks v).framer = s.framer := rfl
@[simp] theorem setLinks_links (s : State) (v : Six PortLink) : (s.setLinks v).links = v := rfl
@[simp] theorem setLinks_align (s : State) (v : Six PortLink) : (s.setLinks v).align = s.align := rfl
@[simp] theorem setLinks_health (s : State) (v : Six PortLink) : (s.setLinks v).health = s.health := rfl
@[simp] theorem setLinks_cues (s : State) (v : Six PortLink) : (s.setLinks v).cues = s.cues := rfl
@[simp] theorem setLinks_ctl (s : State) (v : Six PortLink) : (s.setLinks v).ctl = s.ctl := rfl
@[simp] theorem setLinks_routes (s : State) (v : Six PortLink) : (s.setLinks v).routes = s.routes := rfl
@[simp] theorem setLinks_store (s : State) (v : Six PortLink) : (s.setLinks v).store = s.store := rfl
@[simp] theorem setLinks_player (s : State) (v : Six PortLink) : (s.setLinks v).player = s.player := rfl
@[simp] theorem setLinks_gang (s : State) (v : Six PortLink) : (s.setLinks v).gang = s.gang := rfl
@[simp] theorem setLinks_fault (s : State) (v : Six PortLink) : (s.setLinks v).fault = s.fault := rfl
@[simp] theorem setLinks_mgmt (s : State) (v : Six PortLink) : (s.setLinks v).mgmt = s.mgmt := rfl
@[simp] theorem setLinks_pending (s : State) (v : Six PortLink) : (s.setLinks v).pending = s.pending := rfl

/-! ## setAlign -/

@[simp] theorem setAlign_framer (s : State) (v : Align) : (s.setAlign v).framer = s.framer := rfl
@[simp] theorem setAlign_links (s : State) (v : Align) : (s.setAlign v).links = s.links := rfl
@[simp] theorem setAlign_align (s : State) (v : Align) : (s.setAlign v).align = v := rfl
@[simp] theorem setAlign_health (s : State) (v : Align) : (s.setAlign v).health = s.health := rfl
@[simp] theorem setAlign_cues (s : State) (v : Align) : (s.setAlign v).cues = s.cues := rfl
@[simp] theorem setAlign_ctl (s : State) (v : Align) : (s.setAlign v).ctl = s.ctl := rfl
@[simp] theorem setAlign_routes (s : State) (v : Align) : (s.setAlign v).routes = s.routes := rfl
@[simp] theorem setAlign_store (s : State) (v : Align) : (s.setAlign v).store = s.store := rfl
@[simp] theorem setAlign_player (s : State) (v : Align) : (s.setAlign v).player = s.player := rfl
@[simp] theorem setAlign_gang (s : State) (v : Align) : (s.setAlign v).gang = s.gang := rfl
@[simp] theorem setAlign_fault (s : State) (v : Align) : (s.setAlign v).fault = s.fault := rfl
@[simp] theorem setAlign_mgmt (s : State) (v : Align) : (s.setAlign v).mgmt = s.mgmt := rfl
@[simp] theorem setAlign_pending (s : State) (v : Align) : (s.setAlign v).pending = s.pending := rfl

/-! ## setHealth -/

@[simp] theorem setHealth_framer (s : State) (v : Pair HealthRec) : (s.setHealth v).framer = s.framer := rfl
@[simp] theorem setHealth_links (s : State) (v : Pair HealthRec) : (s.setHealth v).links = s.links := rfl
@[simp] theorem setHealth_align (s : State) (v : Pair HealthRec) : (s.setHealth v).align = s.align := rfl
@[simp] theorem setHealth_health (s : State) (v : Pair HealthRec) : (s.setHealth v).health = v := rfl
@[simp] theorem setHealth_cues (s : State) (v : Pair HealthRec) : (s.setHealth v).cues = s.cues := rfl
@[simp] theorem setHealth_ctl (s : State) (v : Pair HealthRec) : (s.setHealth v).ctl = s.ctl := rfl
@[simp] theorem setHealth_routes (s : State) (v : Pair HealthRec) : (s.setHealth v).routes = s.routes := rfl
@[simp] theorem setHealth_store (s : State) (v : Pair HealthRec) : (s.setHealth v).store = s.store := rfl
@[simp] theorem setHealth_player (s : State) (v : Pair HealthRec) : (s.setHealth v).player = s.player := rfl
@[simp] theorem setHealth_gang (s : State) (v : Pair HealthRec) : (s.setHealth v).gang = s.gang := rfl
@[simp] theorem setHealth_fault (s : State) (v : Pair HealthRec) : (s.setHealth v).fault = s.fault := rfl
@[simp] theorem setHealth_mgmt (s : State) (v : Pair HealthRec) : (s.setHealth v).mgmt = s.mgmt := rfl
@[simp] theorem setHealth_pending (s : State) (v : Pair HealthRec) : (s.setHealth v).pending = s.pending := rfl

/-! ## setCues -/

@[simp] theorem setCues_framer (s : State) (v : CueMap) : (s.setCues v).framer = s.framer := rfl
@[simp] theorem setCues_links (s : State) (v : CueMap) : (s.setCues v).links = s.links := rfl
@[simp] theorem setCues_align (s : State) (v : CueMap) : (s.setCues v).align = s.align := rfl
@[simp] theorem setCues_health (s : State) (v : CueMap) : (s.setCues v).health = s.health := rfl
@[simp] theorem setCues_cues (s : State) (v : CueMap) : (s.setCues v).cues = v := rfl
@[simp] theorem setCues_ctl (s : State) (v : CueMap) : (s.setCues v).ctl = s.ctl := rfl
@[simp] theorem setCues_routes (s : State) (v : CueMap) : (s.setCues v).routes = s.routes := rfl
@[simp] theorem setCues_store (s : State) (v : CueMap) : (s.setCues v).store = s.store := rfl
@[simp] theorem setCues_player (s : State) (v : CueMap) : (s.setCues v).player = s.player := rfl
@[simp] theorem setCues_gang (s : State) (v : CueMap) : (s.setCues v).gang = s.gang := rfl
@[simp] theorem setCues_fault (s : State) (v : CueMap) : (s.setCues v).fault = s.fault := rfl
@[simp] theorem setCues_mgmt (s : State) (v : CueMap) : (s.setCues v).mgmt = s.mgmt := rfl
@[simp] theorem setCues_pending (s : State) (v : CueMap) : (s.setCues v).pending = s.pending := rfl

/-! ## setCtl -/

@[simp] theorem setCtl_framer (s : State) (v : Controller) : (s.setCtl v).framer = s.framer := rfl
@[simp] theorem setCtl_links (s : State) (v : Controller) : (s.setCtl v).links = s.links := rfl
@[simp] theorem setCtl_align (s : State) (v : Controller) : (s.setCtl v).align = s.align := rfl
@[simp] theorem setCtl_health (s : State) (v : Controller) : (s.setCtl v).health = s.health := rfl
@[simp] theorem setCtl_cues (s : State) (v : Controller) : (s.setCtl v).cues = s.cues := rfl
@[simp] theorem setCtl_ctl (s : State) (v : Controller) : (s.setCtl v).ctl = v := rfl
@[simp] theorem setCtl_routes (s : State) (v : Controller) : (s.setCtl v).routes = s.routes := rfl
@[simp] theorem setCtl_store (s : State) (v : Controller) : (s.setCtl v).store = s.store := rfl
@[simp] theorem setCtl_player (s : State) (v : Controller) : (s.setCtl v).player = s.player := rfl
@[simp] theorem setCtl_gang (s : State) (v : Controller) : (s.setCtl v).gang = s.gang := rfl
@[simp] theorem setCtl_fault (s : State) (v : Controller) : (s.setCtl v).fault = s.fault := rfl
@[simp] theorem setCtl_mgmt (s : State) (v : Controller) : (s.setCtl v).mgmt = s.mgmt := rfl
@[simp] theorem setCtl_pending (s : State) (v : Controller) : (s.setCtl v).pending = s.pending := rfl

/-! ## setRoutes -/

@[simp] theorem setRoutes_framer (s : State) (v : RouteTable) : (s.setRoutes v).framer = s.framer := rfl
@[simp] theorem setRoutes_links (s : State) (v : RouteTable) : (s.setRoutes v).links = s.links := rfl
@[simp] theorem setRoutes_align (s : State) (v : RouteTable) : (s.setRoutes v).align = s.align := rfl
@[simp] theorem setRoutes_health (s : State) (v : RouteTable) : (s.setRoutes v).health = s.health := rfl
@[simp] theorem setRoutes_cues (s : State) (v : RouteTable) : (s.setRoutes v).cues = s.cues := rfl
@[simp] theorem setRoutes_ctl (s : State) (v : RouteTable) : (s.setRoutes v).ctl = s.ctl := rfl
@[simp] theorem setRoutes_routes (s : State) (v : RouteTable) : (s.setRoutes v).routes = v := rfl
@[simp] theorem setRoutes_store (s : State) (v : RouteTable) : (s.setRoutes v).store = s.store := rfl
@[simp] theorem setRoutes_player (s : State) (v : RouteTable) : (s.setRoutes v).player = s.player := rfl
@[simp] theorem setRoutes_gang (s : State) (v : RouteTable) : (s.setRoutes v).gang = s.gang := rfl
@[simp] theorem setRoutes_fault (s : State) (v : RouteTable) : (s.setRoutes v).fault = s.fault := rfl
@[simp] theorem setRoutes_mgmt (s : State) (v : RouteTable) : (s.setRoutes v).mgmt = s.mgmt := rfl
@[simp] theorem setRoutes_pending (s : State) (v : RouteTable) : (s.setRoutes v).pending = s.pending := rfl

/-! ## setStore -/

@[simp] theorem setStore_framer (s : State) (v : Store) : (s.setStore v).framer = s.framer := rfl
@[simp] theorem setStore_links (s : State) (v : Store) : (s.setStore v).links = s.links := rfl
@[simp] theorem setStore_align (s : State) (v : Store) : (s.setStore v).align = s.align := rfl
@[simp] theorem setStore_health (s : State) (v : Store) : (s.setStore v).health = s.health := rfl
@[simp] theorem setStore_cues (s : State) (v : Store) : (s.setStore v).cues = s.cues := rfl
@[simp] theorem setStore_ctl (s : State) (v : Store) : (s.setStore v).ctl = s.ctl := rfl
@[simp] theorem setStore_routes (s : State) (v : Store) : (s.setStore v).routes = s.routes := rfl
@[simp] theorem setStore_store (s : State) (v : Store) : (s.setStore v).store = v := rfl
@[simp] theorem setStore_player (s : State) (v : Store) : (s.setStore v).player = s.player := rfl
@[simp] theorem setStore_gang (s : State) (v : Store) : (s.setStore v).gang = s.gang := rfl
@[simp] theorem setStore_fault (s : State) (v : Store) : (s.setStore v).fault = s.fault := rfl
@[simp] theorem setStore_mgmt (s : State) (v : Store) : (s.setStore v).mgmt = s.mgmt := rfl
@[simp] theorem setStore_pending (s : State) (v : Store) : (s.setStore v).pending = s.pending := rfl

/-! ## setPlayer -/

@[simp] theorem setPlayer_framer (s : State) (v : Player) : (s.setPlayer v).framer = s.framer := rfl
@[simp] theorem setPlayer_links (s : State) (v : Player) : (s.setPlayer v).links = s.links := rfl
@[simp] theorem setPlayer_align (s : State) (v : Player) : (s.setPlayer v).align = s.align := rfl
@[simp] theorem setPlayer_health (s : State) (v : Player) : (s.setPlayer v).health = s.health := rfl
@[simp] theorem setPlayer_cues (s : State) (v : Player) : (s.setPlayer v).cues = s.cues := rfl
@[simp] theorem setPlayer_ctl (s : State) (v : Player) : (s.setPlayer v).ctl = s.ctl := rfl
@[simp] theorem setPlayer_routes (s : State) (v : Player) : (s.setPlayer v).routes = s.routes := rfl
@[simp] theorem setPlayer_store (s : State) (v : Player) : (s.setPlayer v).store = s.store := rfl
@[simp] theorem setPlayer_player (s : State) (v : Player) : (s.setPlayer v).player = v := rfl
@[simp] theorem setPlayer_gang (s : State) (v : Player) : (s.setPlayer v).gang = s.gang := rfl
@[simp] theorem setPlayer_fault (s : State) (v : Player) : (s.setPlayer v).fault = s.fault := rfl
@[simp] theorem setPlayer_mgmt (s : State) (v : Player) : (s.setPlayer v).mgmt = s.mgmt := rfl
@[simp] theorem setPlayer_pending (s : State) (v : Player) : (s.setPlayer v).pending = s.pending := rfl

/-! ## setGang -/

@[simp] theorem setGang_framer (s : State) (v : Gang) : (s.setGang v).framer = s.framer := rfl
@[simp] theorem setGang_links (s : State) (v : Gang) : (s.setGang v).links = s.links := rfl
@[simp] theorem setGang_align (s : State) (v : Gang) : (s.setGang v).align = s.align := rfl
@[simp] theorem setGang_health (s : State) (v : Gang) : (s.setGang v).health = s.health := rfl
@[simp] theorem setGang_cues (s : State) (v : Gang) : (s.setGang v).cues = s.cues := rfl
@[simp] theorem setGang_ctl (s : State) (v : Gang) : (s.setGang v).ctl = s.ctl := rfl
@[simp] theorem setGang_routes (s : State) (v : Gang) : (s.setGang v).routes = s.routes := rfl
@[simp] theorem setGang_store (s : State) (v : Gang) : (s.setGang v).store = s.store := rfl
@[simp] theorem setGang_player (s : State) (v : Gang) : (s.setGang v).player = s.player := rfl
@[simp] theorem setGang_gang (s : State) (v : Gang) : (s.setGang v).gang = v := rfl
@[simp] theorem setGang_fault (s : State) (v : Gang) : (s.setGang v).fault = s.fault := rfl
@[simp] theorem setGang_mgmt (s : State) (v : Gang) : (s.setGang v).mgmt = s.mgmt := rfl
@[simp] theorem setGang_pending (s : State) (v : Gang) : (s.setGang v).pending = s.pending := rfl

/-! ## setFault -/

@[simp] theorem setFault_framer (s : State) (v : FaultRecord) : (s.setFault v).framer = s.framer := rfl
@[simp] theorem setFault_links (s : State) (v : FaultRecord) : (s.setFault v).links = s.links := rfl
@[simp] theorem setFault_align (s : State) (v : FaultRecord) : (s.setFault v).align = s.align := rfl
@[simp] theorem setFault_health (s : State) (v : FaultRecord) : (s.setFault v).health = s.health := rfl
@[simp] theorem setFault_cues (s : State) (v : FaultRecord) : (s.setFault v).cues = s.cues := rfl
@[simp] theorem setFault_ctl (s : State) (v : FaultRecord) : (s.setFault v).ctl = s.ctl := rfl
@[simp] theorem setFault_routes (s : State) (v : FaultRecord) : (s.setFault v).routes = s.routes := rfl
@[simp] theorem setFault_store (s : State) (v : FaultRecord) : (s.setFault v).store = s.store := rfl
@[simp] theorem setFault_player (s : State) (v : FaultRecord) : (s.setFault v).player = s.player := rfl
@[simp] theorem setFault_gang (s : State) (v : FaultRecord) : (s.setFault v).gang = s.gang := rfl
@[simp] theorem setFault_fault (s : State) (v : FaultRecord) : (s.setFault v).fault = v := rfl
@[simp] theorem setFault_mgmt (s : State) (v : FaultRecord) : (s.setFault v).mgmt = s.mgmt := rfl
@[simp] theorem setFault_pending (s : State) (v : FaultRecord) : (s.setFault v).pending = s.pending := rfl

/-! ## setMgmt -/

@[simp] theorem setMgmt_framer (s : State) (v : Mgmt) : (s.setMgmt v).framer = s.framer := rfl
@[simp] theorem setMgmt_links (s : State) (v : Mgmt) : (s.setMgmt v).links = s.links := rfl
@[simp] theorem setMgmt_align (s : State) (v : Mgmt) : (s.setMgmt v).align = s.align := rfl
@[simp] theorem setMgmt_health (s : State) (v : Mgmt) : (s.setMgmt v).health = s.health := rfl
@[simp] theorem setMgmt_cues (s : State) (v : Mgmt) : (s.setMgmt v).cues = s.cues := rfl
@[simp] theorem setMgmt_ctl (s : State) (v : Mgmt) : (s.setMgmt v).ctl = s.ctl := rfl
@[simp] theorem setMgmt_routes (s : State) (v : Mgmt) : (s.setMgmt v).routes = s.routes := rfl
@[simp] theorem setMgmt_store (s : State) (v : Mgmt) : (s.setMgmt v).store = s.store := rfl
@[simp] theorem setMgmt_player (s : State) (v : Mgmt) : (s.setMgmt v).player = s.player := rfl
@[simp] theorem setMgmt_gang (s : State) (v : Mgmt) : (s.setMgmt v).gang = s.gang := rfl
@[simp] theorem setMgmt_fault (s : State) (v : Mgmt) : (s.setMgmt v).fault = s.fault := rfl
@[simp] theorem setMgmt_mgmt (s : State) (v : Mgmt) : (s.setMgmt v).mgmt = v := rfl
@[simp] theorem setMgmt_pending (s : State) (v : Mgmt) : (s.setMgmt v).pending = s.pending := rfl

/-! ## setPending -/

@[simp] theorem setPending_framer (s : State) (v : List Instr) : (s.setPending v).framer = s.framer := rfl
@[simp] theorem setPending_links (s : State) (v : List Instr) : (s.setPending v).links = s.links := rfl
@[simp] theorem setPending_align (s : State) (v : List Instr) : (s.setPending v).align = s.align := rfl
@[simp] theorem setPending_health (s : State) (v : List Instr) : (s.setPending v).health = s.health := rfl
@[simp] theorem setPending_cues (s : State) (v : List Instr) : (s.setPending v).cues = s.cues := rfl
@[simp] theorem setPending_ctl (s : State) (v : List Instr) : (s.setPending v).ctl = s.ctl := rfl
@[simp] theorem setPending_routes (s : State) (v : List Instr) : (s.setPending v).routes = s.routes := rfl
@[simp] theorem setPending_store (s : State) (v : List Instr) : (s.setPending v).store = s.store := rfl
@[simp] theorem setPending_player (s : State) (v : List Instr) : (s.setPending v).player = s.player := rfl
@[simp] theorem setPending_gang (s : State) (v : List Instr) : (s.setPending v).gang = s.gang := rfl
@[simp] theorem setPending_fault (s : State) (v : List Instr) : (s.setPending v).fault = s.fault := rfl
@[simp] theorem setPending_mgmt (s : State) (v : List Instr) : (s.setPending v).mgmt = s.mgmt := rfl
@[simp] theorem setPending_pending (s : State) (v : List Instr) : (s.setPending v).pending = v := rfl

/-! ## setLink -/

@[simp] theorem setLink_framer (s : State) (p : Port) (v : PortLink) : (s.setLink p v).framer = s.framer := rfl
@[simp] theorem setLink_links (s : State) (p : Port) (v : PortLink) : (s.setLink p v).links = s.links.set p v := rfl
@[simp] theorem setLink_align (s : State) (p : Port) (v : PortLink) : (s.setLink p v).align = s.align := rfl
@[simp] theorem setLink_health (s : State) (p : Port) (v : PortLink) : (s.setLink p v).health = s.health := rfl
@[simp] theorem setLink_cues (s : State) (p : Port) (v : PortLink) : (s.setLink p v).cues = s.cues := rfl
@[simp] theorem setLink_ctl (s : State) (p : Port) (v : PortLink) : (s.setLink p v).ctl = s.ctl := rfl
@[simp] theorem setLink_routes (s : State) (p : Port) (v : PortLink) : (s.setLink p v).routes = s.routes := rfl
@[simp] theorem setLink_store (s : State) (p : Port) (v : PortLink) : (s.setLink p v).store = s.store := rfl
@[simp] theorem setLink_player (s : State) (p : Port) (v : PortLink) : (s.setLink p v).player = s.player := rfl
@[simp] theorem setLink_gang (s : State) (p : Port) (v : PortLink) : (s.setLink p v).gang = s.gang := rfl
@[simp] theorem setLink_fault (s : State) (p : Port) (v : PortLink) : (s.setLink p v).fault = s.fault := rfl
@[simp] theorem setLink_mgmt (s : State) (p : Port) (v : PortLink) : (s.setLink p v).mgmt = s.mgmt := rfl
@[simp] theorem setLink_pending (s : State) (p : Port) (v : PortLink) : (s.setLink p v).pending = s.pending := rfl

/-! ## setAlignRig -/

@[simp] theorem setAlignRig_framer (s : State) (r : Rig) (v : AlignRig) : (s.setAlignRig r v).framer = s.framer := rfl
@[simp] theorem setAlignRig_links (s : State) (r : Rig) (v : AlignRig) : (s.setAlignRig r v).links = s.links := rfl
@[simp] theorem setAlignRig_align (s : State) (r : Rig) (v : AlignRig) : (s.setAlignRig r v).align = { s.align with rigs := s.align.rigs.set r v } := rfl
@[simp] theorem setAlignRig_health (s : State) (r : Rig) (v : AlignRig) : (s.setAlignRig r v).health = s.health := rfl
@[simp] theorem setAlignRig_cues (s : State) (r : Rig) (v : AlignRig) : (s.setAlignRig r v).cues = s.cues := rfl
@[simp] theorem setAlignRig_ctl (s : State) (r : Rig) (v : AlignRig) : (s.setAlignRig r v).ctl = s.ctl := rfl
@[simp] theorem setAlignRig_routes (s : State) (r : Rig) (v : AlignRig) : (s.setAlignRig r v).routes = s.routes := rfl
@[simp] theorem setAlignRig_store (s : State) (r : Rig) (v : AlignRig) : (s.setAlignRig r v).store = s.store := rfl
@[simp] theorem setAlignRig_player (s : State) (r : Rig) (v : AlignRig) : (s.setAlignRig r v).player = s.player := rfl
@[simp] theorem setAlignRig_gang (s : State) (r : Rig) (v : AlignRig) : (s.setAlignRig r v).gang = s.gang := rfl
@[simp] theorem setAlignRig_fault (s : State) (r : Rig) (v : AlignRig) : (s.setAlignRig r v).fault = s.fault := rfl
@[simp] theorem setAlignRig_mgmt (s : State) (r : Rig) (v : AlignRig) : (s.setAlignRig r v).mgmt = s.mgmt := rfl
@[simp] theorem setAlignRig_pending (s : State) (r : Rig) (v : AlignRig) : (s.setAlignRig r v).pending = s.pending := rfl

/-! ## setProg -/

@[simp] theorem setProg_framer (s : State) (v : Program) : (s.setProg v).framer = s.framer := rfl
@[simp] theorem setProg_links (s : State) (v : Program) : (s.setProg v).links = s.links := rfl
@[simp] theorem setProg_align (s : State) (v : Program) : (s.setProg v).align = { s.align with prog := v } := rfl
@[simp] theorem setProg_health (s : State) (v : Program) : (s.setProg v).health = s.health := rfl
@[simp] theorem setProg_cues (s : State) (v : Program) : (s.setProg v).cues = s.cues := rfl
@[simp] theorem setProg_ctl (s : State) (v : Program) : (s.setProg v).ctl = s.ctl := rfl
@[simp] theorem setProg_routes (s : State) (v : Program) : (s.setProg v).routes = s.routes := rfl
@[simp] theorem setProg_store (s : State) (v : Program) : (s.setProg v).store = s.store := rfl
@[simp] theorem setProg_player (s : State) (v : Program) : (s.setProg v).player = s.player := rfl
@[simp] theorem setProg_gang (s : State) (v : Program) : (s.setProg v).gang = s.gang := rfl
@[simp] theorem setProg_fault (s : State) (v : Program) : (s.setProg v).fault = s.fault := rfl
@[simp] theorem setProg_mgmt (s : State) (v : Program) : (s.setProg v).mgmt = s.mgmt := rfl
@[simp] theorem setProg_pending (s : State) (v : Program) : (s.setProg v).pending = s.pending := rfl

/-! ## setStep -/

@[simp] theorem setStep_framer (s : State) (r : Rig) (v : StepRec) : (s.setStep r v).framer = s.framer := rfl
@[simp] theorem setStep_links (s : State) (r : Rig) (v : StepRec) : (s.setStep r v).links = s.links := rfl
@[simp] theorem setStep_align (s : State) (r : Rig) (v : StepRec) : (s.setStep r v).align = { s.align with rigs := s.align.rigs.set r { s.rig r with step := v } } := rfl
@[simp] theorem setStep_health (s : State) (r : Rig) (v : StepRec) : (s.setStep r v).health = s.health := rfl
@[simp] theorem setStep_cues (s : State) (r : Rig) (v : StepRec) : (s.setStep r v).cues = s.cues := rfl
@[simp] theorem setStep_ctl (s : State) (r : Rig) (v : StepRec) : (s.setStep r v).ctl = s.ctl := rfl
@[simp] theorem setStep_routes (s : State) (r : Rig) (v : StepRec) : (s.setStep r v).routes = s.routes := rfl
@[simp] theorem setStep_store (s : State) (r : Rig) (v : StepRec) : (s.setStep r v).store = s.store := rfl
@[simp] theorem setStep_player (s : State) (r : Rig) (v : StepRec) : (s.setStep r v).player = s.player := rfl
@[simp] theorem setStep_gang (s : State) (r : Rig) (v : StepRec) : (s.setStep r v).gang = s.gang := rfl
@[simp] theorem setStep_fault (s : State) (r : Rig) (v : StepRec) : (s.setStep r v).fault = s.fault := rfl
@[simp] theorem setStep_mgmt (s : State) (r : Rig) (v : StepRec) : (s.setStep r v).mgmt = s.mgmt := rfl
@[simp] theorem setStep_pending (s : State) (r : Rig) (v : StepRec) : (s.setStep r v).pending = s.pending := rfl

/-! ## setRigHealth -/

@[simp] theorem setRigHealth_framer (s : State) (r : Rig) (v : HealthRec) : (s.setRigHealth r v).framer = s.framer := rfl
@[simp] theorem setRigHealth_links (s : State) (r : Rig) (v : HealthRec) : (s.setRigHealth r v).links = s.links := rfl
@[simp] theorem setRigHealth_align (s : State) (r : Rig) (v : HealthRec) : (s.setRigHealth r v).align = s.align := rfl
@[simp] theorem setRigHealth_health (s : State) (r : Rig) (v : HealthRec) : (s.setRigHealth r v).health = s.health.set r v := rfl
@[simp] theorem setRigHealth_cues (s : State) (r : Rig) (v : HealthRec) : (s.setRigHealth r v).cues = s.cues := rfl
@[simp] theorem setRigHealth_ctl (s : State) (r : Rig) (v : HealthRec) : (s.setRigHealth r v).ctl = s.ctl := rfl
@[simp] theorem setRigHealth_routes (s : State) (r : Rig) (v : HealthRec) : (s.setRigHealth r v).routes = s.routes := rfl
@[simp] theorem setRigHealth_store (s : State) (r : Rig) (v : HealthRec) : (s.setRigHealth r v).store = s.store := rfl
@[simp] theorem setRigHealth_player (s : State) (r : Rig) (v : HealthRec) : (s.setRigHealth r v).player = s.player := rfl
@[simp] theorem setRigHealth_gang (s : State) (r : Rig) (v : HealthRec) : (s.setRigHealth r v).gang = s.gang := rfl
@[simp] theorem setRigHealth_fault (s : State) (r : Rig) (v : HealthRec) : (s.setRigHealth r v).fault = s.fault := rfl
@[simp] theorem setRigHealth_mgmt (s : State) (r : Rig) (v : HealthRec) : (s.setRigHealth r v).mgmt = s.mgmt := rfl
@[simp] theorem setRigHealth_pending (s : State) (r : Rig) (v : HealthRec) : (s.setRigHealth r v).pending = s.pending := rfl

/-! ## setGroup -/

@[simp] theorem setGroup_framer (s : State) (g : Fin 8) (v : Group) : (s.setGroup g v).framer = s.framer := rfl
@[simp] theorem setGroup_links (s : State) (g : Fin 8) (v : Group) : (s.setGroup g v).links = s.links := rfl
@[simp] theorem setGroup_align (s : State) (g : Fin 8) (v : Group) : (s.setGroup g v).align = s.align := rfl
@[simp] theorem setGroup_health (s : State) (g : Fin 8) (v : Group) : (s.setGroup g v).health = s.health := rfl
@[simp] theorem setGroup_cues (s : State) (g : Fin 8) (v : Group) : (s.setGroup g v).cues = s.cues := rfl
@[simp] theorem setGroup_ctl (s : State) (g : Fin 8) (v : Group) : (s.setGroup g v).ctl = { s.ctl with groups := s.ctl.groups.set g v } := rfl
@[simp] theorem setGroup_routes (s : State) (g : Fin 8) (v : Group) : (s.setGroup g v).routes = s.routes := rfl
@[simp] theorem setGroup_store (s : State) (g : Fin 8) (v : Group) : (s.setGroup g v).store = s.store := rfl
@[simp] theorem setGroup_player (s : State) (g : Fin 8) (v : Group) : (s.setGroup g v).player = s.player := rfl
@[simp] theorem setGroup_gang (s : State) (g : Fin 8) (v : Group) : (s.setGroup g v).gang = s.gang := rfl
@[simp] theorem setGroup_fault (s : State) (g : Fin 8) (v : Group) : (s.setGroup g v).fault = s.fault := rfl
@[simp] theorem setGroup_mgmt (s : State) (g : Fin 8) (v : Group) : (s.setGroup g v).mgmt = s.mgmt := rfl
@[simp] theorem setGroup_pending (s : State) (g : Fin 8) (v : Group) : (s.setGroup g v).pending = s.pending := rfl

/-! ## setStamps -/

@[simp] theorem setStamps_framer (s : State) (v : Stamps) : (s.setStamps v).framer = s.framer := rfl
@[simp] theorem setStamps_links (s : State) (v : Stamps) : (s.setStamps v).links = s.links := rfl
@[simp] theorem setStamps_align (s : State) (v : Stamps) : (s.setStamps v).align = s.align := rfl
@[simp] theorem setStamps_health (s : State) (v : Stamps) : (s.setStamps v).health = s.health := rfl
@[simp] theorem setStamps_cues (s : State) (v : Stamps) : (s.setStamps v).cues = s.cues := rfl
@[simp] theorem setStamps_ctl (s : State) (v : Stamps) : (s.setStamps v).ctl = { s.ctl with stamps := v } := rfl
@[simp] theorem setStamps_routes (s : State) (v : Stamps) : (s.setStamps v).routes = s.routes := rfl
@[simp] theorem setStamps_store (s : State) (v : Stamps) : (s.setStamps v).store = s.store := rfl
@[simp] theorem setStamps_player (s : State) (v : Stamps) : (s.setStamps v).player = s.player := rfl
@[simp] theorem setStamps_gang (s : State) (v : Stamps) : (s.setStamps v).gang = s.gang := rfl
@[simp] theorem setStamps_fault (s : State) (v : Stamps) : (s.setStamps v).fault = s.fault := rfl
@[simp] theorem setStamps_mgmt (s : State) (v : Stamps) : (s.setStamps v).mgmt = s.mgmt := rfl
@[simp] theorem setStamps_pending (s : State) (v : Stamps) : (s.setStamps v).pending = s.pending := rfl

/-! ## setHolders -/

@[simp] theorem setHolders_framer (s : State) (p : CtlPort) (v : Holders) : (s.setHolders p v).framer = { s.framer with holders := s.framer.holders.set p v } := rfl
@[simp] theorem setHolders_links (s : State) (p : CtlPort) (v : Holders) : (s.setHolders p v).links = s.links := rfl
@[simp] theorem setHolders_align (s : State) (p : CtlPort) (v : Holders) : (s.setHolders p v).align = s.align := rfl
@[simp] theorem setHolders_health (s : State) (p : CtlPort) (v : Holders) : (s.setHolders p v).health = s.health := rfl
@[simp] theorem setHolders_cues (s : State) (p : CtlPort) (v : Holders) : (s.setHolders p v).cues = s.cues := rfl
@[simp] theorem setHolders_ctl (s : State) (p : CtlPort) (v : Holders) : (s.setHolders p v).ctl = s.ctl := rfl
@[simp] theorem setHolders_routes (s : State) (p : CtlPort) (v : Holders) : (s.setHolders p v).routes = s.routes := rfl
@[simp] theorem setHolders_store (s : State) (p : CtlPort) (v : Holders) : (s.setHolders p v).store = s.store := rfl
@[simp] theorem setHolders_player (s : State) (p : CtlPort) (v : Holders) : (s.setHolders p v).player = s.player := rfl
@[simp] theorem setHolders_gang (s : State) (p : CtlPort) (v : Holders) : (s.setHolders p v).gang = s.gang := rfl
@[simp] theorem setHolders_fault (s : State) (p : CtlPort) (v : Holders) : (s.setHolders p v).fault = s.fault := rfl
@[simp] theorem setHolders_mgmt (s : State) (p : CtlPort) (v : Holders) : (s.setHolders p v).mgmt = s.mgmt := rfl
@[simp] theorem setHolders_pending (s : State) (p : CtlPort) (v : Holders) : (s.setHolders p v).pending = s.pending := rfl

/-! ## setService -/

@[simp] theorem setService_framer (s : State) (p : CtlPort) (v : Option Service) : (s.setService p v).framer = s.framer := rfl
@[simp] theorem setService_links (s : State) (p : CtlPort) (v : Option Service) : (s.setService p v).links = s.links := rfl
@[simp] theorem setService_align (s : State) (p : CtlPort) (v : Option Service) : (s.setService p v).align = s.align := rfl
@[simp] theorem setService_health (s : State) (p : CtlPort) (v : Option Service) : (s.setService p v).health = s.health := rfl
@[simp] theorem setService_cues (s : State) (p : CtlPort) (v : Option Service) : (s.setService p v).cues = s.cues := rfl
@[simp] theorem setService_ctl (s : State) (p : CtlPort) (v : Option Service) : (s.setService p v).ctl = s.ctl := rfl
@[simp] theorem setService_routes (s : State) (p : CtlPort) (v : Option Service) : (s.setService p v).routes = s.routes := rfl
@[simp] theorem setService_store (s : State) (p : CtlPort) (v : Option Service) : (s.setService p v).store = s.store := rfl
@[simp] theorem setService_player (s : State) (p : CtlPort) (v : Option Service) : (s.setService p v).player = s.player := rfl
@[simp] theorem setService_gang (s : State) (p : CtlPort) (v : Option Service) : (s.setService p v).gang = s.gang := rfl
@[simp] theorem setService_fault (s : State) (p : CtlPort) (v : Option Service) : (s.setService p v).fault = s.fault := rfl
@[simp] theorem setService_mgmt (s : State) (p : CtlPort) (v : Option Service) : (s.setService p v).mgmt = { s.mgmt with inService := s.mgmt.inService.set p v } := rfl
@[simp] theorem setService_pending (s : State) (p : CtlPort) (v : Option Service) : (s.setService p v).pending = s.pending := rfl

/-! ## Records read after an update -/

@[simp] theorem setRigHealth_monitor (s : State) (r : Rig) (v : HealthRec) : (s.setRigHealth r v).monitor r = v :=
  Pair.get_set_same _ _ _
@[simp] theorem setRigHealth_monitor_other (s : State) (r q : Rig) (v : HealthRec) (h : q ≠ r) :
    (s.setRigHealth r v).monitor q = s.monitor q := Pair.get_set_other _ _ _ _ h
@[simp] theorem setAlignRig_rig (s : State) (r : Rig) (v : AlignRig) : (s.setAlignRig r v).rig r = v := Pair.get_set_same _ _ _
@[simp] theorem setAlignRig_rig_other (s : State) (r q : Rig) (v : AlignRig) (h : q ≠ r) : (s.setAlignRig r v).rig q = s.rig q :=
  Pair.get_set_other _ _ _ _ h
@[simp] theorem setAlignRig_prog (s : State) (r : Rig) (v : AlignRig) : (s.setAlignRig r v).prog = s.prog := rfl
@[simp] theorem setProg_prog (s : State) (v : Program) : (s.setProg v).prog = v := rfl
@[simp] theorem setProg_rig (s : State) (v : Program) (r : Rig) : (s.setProg v).rig r = s.rig r := rfl
@[simp] theorem setGroup_group (s : State) (g : Fin 8) (v : Group) : (s.setGroup g v).group g = v := Oct.get_set_same _ _ _
@[simp] theorem setGroup_group_other (s : State) (g j : Fin 8) (v : Group) (h : j ≠ g) : (s.setGroup g v).group j = s.group j :=
  Oct.get_set_other _ _ _ _ h
@[simp] theorem setGroup_policy (s : State) (g j : Fin 8) (v : Group) : (s.setGroup g v).policy j = s.policy j := rfl
@[simp] theorem setHolders_holders (s : State) (p : CtlPort) (v : Holders) : (s.setHolders p v).holders p = v := Four.get_set_same _ _ _

end State

end Machine
end Sys2Proof
end

