-- ==== Sys2Proof/Laws/Keep.lean ====
section
/-! SUPPORT. Each update of a block keeps Inv when what it writes keeps the block's own part: the setters, the records read back, and
the shared operations of Ops.lean. -/

namespace Sys2Proof.Machine

/-! ## What Inv says of one record -/

theorem Inv.rig {s : State} (h : Inv s) (r : Rig) : RigOk (s.rig r) := by
  cases r
  · exact h.align.1
  · exact h.align.2.1

theorem Inv.prog {s : State} (h : Inv s) : ProgOk s.prog := h.align.2.2
theorem Inv.stepRec {s : State} (h : Inv s) (r : Rig) : StepOk (s.rig r).step := (h.rig r).2
theorem Inv.ring {s : State} (h : Inv s) (r : Rig) : (s.rig r).ring.length ≤ 64 := (h.rig r).1

@[simp] theorem Inv.limits {s : State} (h : Inv s) (r : Rig) : State.limitsValid (s.monitor r).limits = true := (h.health r).1
@[simp] theorem Inv.gap {s : State} (h : Inv s) (r : Rig) : (s.monitor r).gap ≤ 400 := (h.health r).2.1
@[simp] theorem Inv.bucket {s : State} (h : Inv s) (r : Rig) : (s.monitor r).bucket ≤ 1024 := (h.health r).2.2.1
@[simp] theorem Inv.pilotCount {s : State} (h : Inv s) (r : Rig) : (s.monitor r).pilotCount ≤ 4000 := (h.health r).2.2.2.1
@[simp] theorem Inv.patches {s : State} (h : Inv s) (r : Rig) : (s.monitor r).patches ≤ 65535 := (h.health r).2.2.2.2.1
@[simp] theorem Inv.recovery {s : State} (h : Inv s) (r : Rig) : (s.monitor r).recovery.getD 0 ≤ (s.monitor r).limits.recovery :=
  (h.health r).2.2.2.2.2.1
@[simp] theorem Inv.softJump {s : State} (h : Inv s) (r : Rig) : (s.monitor r).softJump.getD 0 ≤ 4000 := (h.health r).2.2.2.2.2.2.1
@[simp] theorem Inv.hard {s : State} (h : Inv s) (r : Rig) : HardOk (s.monitor r).state (s.monitor r).hard := (h.health r).2.2.2.2.2.2.2
@[simp] theorem Inv.activeBank {s : State} (h : Inv s) : BankOk s.routes.active := h.routes.1
@[simp] theorem Inv.shadowBank {s : State} (h : Inv s) : BankOk s.routes.shadow := h.routes.2
@[simp] theorem Inv.gangOk {s : State} (h : Inv s) : GangOk s.gang := h.gang
@[simp] theorem Inv.linkOk {s : State} (h : Inv s) (p : Port) : LinkOk (s.links.get p) := h.links p

/-! ## The records' own parts, field by field -/

/-- What MonitorOk asks of a record given by its fields. -/
@[simp] theorem MonitorOk.fields {st : HealthState} {hd : HardSet} {w p rs rr : Bool} {g b pc pp q pt : Nat} {rf : Option ContRef}
    {sj rec : Option Nat} {ls : Option Half} {cp : BadCapture} {l : HealthLimits} {ev : Option HealthEvent} :
    MonitorOk { state := st, hard := hd, warn := w, playing := p, gap := g, repeatStall := rs, bucket := b, pilotCount := pc
                pilotPeak := pp, ref := rf, softJump := sj, qual := q, lastSeq := ls, recovery := rec, requalifyReady := rr
                patches := pt, capture := cp, limits := l, event := ev }
      ↔ State.limitsValid l = true ∧ g ≤ 400 ∧ b ≤ 1024 ∧ pc ≤ 4000 ∧ pt ≤ 65535 ∧ rec.getD 0 ≤ l.recovery ∧ sj.getD 0 ≤ 4000
        ∧ HardOk st hd := Iff.rfl

theorem HardOk.of_ne {st : HealthState} {h : HardSet} (hn : st ≠ .offline) : HardOk st h := fun e => absurd e hn

@[simp] theorem HardOk.offline_clear : HardOk .offline Reset.hard := fun _ => rfl
@[simp] theorem HardOk.qualifying {h : HardSet} : HardOk .qualifying h := HardOk.of_ne (by decide)
@[simp] theorem HardOk.stopped {h : HardSet} : HardOk .stopped h := HardOk.of_ne (by decide)
@[simp] theorem HardOk.healthy {h : HardSet} : HardOk .healthy h := HardOk.of_ne (by decide)
@[simp] theorem HardOk.suspect {h : HardSet} : HardOk .suspect h := HardOk.of_ne (by decide)
@[simp] theorem HardOk.failed {h : HardSet} : HardOk .failed h := HardOk.of_ne (by decide)

@[simp] theorem HardOk.clear {st : HealthState} {h : HardSet} (hh : HardOk st h) (c : HardCond) : HardOk st (h.set c false) := by
  intro e
  have := hh e
  simp only [HardSet.isEmpty, Bool.and_eq_true, Bool.not_eq_true'] at this
  cases c <;> simp_all [HardSet.set, HardSet.isEmpty]

/-- A part of GangOk that another field's update leaves as it is. -/
theorem GangOk.same {g k : Gang} (h : GangOk g) (h1 : k.rows = g.rows) (h2 : k.silence = g.silence) (h3 : k.run = g.run)
    (h4 : k.role = g.role) (h5 : k.state = g.state) (h6 : k.position = g.position) (h7 : k.size = g.size) : GangOk k := by
  unfold GangOk Gang.presentCount at h ⊢
  rw [h1, h2, h3, h4, h5, h6, h7]
  exact h

@[simp] theorem GangOk.vector {g : Gang} (v : Oct (Option VecEntry)) : GangOk { g with vector := v } ↔ GangOk g := Iff.rfl
@[simp] theorem GangOk.emergency {g : Gang} (v : Oct Bool) : GangOk { g with emergency := v } ↔ GangOk g := Iff.rfl
@[simp] theorem GangOk.waiting {g : Gang} (v : Oct (Option Waiting)) : GangOk { g with waiting := v } ↔ GangOk g := Iff.rfl
@[simp] theorem GangOk.applied {g : Gang} (a : Oct (Option Byte)) (w : Oct (Option Waiting)) :
    GangOk { g with applied := a, waiting := w } ↔ GangOk g := Iff.rfl
@[simp] theorem GangOk.appliedEmergency {g : Gang} (a : Oct (Option Byte)) (w : Oct (Option Waiting)) (e : Oct Bool) :
    GangOk { g with applied := a, waiting := w, emergency := e } ↔ GangOk g := Iff.rfl
@[simp] theorem GangOk.relay {g : Gang} (v : Option Tick) : GangOk { g with relay := v } ↔ GangOk g := Iff.rfl
@[simp] theorem GangOk.below {g : Gang} (v : List UnitEntry) : GangOk { g with below := v } ↔ GangOk g := Iff.rfl
@[simp] theorem GangOk.tickTaken {g : Gang} (v : Bool) : GangOk { g with tickTaken := v } ↔ GangOk g := Iff.rfl

/-! ## The setters -/

namespace State

variable {s : State}

@[simp] theorem setFramer_inv (v : Framer) : Inv (s.setFramer v) ↔ Inv s := ⟨fun h => { h with }, fun h => { h with }⟩
@[simp] theorem setPlayer_inv (v : Player) : Inv (s.setPlayer v) ↔ Inv s := ⟨fun h => { h with }, fun h => { h with }⟩
@[simp] theorem setPending_inv (v : List Instr) : Inv (s.setPending v) ↔ Inv s := ⟨fun h => { h with }, fun h => { h with }⟩

theorem setLinks_inv {v : Six PortLink} (h : Inv s) (hv : ∀ p, LinkOk (v.get p)) : Inv (s.setLinks v) := { h with links := hv }
theorem setHealth_inv {v : Pair HealthRec} (h : Inv s) (hv : ∀ r, MonitorOk (v.get r)) : Inv (s.setHealth v) := { h with health := hv }
@[simp] theorem setRoutes_inv {v : RouteTable} (h : Inv s) (ha : BankOk v.active) (hb : BankOk v.shadow) : Inv (s.setRoutes v) :=
  { h with routes := ⟨ha, hb⟩ }
@[simp] theorem setGang_inv {v : Gang} (h : Inv s) (hv : GangOk v) : Inv (s.setGang v) := { h with gang := hv }
theorem setAlign_inv {v : Align} (h : Inv s) (hv : AlignOk v) : Inv (s.setAlign v) := { h with align := hv }
theorem setCtl_inv {v : Controller} (h : Inv s) (hv : JournalOk v.journal) : Inv (s.setCtl v) := { h with journal := hv }
theorem setFault_inv {v : FaultRecord} (h : Inv s) (hv : RecordOk v) : Inv (s.setFault v) := { h with record := hv }
theorem setCues_inv {v : CueMap} (h : Inv s) (hv : CuesOk v) : Inv (s.setCues v) := { h with cues := hv }
theorem setStore_inv {v : Store} (h : Inv s) (hv : StoreOk v) : Inv (s.setStore v) := { h with store := hv }
theorem setMgmt_inv {v : Mgmt} (h : Inv s) (hv : someFull v.grants = true) : Inv (s.setMgmt v) := { h with grants := hv }

@[simp] theorem setLink_inv {p : Port} {v : PortLink} (h : Inv s) (hv : LinkOk v) : Inv (s.setLink p v) :=
  setLinks_inv h (fun q => by
    by_cases hq : q = p
    · subst hq; simpa using hv
    · rw [Six.get_set_other _ _ _ _ hq]; exact h.links q)

@[simp] theorem setRigHealth_inv {r : Rig} {v : HealthRec} (h : Inv s) (hv : MonitorOk v) : Inv (s.setRigHealth r v) :=
  setHealth_inv h (fun q => by
    by_cases hq : q = r
    · subst hq; simpa using hv
    · rw [Pair.get_set_other _ _ _ _ hq]; exact h.health q)

theorem setAlignRig_inv {r : Rig} {v : AlignRig} (h : Inv s) (hv : RigOk v) : Inv (s.setAlignRig r v) := by
  cases r
  · exact setAlign_inv h ⟨hv, h.align.2.1, h.align.2.2⟩
  · exact setAlign_inv h ⟨h.align.1, hv, h.align.2.2⟩

theorem setProg_inv {v : Program} (h : Inv s) (hv : ProgOk v) : Inv (s.setProg v) := setAlign_inv h ⟨h.align.1, h.align.2.1, hv⟩

theorem setStep_inv {r : Rig} {v : StepRec} (h : Inv s) (hv : StepOk v) : Inv (s.setStep r v) := setAlignRig_inv h ⟨h.ring r, hv⟩

@[simp] theorem setHolders_inv (p : CtlPort) (v : Holders) : Inv (s.setHolders p v) ↔ Inv s := setFramer_inv _
@[simp] theorem setGroup_inv (g : Fin 8) (v : Group) : Inv (s.setGroup g v) ↔ Inv s := ⟨fun h => { h with }, fun h => { h with }⟩
@[simp] theorem setStamps_inv (v : Stamps) : Inv (s.setStamps v) ↔ Inv s := ⟨fun h => { h with }, fun h => { h with }⟩
@[simp] theorem setService_inv (p : CtlPort) (v : Option Service) : Inv (s.setService p v) ↔ Inv s :=
  ⟨fun h => { h with }, fun h => { h with }⟩

end State

/-! ## The fault record (R159, R161) -/

theorem FaultKind.mem_join (k j : FaultKind) (l : List FaultKind) : j ∈ FaultKind.join k l → j = k ∨ j ∈ l := by
  induction l with
  | nil => intro h; simpa [FaultKind.join] using h
  | cons x m ih =>
    simp only [FaultKind.join]
    split
    · intro h; simpa using h
    · split
      · intro h; exact Or.inr h
      · intro h
        rcases List.mem_cons.mp h with h | h
        · exact Or.inr (by simp [h])
        · rcases ih h with h | h
          · exact Or.inl h
          · exact Or.inr (by simp [h])

theorem FaultKind.join_ascending (k : FaultKind) (l : List FaultKind) (h : l.Pairwise (fun x y => x.code < y.code)) :
    (FaultKind.join k l).Pairwise (fun x y => x.code < y.code) := by
  induction l with
  | nil => simp [FaultKind.join]
  | cons x m ih =>
    have hx := List.pairwise_cons.mp h
    simp only [FaultKind.join]
    split
    · rename_i hk
      refine List.pairwise_cons.mpr ⟨?_, h⟩
      intro y hy
      rcases List.mem_cons.mp hy with hy | hy
      · exact hy ▸ hk
      · exact Nat.lt_trans hk (hx.1 y hy)
    · split
      · exact h
      · rename_i h1 h2
        refine List.pairwise_cons.mpr ⟨?_, ih hx.2⟩
        intro y hy
        rcases FaultKind.mem_join k y m hy with hy | hy
        · subst hy; omega
        · exact hx.1 y hy

theorem FaultRecord.take_ok {f : FaultRecord} (h : RecordOk f) (x : FirstFault) : RecordOk (f.take x) := by
  unfold FaultRecord.take
  split
  · exact ⟨fun e => by simp at e, h.2⟩
  · rename_i hf
    exact ⟨fun e => by simp [hf] at e, FaultKind.join_ascending _ _ h.2⟩

namespace State

variable {s : State}

@[simp] theorem raise_inv {k : FaultKind} {o : FaultOrigin} {d : FaultDetail} (h : Inv s) : Inv (s.raise k o d) :=
  setFault_inv h (FaultRecord.take_ok h.record _)

/-- A fault is taken by the record and by nothing else. -/
@[simp] theorem raise_framer (k : FaultKind) (o : FaultOrigin) (d : FaultDetail) : (s.raise k o d).framer = s.framer := rfl
@[simp] theorem raise_links (k : FaultKind) (o : FaultOrigin) (d : FaultDetail) : (s.raise k o d).links = s.links := rfl
@[simp] theorem raise_align (k : FaultKind) (o : FaultOrigin) (d : FaultDetail) : (s.raise k o d).align = s.align := rfl
@[simp] theorem raise_health (k : FaultKind) (o : FaultOrigin) (d : FaultDetail) : (s.raise k o d).health = s.health := rfl
@[simp] theorem raise_cues (k : FaultKind) (o : FaultOrigin) (d : FaultDetail) : (s.raise k o d).cues = s.cues := rfl
@[simp] theorem raise_ctl (k : FaultKind) (o : FaultOrigin) (d : FaultDetail) : (s.raise k o d).ctl = s.ctl := rfl
@[simp] theorem raise_routes (k : FaultKind) (o : FaultOrigin) (d : FaultDetail) : (s.raise k o d).routes = s.routes := rfl
@[simp] theorem raise_store (k : FaultKind) (o : FaultOrigin) (d : FaultDetail) : (s.raise k o d).store = s.store := rfl
@[simp] theorem raise_player (k : FaultKind) (o : FaultOrigin) (d : FaultDetail) : (s.raise k o d).player = s.player := rfl
@[simp] theorem raise_gang (k : FaultKind) (o : FaultOrigin) (d : FaultDetail) : (s.raise k o d).gang = s.gang := rfl
@[simp] theorem raise_mgmt (k : FaultKind) (o : FaultOrigin) (d : FaultDetail) : (s.raise k o d).mgmt = s.mgmt := rfl
@[simp] theorem raise_pending (k : FaultKind) (o : FaultOrigin) (d : FaultDetail) : (s.raise k o d).pending = s.pending := rfl

/-! ## Replies -/

@[simp] theorem answerKind_inv (h : CtlHead) (b : Byte) (c : Completion) (d : ReplyData) : Inv (s.answerKind h b c d) ↔ Inv s :=
  setHolders_inv _ _
@[simp] theorem answer_inv (h : CtlHead) (k : ReqKind) (c : Completion) (d : ReplyData) : Inv (s.answer h k c d) ↔ Inv s :=
  setHolders_inv _ _
@[simp] theorem accept_inv (h : CtlHead) (k : ReqKind) : Inv (s.accept h k) ↔ Inv s := setService_inv _ _

@[simp] theorem complete_inv {p : CtlPort} {c : Completion} (h : Inv s) : Inv (s.complete p c) := by
  unfold complete
  split
  · exact h
  · simpa using h

end State

end Sys2Proof.Machine
end

