-- ==== Sys2Proof/Laws/FrameRigs.lean ====
section
/-! SUPPORT. What each operation leaves alone: the health monitors, the bed player and the alignment buffer. -/

namespace Sys2Proof.Machine.State

variable {s : State}

/-! ## Ops.lean -/

@[simp] theorem complete_frame (p : CtlPort) (code : Completion) :
    (s.complete p code).links = s.links ∧ (s.complete p code).health = s.health ∧ (s.complete p code).cues = s.cues
    ∧ (s.complete p code).routes = s.routes ∧ (s.complete p code).store = s.store ∧ (s.complete p code).player = s.player
    ∧ (s.complete p code).gang = s.gang ∧ (s.complete p code).fault = s.fault ∧ (s.complete p code).pending = s.pending
    ∧ (s.complete p code).align = s.align ∧ (s.complete p code).ctl = s.ctl := by
  simp only [complete]
  split <;> simp
/-! ## Health.lean -/

@[simp] theorem clearStamp_frame (r : Rig) :
    (s.clearStamp r).framer = s.framer ∧ (s.clearStamp r).links = s.links ∧ (s.clearStamp r).health = s.health ∧ (s.clearStamp r).cues = s.cues
    ∧ (s.clearStamp r).ctl.groups = s.ctl.groups ∧ (s.clearStamp r).ctl.policies = s.ctl.policies ∧ (s.clearStamp r).ctl.journal = s.ctl.journal
    ∧ (s.clearStamp r).routes = s.routes ∧ (s.clearStamp r).store = s.store ∧ (s.clearStamp r).player = s.player ∧ (s.clearStamp r).gang = s.gang
    ∧ (s.clearStamp r).fault = s.fault ∧ (s.clearStamp r).mgmt = s.mgmt ∧ (s.clearStamp r).pending = s.pending ∧ (s.clearStamp r).align = s.align := by
  simp [clearStamp]
@[simp] theorem healthChange_frame (r : Rig) (after : HealthState) (reason : HealthReason) :
    (s.healthChange r after reason).framer = s.framer ∧ (s.healthChange r after reason).links = s.links ∧ (s.healthChange r after reason).cues = s.cues
    ∧ (s.healthChange r after reason).ctl.groups = s.ctl.groups ∧ (s.healthChange r after reason).ctl.policies = s.ctl.policies
    ∧ (s.healthChange r after reason).ctl.journal = s.ctl.journal ∧ (s.healthChange r after reason).routes = s.routes
    ∧ (s.healthChange r after reason).store = s.store ∧ (s.healthChange r after reason).player = s.player
    ∧ (s.healthChange r after reason).gang = s.gang ∧ (s.healthChange r after reason).fault = s.fault ∧ (s.healthChange r after reason).mgmt = s.mgmt
    ∧ (s.healthChange r after reason).pending = s.pending ∧ (s.healthChange r after reason).align = s.align := by
  simp only [healthChange]
  (repeat' split) <;> simp
@[simp] theorem setHard_frame (r : Rig) (c : HardCond) (d : FaultDetail) :
    (s.setHard r c d).framer = s.framer ∧ (s.setHard r c d).links = s.links ∧ (s.setHard r c d).cues = s.cues
    ∧ (s.setHard r c d).ctl.groups = s.ctl.groups ∧ (s.setHard r c d).ctl.policies = s.ctl.policies ∧ (s.setHard r c d).ctl.journal = s.ctl.journal
    ∧ (s.setHard r c d).routes = s.routes ∧ (s.setHard r c d).store = s.store ∧ (s.setHard r c d).player = s.player ∧ (s.setHard r c d).gang = s.gang
    ∧ (s.setHard r c d).mgmt = s.mgmt ∧ (s.setHard r c d).pending = s.pending ∧ (s.setHard r c d).align = s.align := by
  simp only [setHard]
  (repeat' split) <;> simp
@[simp] theorem clearHard_frame (r : Rig) (c : HardCond) :
    (s.clearHard r c).framer = s.framer ∧ (s.clearHard r c).links = s.links ∧ (s.clearHard r c).cues = s.cues ∧ (s.clearHard r c).routes = s.routes
    ∧ (s.clearHard r c).store = s.store ∧ (s.clearHard r c).player = s.player ∧ (s.clearHard r c).gang = s.gang ∧ (s.clearHard r c).fault = s.fault
    ∧ (s.clearHard r c).mgmt = s.mgmt ∧ (s.clearHard r c).pending = s.pending ∧ (s.clearHard r c).align = s.align ∧ (s.clearHard r c).ctl = s.ctl := by
  simp [clearHard]
@[simp] theorem startRecovery_frame (r : Rig) (before : Bool) :
    (s.startRecovery r before).framer = s.framer ∧ (s.startRecovery r before).links = s.links ∧ (s.startRecovery r before).cues = s.cues
    ∧ (s.startRecovery r before).routes = s.routes ∧ (s.startRecovery r before).store = s.store ∧ (s.startRecovery r before).player = s.player
    ∧ (s.startRecovery r before).gang = s.gang ∧ (s.startRecovery r before).fault = s.fault ∧ (s.startRecovery r before).mgmt = s.mgmt
    ∧ (s.startRecovery r before).pending = s.pending ∧ (s.startRecovery r before).align = s.align ∧ (s.startRecovery r before).ctl = s.ctl := by
  simp only [startRecovery]
  split <;> simp
@[simp] theorem regrade_frame (r : Rig) (k : FrameKind) :
    (s.regrade r k).framer = s.framer ∧ (s.regrade r k).links = s.links ∧ (s.regrade r k).cues = s.cues ∧ (s.regrade r k).ctl.groups = s.ctl.groups
    ∧ (s.regrade r k).ctl.policies = s.ctl.policies ∧ (s.regrade r k).ctl.journal = s.ctl.journal ∧ (s.regrade r k).routes = s.routes
    ∧ (s.regrade r k).store = s.store ∧ (s.regrade r k).player = s.player ∧ (s.regrade r k).gang = s.gang ∧ (s.regrade r k).fault = s.fault
    ∧ (s.regrade r k).mgmt = s.mgmt ∧ (s.regrade r k).pending = s.pending ∧ (s.regrade r k).align = s.align := by
  simp only [regrade]
  (repeat' split) <;> simp
@[simp] theorem stallReached_frame (r : Rig) :
    (s.stallReached r).framer = s.framer ∧ (s.stallReached r).links = s.links ∧ (s.stallReached r).cues = s.cues
    ∧ (s.stallReached r).ctl.groups = s.ctl.groups ∧ (s.stallReached r).ctl.policies = s.ctl.policies ∧ (s.stallReached r).ctl.journal = s.ctl.journal
    ∧ (s.stallReached r).routes = s.routes ∧ (s.stallReached r).store = s.store ∧ (s.stallReached r).player = s.player
    ∧ (s.stallReached r).gang = s.gang ∧ (s.stallReached r).mgmt = s.mgmt ∧ (s.stallReached r).pending = s.pending ∧ (s.stallReached r).align = s.align := by
  simp only [stallReached]
  (repeat' split) <;> simp
@[simp] theorem gapSlot_frame (r : Rig) (live : Bool) :
    (s.gapSlot r live).framer = s.framer ∧ (s.gapSlot r live).links = s.links ∧ (s.gapSlot r live).cues = s.cues
    ∧ (s.gapSlot r live).ctl.groups = s.ctl.groups ∧ (s.gapSlot r live).ctl.policies = s.ctl.policies ∧ (s.gapSlot r live).ctl.journal = s.ctl.journal
    ∧ (s.gapSlot r live).routes = s.routes ∧ (s.gapSlot r live).store = s.store ∧ (s.gapSlot r live).player = s.player
    ∧ (s.gapSlot r live).gang = s.gang ∧ (s.gapSlot r live).mgmt = s.mgmt ∧ (s.gapSlot r live).pending = s.pending ∧ (s.gapSlot r live).align = s.align := by
  simp only [gapSlot]
  (repeat' split) <;> simp
@[simp] theorem bucketSlot_frame (r : Rig) (valid : Bool) :
    (s.bucketSlot r valid).framer = s.framer ∧ (s.bucketSlot r valid).links = s.links ∧ (s.bucketSlot r valid).cues = s.cues
    ∧ (s.bucketSlot r valid).ctl.groups = s.ctl.groups ∧ (s.bucketSlot r valid).ctl.policies = s.ctl.policies
    ∧ (s.bucketSlot r valid).ctl.journal = s.ctl.journal ∧ (s.bucketSlot r valid).routes = s.routes ∧ (s.bucketSlot r valid).store = s.store
    ∧ (s.bucketSlot r valid).player = s.player ∧ (s.bucketSlot r valid).gang = s.gang ∧ (s.bucketSlot r valid).mgmt = s.mgmt
    ∧ (s.bucketSlot r valid).pending = s.pending ∧ (s.bucketSlot r valid).align = s.align := by
  simp only [bucketSlot]
  (repeat' split) <;> simp
@[simp] theorem pilotReached_frame (r : Rig) :
    (s.pilotReached r).framer = s.framer ∧ (s.pilotReached r).links = s.links ∧ (s.pilotReached r).cues = s.cues
    ∧ (s.pilotReached r).ctl.groups = s.ctl.groups ∧ (s.pilotReached r).ctl.policies = s.ctl.policies ∧ (s.pilotReached r).ctl.journal = s.ctl.journal
    ∧ (s.pilotReached r).routes = s.routes ∧ (s.pilotReached r).store = s.store ∧ (s.pilotReached r).player = s.player
    ∧ (s.pilotReached r).gang = s.gang ∧ (s.pilotReached r).mgmt = s.mgmt ∧ (s.pilotReached r).pending = s.pending ∧ (s.pilotReached r).align = s.align := by
  simp [pilotReached]
@[simp] theorem pilotSlot_frame (r : Rig) (f : InFrame) :
    (s.pilotSlot r f).framer = s.framer ∧ (s.pilotSlot r f).links = s.links ∧ (s.pilotSlot r f).cues = s.cues
    ∧ (s.pilotSlot r f).ctl.groups = s.ctl.groups ∧ (s.pilotSlot r f).ctl.policies = s.ctl.policies ∧ (s.pilotSlot r f).ctl.journal = s.ctl.journal
    ∧ (s.pilotSlot r f).routes = s.routes ∧ (s.pilotSlot r f).store = s.store ∧ (s.pilotSlot r f).player = s.player ∧ (s.pilotSlot r f).gang = s.gang
    ∧ (s.pilotSlot r f).mgmt = s.mgmt ∧ (s.pilotSlot r f).pending = s.pending ∧ (s.pilotSlot r f).align = s.align := by
  simp only [pilotSlot]
  (repeat' split) <;> simp
@[simp] theorem jumped_frame (r : Rig) (p : ShowPos) :
    (s.jumped r p).framer = s.framer ∧ (s.jumped r p).links = s.links ∧ (s.jumped r p).cues = s.cues ∧ (s.jumped r p).ctl.groups = s.ctl.groups
    ∧ (s.jumped r p).ctl.policies = s.ctl.policies ∧ (s.jumped r p).ctl.journal = s.ctl.journal ∧ (s.jumped r p).routes = s.routes
    ∧ (s.jumped r p).store = s.store ∧ (s.jumped r p).player = s.player ∧ (s.jumped r p).gang = s.gang ∧ (s.jumped r p).mgmt = s.mgmt
    ∧ (s.jumped r p).pending = s.pending ∧ (s.jumped r p).align = s.align := by
  simp only [jumped]
  split <;> simp
@[simp] theorem continuitySlot_frame (r : Rig) (f : InFrame) (slot : Word) :
    (s.continuitySlot r f slot).framer = s.framer ∧ (s.continuitySlot r f slot).links = s.links ∧ (s.continuitySlot r f slot).cues = s.cues
    ∧ (s.continuitySlot r f slot).ctl.groups = s.ctl.groups ∧ (s.continuitySlot r f slot).ctl.policies = s.ctl.policies
    ∧ (s.continuitySlot r f slot).ctl.journal = s.ctl.journal ∧ (s.continuitySlot r f slot).routes = s.routes
    ∧ (s.continuitySlot r f slot).store = s.store ∧ (s.continuitySlot r f slot).player = s.player ∧ (s.continuitySlot r f slot).gang = s.gang
    ∧ (s.continuitySlot r f slot).mgmt = s.mgmt ∧ (s.continuitySlot r f slot).pending = s.pending ∧ (s.continuitySlot r f slot).align = s.align := by
  simp only [continuitySlot]
  (repeat' split) <;> simp
@[simp] theorem declaredSlot_frame (r : Rig) (f : InFrame) :
    (s.declaredSlot r f).framer = s.framer ∧ (s.declaredSlot r f).links = s.links ∧ (s.declaredSlot r f).cues = s.cues
    ∧ (s.declaredSlot r f).ctl.groups = s.ctl.groups ∧ (s.declaredSlot r f).ctl.policies = s.ctl.policies
    ∧ (s.declaredSlot r f).ctl.journal = s.ctl.journal ∧ (s.declaredSlot r f).routes = s.routes ∧ (s.declaredSlot r f).store = s.store
    ∧ (s.declaredSlot r f).player = s.player ∧ (s.declaredSlot r f).gang = s.gang ∧ (s.declaredSlot r f).mgmt = s.mgmt
    ∧ (s.declaredSlot r f).pending = s.pending ∧ (s.declaredSlot r f).align = s.align := by
  simp only [declaredSlot]
  split <;> simp
@[simp] theorem noStartSlot_frame (r : Rig) (f : InFrame) :
    (s.noStartSlot r f).framer = s.framer ∧ (s.noStartSlot r f).links = s.links ∧ (s.noStartSlot r f).cues = s.cues
    ∧ (s.noStartSlot r f).routes = s.routes ∧ (s.noStartSlot r f).store = s.store ∧ (s.noStartSlot r f).player = s.player
    ∧ (s.noStartSlot r f).gang = s.gang ∧ (s.noStartSlot r f).fault = s.fault ∧ (s.noStartSlot r f).mgmt = s.mgmt
    ∧ (s.noStartSlot r f).pending = s.pending ∧ (s.noStartSlot r f).align = s.align ∧ (s.noStartSlot r f).ctl = s.ctl := by
  simp only [noStartSlot]
  split <;> simp
@[simp] theorem qualified_frame (r : Rig) (k : FrameKind) :
    (s.qualified r k).framer = s.framer ∧ (s.qualified r k).links = s.links ∧ (s.qualified r k).cues = s.cues
    ∧ (s.qualified r k).ctl.groups = s.ctl.groups ∧ (s.qualified r k).ctl.policies = s.ctl.policies ∧ (s.qualified r k).ctl.journal = s.ctl.journal
    ∧ (s.qualified r k).routes = s.routes ∧ (s.qualified r k).store = s.store ∧ (s.qualified r k).player = s.player ∧ (s.qualified r k).gang = s.gang
    ∧ (s.qualified r k).fault = s.fault ∧ (s.qualified r k).mgmt = s.mgmt ∧ (s.qualified r k).pending = s.pending ∧ (s.qualified r k).align = s.align := by
  simp only [qualified]
  (repeat' split) <;> simp
@[simp] theorem qualifySlot_frame (r : Rig) (k : FrameKind) (inRun : Bool) :
    (s.qualifySlot r k inRun).framer = s.framer ∧ (s.qualifySlot r k inRun).links = s.links ∧ (s.qualifySlot r k inRun).cues = s.cues
    ∧ (s.qualifySlot r k inRun).ctl.groups = s.ctl.groups ∧ (s.qualifySlot r k inRun).ctl.policies = s.ctl.policies
    ∧ (s.qualifySlot r k inRun).ctl.journal = s.ctl.journal ∧ (s.qualifySlot r k inRun).routes = s.routes ∧ (s.qualifySlot r k inRun).store = s.store
    ∧ (s.qualifySlot r k inRun).player = s.player ∧ (s.qualifySlot r k inRun).gang = s.gang ∧ (s.qualifySlot r k inRun).fault = s.fault
    ∧ (s.qualifySlot r k inRun).mgmt = s.mgmt ∧ (s.qualifySlot r k inRun).pending = s.pending ∧ (s.qualifySlot r k inRun).align = s.align := by
  simp only [qualifySlot]
  (repeat' split) <;> simp
@[simp] theorem captureValid_frame (r : Rig) (f : InFrame) (slot : Word) :
    (s.captureValid r f slot).framer = s.framer ∧ (s.captureValid r f slot).links = s.links ∧ (s.captureValid r f slot).cues = s.cues
    ∧ (s.captureValid r f slot).routes = s.routes ∧ (s.captureValid r f slot).store = s.store ∧ (s.captureValid r f slot).player = s.player
    ∧ (s.captureValid r f slot).gang = s.gang ∧ (s.captureValid r f slot).fault = s.fault ∧ (s.captureValid r f slot).mgmt = s.mgmt
    ∧ (s.captureValid r f slot).pending = s.pending ∧ (s.captureValid r f slot).align = s.align ∧ (s.captureValid r f slot).ctl = s.ctl := by
  simp only [captureValid]
  split <;> simp
@[simp] theorem captureDiscard_frame (r : Rig) (d : Discard) (slot : Word) :
    (s.captureDiscard r d slot).framer = s.framer ∧ (s.captureDiscard r d slot).links = s.links ∧ (s.captureDiscard r d slot).cues = s.cues
    ∧ (s.captureDiscard r d slot).routes = s.routes ∧ (s.captureDiscard r d slot).store = s.store ∧ (s.captureDiscard r d slot).player = s.player
    ∧ (s.captureDiscard r d slot).gang = s.gang ∧ (s.captureDiscard r d slot).fault = s.fault ∧ (s.captureDiscard r d slot).mgmt = s.mgmt
    ∧ (s.captureDiscard r d slot).pending = s.pending ∧ (s.captureDiscard r d slot).align = s.align ∧ (s.captureDiscard r d slot).ctl = s.ctl := by
  simp only [captureDiscard]
  split <;> simp
@[simp] theorem validSlot_frame (r : Rig) (f : InFrame) (slot : Word) :
    (s.validSlot r f slot).framer = s.framer ∧ (s.validSlot r f slot).links = s.links ∧ (s.validSlot r f slot).cues = s.cues
    ∧ (s.validSlot r f slot).ctl.groups = s.ctl.groups ∧ (s.validSlot r f slot).ctl.policies = s.ctl.policies
    ∧ (s.validSlot r f slot).ctl.journal = s.ctl.journal ∧ (s.validSlot r f slot).routes = s.routes ∧ (s.validSlot r f slot).store = s.store
    ∧ (s.validSlot r f slot).player = s.player ∧ (s.validSlot r f slot).gang = s.gang ∧ (s.validSlot r f slot).mgmt = s.mgmt
    ∧ (s.validSlot r f slot).pending = s.pending ∧ (s.validSlot r f slot).align = s.align := by
  simp [validSlot]
@[simp] theorem discardSlot_frame (r : Rig) (d : Discard) (slot : Word) :
    (s.discardSlot r d slot).framer = s.framer ∧ (s.discardSlot r d slot).links = s.links ∧ (s.discardSlot r d slot).cues = s.cues
    ∧ (s.discardSlot r d slot).ctl.groups = s.ctl.groups ∧ (s.discardSlot r d slot).ctl.policies = s.ctl.policies
    ∧ (s.discardSlot r d slot).ctl.journal = s.ctl.journal ∧ (s.discardSlot r d slot).routes = s.routes ∧ (s.discardSlot r d slot).store = s.store
    ∧ (s.discardSlot r d slot).player = s.player ∧ (s.discardSlot r d slot).gang = s.gang ∧ (s.discardSlot r d slot).mgmt = s.mgmt
    ∧ (s.discardSlot r d slot).pending = s.pending ∧ (s.discardSlot r d slot).align = s.align := by
  simp only [discardSlot]
  split <;> simp
@[simp] theorem healthLinkDown_frame (r : Rig) :
    (s.healthLinkDown r).framer = s.framer ∧ (s.healthLinkDown r).links = s.links ∧ (s.healthLinkDown r).cues = s.cues
    ∧ (s.healthLinkDown r).ctl.groups = s.ctl.groups ∧ (s.healthLinkDown r).ctl.policies = s.ctl.policies
    ∧ (s.healthLinkDown r).ctl.journal = s.ctl.journal ∧ (s.healthLinkDown r).routes = s.routes ∧ (s.healthLinkDown r).store = s.store
    ∧ (s.healthLinkDown r).player = s.player ∧ (s.healthLinkDown r).gang = s.gang ∧ (s.healthLinkDown r).fault = s.fault
    ∧ (s.healthLinkDown r).mgmt = s.mgmt ∧ (s.healthLinkDown r).pending = s.pending ∧ (s.healthLinkDown r).align = s.align := by
  simp [healthLinkDown]
@[simp] theorem healthLinkUp_frame (r : Rig) :
    (s.healthLinkUp r).framer = s.framer ∧ (s.healthLinkUp r).links = s.links ∧ (s.healthLinkUp r).cues = s.cues
    ∧ (s.healthLinkUp r).ctl.groups = s.ctl.groups ∧ (s.healthLinkUp r).ctl.policies = s.ctl.policies ∧ (s.healthLinkUp r).ctl.journal = s.ctl.journal
    ∧ (s.healthLinkUp r).routes = s.routes ∧ (s.healthLinkUp r).store = s.store ∧ (s.healthLinkUp r).player = s.player
    ∧ (s.healthLinkUp r).gang = s.gang ∧ (s.healthLinkUp r).fault = s.fault ∧ (s.healthLinkUp r).mgmt = s.mgmt ∧ (s.healthLinkUp r).pending = s.pending
    ∧ (s.healthLinkUp r).align = s.align := by
  simp [healthLinkUp]
@[simp] theorem recoveryReached_frame (r : Rig) :
    (s.recoveryReached r).framer = s.framer ∧ (s.recoveryReached r).links = s.links ∧ (s.recoveryReached r).cues = s.cues
    ∧ (s.recoveryReached r).ctl.groups = s.ctl.groups ∧ (s.recoveryReached r).ctl.policies = s.ctl.policies
    ∧ (s.recoveryReached r).ctl.journal = s.ctl.journal ∧ (s.recoveryReached r).routes = s.routes ∧ (s.recoveryReached r).store = s.store
    ∧ (s.recoveryReached r).player = s.player ∧ (s.recoveryReached r).gang = s.gang ∧ (s.recoveryReached r).fault = s.fault
    ∧ (s.recoveryReached r).mgmt = s.mgmt ∧ (s.recoveryReached r).pending = s.pending ∧ (s.recoveryReached r).align = s.align := by
  simp only [recoveryReached]
  split <;> simp
@[simp] theorem softJumpReached_frame (r : Rig) :
    (s.softJumpReached r).framer = s.framer ∧ (s.softJumpReached r).links = s.links ∧ (s.softJumpReached r).cues = s.cues
    ∧ (s.softJumpReached r).ctl.groups = s.ctl.groups ∧ (s.softJumpReached r).ctl.policies = s.ctl.policies
    ∧ (s.softJumpReached r).ctl.journal = s.ctl.journal ∧ (s.softJumpReached r).routes = s.routes ∧ (s.softJumpReached r).store = s.store
    ∧ (s.softJumpReached r).player = s.player ∧ (s.softJumpReached r).gang = s.gang ∧ (s.softJumpReached r).fault = s.fault
    ∧ (s.softJumpReached r).mgmt = s.mgmt ∧ (s.softJumpReached r).pending = s.pending ∧ (s.softJumpReached r).align = s.align := by
  simp [softJumpReached]
@[simp] theorem recoveryTick_frame (r : Rig) :
    (s.recoveryTick r).framer = s.framer ∧ (s.recoveryTick r).links = s.links ∧ (s.recoveryTick r).cues = s.cues
    ∧ (s.recoveryTick r).ctl.groups = s.ctl.groups ∧ (s.recoveryTick r).ctl.policies = s.ctl.policies ∧ (s.recoveryTick r).ctl.journal = s.ctl.journal
    ∧ (s.recoveryTick r).routes = s.routes ∧ (s.recoveryTick r).store = s.store ∧ (s.recoveryTick r).player = s.player
    ∧ (s.recoveryTick r).gang = s.gang ∧ (s.recoveryTick r).fault = s.fault ∧ (s.recoveryTick r).mgmt = s.mgmt ∧ (s.recoveryTick r).pending = s.pending
    ∧ (s.recoveryTick r).align = s.align := by
  simp only [recoveryTick]
  (repeat' split) <;> simp
@[simp] theorem softJumpTick_frame (r : Rig) :
    (s.softJumpTick r).framer = s.framer ∧ (s.softJumpTick r).links = s.links ∧ (s.softJumpTick r).cues = s.cues
    ∧ (s.softJumpTick r).ctl.groups = s.ctl.groups ∧ (s.softJumpTick r).ctl.policies = s.ctl.policies ∧ (s.softJumpTick r).ctl.journal = s.ctl.journal
    ∧ (s.softJumpTick r).routes = s.routes ∧ (s.softJumpTick r).store = s.store ∧ (s.softJumpTick r).player = s.player
    ∧ (s.softJumpTick r).gang = s.gang ∧ (s.softJumpTick r).fault = s.fault ∧ (s.softJumpTick r).mgmt = s.mgmt ∧ (s.softJumpTick r).pending = s.pending
    ∧ (s.softJumpTick r).align = s.align := by
  simp only [softJumpTick]
  (repeat' split) <;> simp
@[simp] theorem readyTick_frame (r : Rig) :
    (s.readyTick r).framer = s.framer ∧ (s.readyTick r).links = s.links ∧ (s.readyTick r).cues = s.cues ∧ (s.readyTick r).ctl.groups = s.ctl.groups
    ∧ (s.readyTick r).ctl.policies = s.ctl.policies ∧ (s.readyTick r).ctl.journal = s.ctl.journal ∧ (s.readyTick r).routes = s.routes
    ∧ (s.readyTick r).store = s.store ∧ (s.readyTick r).player = s.player ∧ (s.readyTick r).gang = s.gang ∧ (s.readyTick r).fault = s.fault
    ∧ (s.readyTick r).mgmt = s.mgmt ∧ (s.readyTick r).pending = s.pending ∧ (s.readyTick r).align = s.align := by
  simp only [readyTick]
  split <;> simp
@[simp] theorem healthPeriod_frame (r : Rig) :
    (s.healthPeriod r).framer = s.framer ∧ (s.healthPeriod r).links = s.links ∧ (s.healthPeriod r).cues = s.cues
    ∧ (s.healthPeriod r).ctl.groups = s.ctl.groups ∧ (s.healthPeriod r).ctl.policies = s.ctl.policies ∧ (s.healthPeriod r).ctl.journal = s.ctl.journal
    ∧ (s.healthPeriod r).routes = s.routes ∧ (s.healthPeriod r).store = s.store ∧ (s.healthPeriod r).player = s.player
    ∧ (s.healthPeriod r).gang = s.gang ∧ (s.healthPeriod r).fault = s.fault ∧ (s.healthPeriod r).mgmt = s.mgmt ∧ (s.healthPeriod r).pending = s.pending
    ∧ (s.healthPeriod r).align = s.align := by
  simp [healthPeriod]
@[simp] theorem noStart_frame (r : Rig) :
    (s.noStart r).framer = s.framer ∧ (s.noStart r).links = s.links ∧ (s.noStart r).cues = s.cues ∧ (s.noStart r).ctl.groups = s.ctl.groups
    ∧ (s.noStart r).ctl.policies = s.ctl.policies ∧ (s.noStart r).ctl.journal = s.ctl.journal ∧ (s.noStart r).routes = s.routes
    ∧ (s.noStart r).store = s.store ∧ (s.noStart r).player = s.player ∧ (s.noStart r).gang = s.gang ∧ (s.noStart r).mgmt = s.mgmt
    ∧ (s.noStart r).pending = s.pending ∧ (s.noStart r).align = s.align := by
  simp only [noStart]
  split <;> simp
@[simp] theorem applyLimits_frame (r : Rig) (l : HealthLimits) :
    (s.applyLimits r l).framer = s.framer ∧ (s.applyLimits r l).links = s.links ∧ (s.applyLimits r l).cues = s.cues
    ∧ (s.applyLimits r l).routes = s.routes ∧ (s.applyLimits r l).store = s.store ∧ (s.applyLimits r l).player = s.player
    ∧ (s.applyLimits r l).gang = s.gang ∧ (s.applyLimits r l).fault = s.fault ∧ (s.applyLimits r l).mgmt = s.mgmt
    ∧ (s.applyLimits r l).pending = s.pending ∧ (s.applyLimits r l).align = s.align ∧ (s.applyLimits r l).ctl = s.ctl := by
  simp only [applyLimits]
  split <;> simp
@[simp] theorem requalifyTaken_frame (r : Rig) :
    (s.requalifyTaken r).framer = s.framer ∧ (s.requalifyTaken r).links = s.links ∧ (s.requalifyTaken r).cues = s.cues
    ∧ (s.requalifyTaken r).ctl.groups = s.ctl.groups ∧ (s.requalifyTaken r).ctl.policies = s.ctl.policies
    ∧ (s.requalifyTaken r).ctl.journal = s.ctl.journal ∧ (s.requalifyTaken r).routes = s.routes ∧ (s.requalifyTaken r).store = s.store
    ∧ (s.requalifyTaken r).player = s.player ∧ (s.requalifyTaken r).gang = s.gang ∧ (s.requalifyTaken r).fault = s.fault
    ∧ (s.requalifyTaken r).mgmt = s.mgmt ∧ (s.requalifyTaken r).pending = s.pending ∧ (s.requalifyTaken r).align = s.align := by
  simp only [requalifyTaken]
  (repeat' split) <;> simp
@[simp] theorem patchNotice_frame (r : Rig) :
    (s.patchNotice r).framer = s.framer ∧ (s.patchNotice r).links = s.links ∧ (s.patchNotice r).cues = s.cues ∧ (s.patchNotice r).routes = s.routes
    ∧ (s.patchNotice r).store = s.store ∧ (s.patchNotice r).player = s.player ∧ (s.patchNotice r).gang = s.gang ∧ (s.patchNotice r).fault = s.fault
    ∧ (s.patchNotice r).mgmt = s.mgmt ∧ (s.patchNotice r).pending = s.pending ∧ (s.patchNotice r).align = s.align ∧ (s.patchNotice r).ctl = s.ctl := by
  simp [patchNotice]
/-! ## Player.lean -/

@[simp] theorem playerRetrack_frame :
    s.playerRetrack.framer = s.framer ∧ s.playerRetrack.links = s.links ∧ s.playerRetrack.health = s.health ∧ s.playerRetrack.cues = s.cues
    ∧ s.playerRetrack.routes = s.routes ∧ s.playerRetrack.store = s.store ∧ s.playerRetrack.gang = s.gang ∧ s.playerRetrack.fault = s.fault
    ∧ s.playerRetrack.mgmt = s.mgmt ∧ s.playerRetrack.pending = s.pending ∧ s.playerRetrack.align = s.align ∧ s.playerRetrack.ctl = s.ctl := by
  simp only [playerRetrack]
  split <;> simp
@[simp] theorem playerCueChange_frame :
    s.playerCueChange.framer = s.framer ∧ s.playerCueChange.links = s.links ∧ s.playerCueChange.health = s.health ∧ s.playerCueChange.cues = s.cues
    ∧ s.playerCueChange.routes = s.routes ∧ s.playerCueChange.store = s.store ∧ s.playerCueChange.gang = s.gang ∧ s.playerCueChange.fault = s.fault
    ∧ s.playerCueChange.mgmt = s.mgmt ∧ s.playerCueChange.pending = s.pending ∧ s.playerCueChange.align = s.align ∧ s.playerCueChange.ctl = s.ctl := by
  simp [playerCueChange]
@[simp] theorem clearPrime_frame :
    s.clearPrime.framer = s.framer ∧ s.clearPrime.links = s.links ∧ s.clearPrime.health = s.health ∧ s.clearPrime.cues = s.cues
    ∧ s.clearPrime.routes = s.routes ∧ s.clearPrime.store = s.store ∧ s.clearPrime.gang = s.gang ∧ s.clearPrime.fault = s.fault
    ∧ s.clearPrime.mgmt = s.mgmt ∧ s.clearPrime.pending = s.pending ∧ s.clearPrime.align = s.align ∧ s.clearPrime.ctl = s.ctl := by
  simp [clearPrime]
@[simp] theorem primeUpdate_frame :
    s.primeUpdate.framer = s.framer ∧ s.primeUpdate.links = s.links ∧ s.primeUpdate.health = s.health ∧ s.primeUpdate.cues = s.cues
    ∧ s.primeUpdate.routes = s.routes ∧ s.primeUpdate.store = s.store ∧ s.primeUpdate.gang = s.gang ∧ s.primeUpdate.fault = s.fault
    ∧ s.primeUpdate.mgmt = s.mgmt ∧ s.primeUpdate.pending = s.pending ∧ s.primeUpdate.align = s.align ∧ s.primeUpdate.ctl = s.ctl := by
  simp only [primeUpdate]
  (repeat' split) <;> simp
@[simp] theorem recordChanged_frame (c : Nat) :
    (s.recordChanged c).framer = s.framer ∧ (s.recordChanged c).links = s.links ∧ (s.recordChanged c).health = s.health
    ∧ (s.recordChanged c).cues = s.cues ∧ (s.recordChanged c).routes = s.routes ∧ (s.recordChanged c).store = s.store
    ∧ (s.recordChanged c).gang = s.gang ∧ (s.recordChanged c).fault = s.fault ∧ (s.recordChanged c).mgmt = s.mgmt
    ∧ (s.recordChanged c).pending = s.pending ∧ (s.recordChanged c).align = s.align ∧ (s.recordChanged c).ctl = s.ctl := by
  simp only [recordChanged]
  (repeat' split) <;> simp
@[simp] theorem windowTrim_frame :
    s.windowTrim.framer = s.framer ∧ s.windowTrim.links = s.links ∧ s.windowTrim.health = s.health ∧ s.windowTrim.cues = s.cues
    ∧ s.windowTrim.routes = s.routes ∧ s.windowTrim.store = s.store ∧ s.windowTrim.gang = s.gang ∧ s.windowTrim.fault = s.fault
    ∧ s.windowTrim.mgmt = s.mgmt ∧ s.windowTrim.pending = s.pending ∧ s.windowTrim.align = s.align ∧ s.windowTrim.ctl = s.ctl := by
  simp only [windowTrim]
  split <;> simp
@[simp] theorem windowDiscard_frame :
    s.windowDiscard.framer = s.framer ∧ s.windowDiscard.links = s.links ∧ s.windowDiscard.health = s.health ∧ s.windowDiscard.cues = s.cues
    ∧ s.windowDiscard.routes = s.routes ∧ s.windowDiscard.store = s.store ∧ s.windowDiscard.gang = s.gang ∧ s.windowDiscard.fault = s.fault
    ∧ s.windowDiscard.mgmt = s.mgmt ∧ s.windowDiscard.pending = s.pending ∧ s.windowDiscard.align = s.align ∧ s.windowDiscard.ctl = s.ctl := by
  simp only [windowDiscard]
  (repeat' split) <;> simp
@[simp] theorem windowRequest_frame :
    s.windowRequest.framer = s.framer ∧ s.windowRequest.links = s.links ∧ s.windowRequest.health = s.health ∧ s.windowRequest.cues = s.cues
    ∧ s.windowRequest.routes = s.routes ∧ s.windowRequest.store = s.store ∧ s.windowRequest.gang = s.gang ∧ s.windowRequest.fault = s.fault
    ∧ s.windowRequest.mgmt = s.mgmt ∧ s.windowRequest.pending = s.pending ∧ s.windowRequest.align = s.align ∧ s.windowRequest.ctl = s.ctl := by
  simp only [windowRequest]
  split <;> simp
@[simp] theorem playerPeriod_frame :
    s.playerPeriod.framer = s.framer ∧ s.playerPeriod.links = s.links ∧ s.playerPeriod.health = s.health ∧ s.playerPeriod.cues = s.cues
    ∧ s.playerPeriod.routes = s.routes ∧ s.playerPeriod.store = s.store ∧ s.playerPeriod.gang = s.gang ∧ s.playerPeriod.fault = s.fault
    ∧ s.playerPeriod.mgmt = s.mgmt ∧ s.playerPeriod.pending = s.pending ∧ s.playerPeriod.align = s.align ∧ s.playerPeriod.ctl = s.ctl := by
  simp [playerPeriod]
@[simp] theorem playerDeliver_frame (x : PageSlot) :
    (s.playerDeliver x).framer = s.framer ∧ (s.playerDeliver x).links = s.links ∧ (s.playerDeliver x).health = s.health
    ∧ (s.playerDeliver x).cues = s.cues ∧ (s.playerDeliver x).routes = s.routes ∧ (s.playerDeliver x).store = s.store
    ∧ (s.playerDeliver x).gang = s.gang ∧ (s.playerDeliver x).fault = s.fault ∧ (s.playerDeliver x).mgmt = s.mgmt
    ∧ (s.playerDeliver x).pending = s.pending ∧ (s.playerDeliver x).align = s.align ∧ (s.playerDeliver x).ctl = s.ctl := by
  simp only [playerDeliver]
  (repeat' split) <;> simp
/-! ## Align.lean -/

@[simp] theorem stepLostEvent_frame (r : Rig) (skew : Option Int) :
    (s.stepLostEvent r skew).framer = s.framer ∧ (s.stepLostEvent r skew).links = s.links ∧ (s.stepLostEvent r skew).health = s.health
    ∧ (s.stepLostEvent r skew).cues = s.cues ∧ (s.stepLostEvent r skew).ctl.groups = s.ctl.groups
    ∧ (s.stepLostEvent r skew).ctl.policies = s.ctl.policies ∧ (s.stepLostEvent r skew).ctl.journal = s.ctl.journal
    ∧ (s.stepLostEvent r skew).routes = s.routes ∧ (s.stepLostEvent r skew).store = s.store ∧ (s.stepLostEvent r skew).player = s.player
    ∧ (s.stepLostEvent r skew).gang = s.gang ∧ (s.stepLostEvent r skew).mgmt = s.mgmt ∧ (s.stepLostEvent r skew).pending = s.pending
    ∧ (s.stepLostEvent r skew).align = s.align := by
  simp only [stepLostEvent]
  split <;> simp
@[simp] theorem stepLostNow_frame (r : Rig) :
    (s.stepLostNow r).framer = s.framer ∧ (s.stepLostNow r).links = s.links ∧ (s.stepLostNow r).align.prog = s.align.prog
    ∧ (s.stepLostNow r).health = s.health ∧ (s.stepLostNow r).cues = s.cues ∧ (s.stepLostNow r).ctl.groups = s.ctl.groups
    ∧ (s.stepLostNow r).ctl.policies = s.ctl.policies ∧ (s.stepLostNow r).ctl.journal = s.ctl.journal ∧ (s.stepLostNow r).routes = s.routes
    ∧ (s.stepLostNow r).store = s.store ∧ (s.stepLostNow r).player = s.player ∧ (s.stepLostNow r).gang = s.gang ∧ (s.stepLostNow r).mgmt = s.mgmt
    ∧ (s.stepLostNow r).pending = s.pending := by
  simp [stepLostNow]
@[simp] theorem stepMiss_frame (r : Rig) :
    (s.stepMiss r).framer = s.framer ∧ (s.stepMiss r).links = s.links ∧ (s.stepMiss r).align.prog = s.align.prog ∧ (s.stepMiss r).health = s.health
    ∧ (s.stepMiss r).cues = s.cues ∧ (s.stepMiss r).ctl.groups = s.ctl.groups ∧ (s.stepMiss r).ctl.policies = s.ctl.policies
    ∧ (s.stepMiss r).ctl.journal = s.ctl.journal ∧ (s.stepMiss r).routes = s.routes ∧ (s.stepMiss r).store = s.store ∧ (s.stepMiss r).player = s.player
    ∧ (s.stepMiss r).gang = s.gang ∧ (s.stepMiss r).mgmt = s.mgmt ∧ (s.stepMiss r).pending = s.pending := by
  simp only [stepMiss]
  (repeat' split) <;> simp
@[simp] theorem stepEvaluate_frame (r : Rig) :
    (s.stepEvaluate r).framer = s.framer ∧ (s.stepEvaluate r).links = s.links ∧ (s.stepEvaluate r).align.prog = s.align.prog
    ∧ (s.stepEvaluate r).health = s.health ∧ (s.stepEvaluate r).cues = s.cues ∧ (s.stepEvaluate r).ctl.groups = s.ctl.groups
    ∧ (s.stepEvaluate r).ctl.policies = s.ctl.policies ∧ (s.stepEvaluate r).ctl.journal = s.ctl.journal ∧ (s.stepEvaluate r).routes = s.routes
    ∧ (s.stepEvaluate r).store = s.store ∧ (s.stepEvaluate r).player = s.player ∧ (s.stepEvaluate r).gang = s.gang ∧ (s.stepEvaluate r).mgmt = s.mgmt
    ∧ (s.stepEvaluate r).pending = s.pending := by
  simp only [stepEvaluate]
  split <;> simp
@[simp] theorem stepRig_frame (r : Rig) :
    (s.stepRig r).framer = s.framer ∧ (s.stepRig r).links = s.links ∧ (s.stepRig r).align.prog = s.align.prog ∧ (s.stepRig r).health = s.health
    ∧ (s.stepRig r).cues = s.cues ∧ (s.stepRig r).ctl.groups = s.ctl.groups ∧ (s.stepRig r).ctl.policies = s.ctl.policies
    ∧ (s.stepRig r).ctl.journal = s.ctl.journal ∧ (s.stepRig r).routes = s.routes ∧ (s.stepRig r).store = s.store ∧ (s.stepRig r).player = s.player
    ∧ (s.stepRig r).gang = s.gang ∧ (s.stepRig r).mgmt = s.mgmt ∧ (s.stepRig r).pending = s.pending := by
  simp only [stepRig]
  split <;> simp
@[simp] theorem stepPeriod_frame :
    s.stepPeriod.framer = s.framer ∧ s.stepPeriod.links = s.links ∧ s.stepPeriod.align.prog = s.align.prog ∧ s.stepPeriod.health = s.health
    ∧ s.stepPeriod.cues = s.cues ∧ s.stepPeriod.ctl.groups = s.ctl.groups ∧ s.stepPeriod.ctl.policies = s.ctl.policies
    ∧ s.stepPeriod.ctl.journal = s.ctl.journal ∧ s.stepPeriod.routes = s.routes ∧ s.stepPeriod.store = s.store ∧ s.stepPeriod.player = s.player
    ∧ s.stepPeriod.gang = s.gang ∧ s.stepPeriod.mgmt = s.mgmt ∧ s.stepPeriod.pending = s.pending := by
  simp [stepPeriod]
@[simp] theorem alignArrive_frame (r : Rig) (f : InFrame) (slot : Word) :
    (s.alignArrive r f slot).framer = s.framer ∧ (s.alignArrive r f slot).links = s.links ∧ (s.alignArrive r f slot).health = s.health
    ∧ (s.alignArrive r f slot).cues = s.cues ∧ (s.alignArrive r f slot).routes = s.routes ∧ (s.alignArrive r f slot).store = s.store
    ∧ (s.alignArrive r f slot).player = s.player ∧ (s.alignArrive r f slot).gang = s.gang ∧ (s.alignArrive r f slot).fault = s.fault
    ∧ (s.alignArrive r f slot).mgmt = s.mgmt ∧ (s.alignArrive r f slot).pending = s.pending ∧ (s.alignArrive r f slot).ctl = s.ctl := by
  simp only [alignArrive]
  split <;> simp
@[simp] theorem alignLinkLost_frame (r : Rig) :
    (s.alignLinkLost r).framer = s.framer ∧ (s.alignLinkLost r).links = s.links ∧ (s.alignLinkLost r).health = s.health
    ∧ (s.alignLinkLost r).cues = s.cues ∧ (s.alignLinkLost r).routes = s.routes ∧ (s.alignLinkLost r).store = s.store
    ∧ (s.alignLinkLost r).player = s.player ∧ (s.alignLinkLost r).gang = s.gang ∧ (s.alignLinkLost r).fault = s.fault
    ∧ (s.alignLinkLost r).mgmt = s.mgmt ∧ (s.alignLinkLost r).pending = s.pending ∧ (s.alignLinkLost r).ctl = s.ctl := by
  simp only [alignLinkLost]
  (repeat' split) <;> simp
@[simp] theorem leaveTiming_frame (old : Source) (x : StepRec) :
    (s.leaveTiming old x).framer = s.framer ∧ (s.leaveTiming old x).links = s.links ∧ (s.leaveTiming old x).align.prog = s.align.prog
    ∧ (s.leaveTiming old x).health = s.health ∧ (s.leaveTiming old x).cues = s.cues ∧ (s.leaveTiming old x).routes = s.routes
    ∧ (s.leaveTiming old x).store = s.store ∧ (s.leaveTiming old x).player = s.player ∧ (s.leaveTiming old x).gang = s.gang
    ∧ (s.leaveTiming old x).fault = s.fault ∧ (s.leaveTiming old x).mgmt = s.mgmt ∧ (s.leaveTiming old x).pending = s.pending
    ∧ (s.leaveTiming old x).ctl = s.ctl := by
  simp only [leaveTiming]
  split <;> simp
@[simp] theorem timingStopped_frame (old : Source) :
    (s.timingStopped old).framer = s.framer ∧ (s.timingStopped old).links = s.links ∧ (s.timingStopped old).health = s.health
    ∧ (s.timingStopped old).cues = s.cues ∧ (s.timingStopped old).routes = s.routes ∧ (s.timingStopped old).store = s.store
    ∧ (s.timingStopped old).player = s.player ∧ (s.timingStopped old).gang = s.gang ∧ (s.timingStopped old).fault = s.fault
    ∧ (s.timingStopped old).mgmt = s.mgmt ∧ (s.timingStopped old).pending = s.pending ∧ (s.timingStopped old).ctl = s.ctl := by
  simp [timingStopped]
@[simp] theorem timingHard_frame (old : Source) (r : Rig) :
    (s.timingHard old r).framer = s.framer ∧ (s.timingHard old r).links = s.links ∧ (s.timingHard old r).health = s.health
    ∧ (s.timingHard old r).cues = s.cues ∧ (s.timingHard old r).routes = s.routes ∧ (s.timingHard old r).store = s.store
    ∧ (s.timingHard old r).player = s.player ∧ (s.timingHard old r).gang = s.gang ∧ (s.timingHard old r).fault = s.fault
    ∧ (s.timingHard old r).mgmt = s.mgmt ∧ (s.timingHard old r).pending = s.pending ∧ (s.timingHard old r).ctl = s.ctl := by
  simp [timingHard]
@[simp] theorem timingSeamless_frame (old : Source) (r : Rig) :
    (s.timingSeamless old r).framer = s.framer ∧ (s.timingSeamless old r).links = s.links ∧ (s.timingSeamless old r).health = s.health
    ∧ (s.timingSeamless old r).cues = s.cues ∧ (s.timingSeamless old r).routes = s.routes ∧ (s.timingSeamless old r).store = s.store
    ∧ (s.timingSeamless old r).player = s.player ∧ (s.timingSeamless old r).gang = s.gang ∧ (s.timingSeamless old r).fault = s.fault
    ∧ (s.timingSeamless old r).mgmt = s.mgmt ∧ (s.timingSeamless old r).pending = s.pending ∧ (s.timingSeamless old r).ctl = s.ctl := by
  simp [timingSeamless]
@[simp] theorem timingFree_frame (old : Source) :
    (s.timingFree old).framer = s.framer ∧ (s.timingFree old).links = s.links ∧ (s.timingFree old).health = s.health ∧ (s.timingFree old).cues = s.cues
    ∧ (s.timingFree old).routes = s.routes ∧ (s.timingFree old).store = s.store ∧ (s.timingFree old).player = s.player
    ∧ (s.timingFree old).gang = s.gang ∧ (s.timingFree old).fault = s.fault ∧ (s.timingFree old).mgmt = s.mgmt ∧ (s.timingFree old).pending = s.pending
    ∧ (s.timingFree old).ctl = s.ctl := by
  simp [timingFree]
@[simp] theorem timingChange_frame (old new : Source) (hard : Bool) :
    (s.timingChange old new hard).framer = s.framer ∧ (s.timingChange old new hard).links = s.links ∧ (s.timingChange old new hard).health = s.health
    ∧ (s.timingChange old new hard).cues = s.cues ∧ (s.timingChange old new hard).routes = s.routes ∧ (s.timingChange old new hard).store = s.store
    ∧ (s.timingChange old new hard).player = s.player ∧ (s.timingChange old new hard).gang = s.gang ∧ (s.timingChange old new hard).fault = s.fault
    ∧ (s.timingChange old new hard).mgmt = s.mgmt ∧ (s.timingChange old new hard).pending = s.pending ∧ (s.timingChange old new hard).ctl = s.ctl := by
  simp only [timingChange]
  (repeat' split) <;> simp

end Sys2Proof.Machine.State
end

