-- ==== Sys2Proof/Laws/Monitors.lean ====
section
/-! SUPPORT. What each monitor of a rig leaves alone: the other rig's record (`_other`), and the fields of its own record that it
does not write (`_rest`). -/

namespace Sys2Proof.Machine

@[simp] theorem Pair.set_set {α : Type} (p : Pair α) (r : Rig) (v w : α) : (p.set r v).set r w = p.set r w := by cases r <;> rfl
@[simp] theorem Pair.set_get_self {α : Type} (p : Pair α) (r : Rig) : p.set r (p.get r) = p := by cases r <;> rfl

namespace State

variable {s : State}

theorem health_get (s : State) (r : Rig) : s.health.get r = s.monitor r := rfl
@[simp] theorem setStamps_monitor (r : Rig) (v : Stamps) : (s.setStamps v).monitor r = s.monitor r := rfl
@[simp] theorem clearStamp_monitor (q r : Rig) : (s.clearStamp r).monitor q = s.monitor q := rfl
@[simp] theorem raise_monitor (r : Rig) (k : FaultKind) (o : FaultOrigin) (d : FaultDetail) : (s.raise k o d).monitor r = s.monitor r := rfl

@[simp] theorem healthChange_other (q : Rig) (r : Rig) (after : HealthState) (reason : HealthReason) (h : q ≠ r) : (s.healthChange r after reason).monitor q = s.monitor q := by
  unfold healthChange
  try dsimp only
  repeat' split
  all_goals simp [h]

@[simp] theorem healthChange_rest (r : Rig) (after : HealthState) (reason : HealthReason) :
    ((s.healthChange r after reason).monitor r).hard = (s.monitor r).hard
      ∧ ((s.healthChange r after reason).monitor r).warn = (s.monitor r).warn
      ∧ ((s.healthChange r after reason).monitor r).playing = (s.monitor r).playing
      ∧ ((s.healthChange r after reason).monitor r).gap = (s.monitor r).gap
      ∧ ((s.healthChange r after reason).monitor r).repeatStall = (s.monitor r).repeatStall
      ∧ ((s.healthChange r after reason).monitor r).bucket = (s.monitor r).bucket
      ∧ ((s.healthChange r after reason).monitor r).pilotCount = (s.monitor r).pilotCount
      ∧ ((s.healthChange r after reason).monitor r).pilotPeak = (s.monitor r).pilotPeak
      ∧ ((s.healthChange r after reason).monitor r).ref = (s.monitor r).ref
      ∧ ((s.healthChange r after reason).monitor r).softJump = (s.monitor r).softJump
      ∧ ((s.healthChange r after reason).monitor r).qual = (s.monitor r).qual
      ∧ ((s.healthChange r after reason).monitor r).lastSeq = (s.monitor r).lastSeq
      ∧ ((s.healthChange r after reason).monitor r).recovery = (s.monitor r).recovery
      ∧ ((s.healthChange r after reason).monitor r).requalifyReady = (s.monitor r).requalifyReady
      ∧ ((s.healthChange r after reason).monitor r).patches = (s.monitor r).patches
      ∧ ((s.healthChange r after reason).monitor r).capture = (s.monitor r).capture
      ∧ ((s.healthChange r after reason).monitor r).limits = (s.monitor r).limits := by
  unfold healthChange
  try dsimp only
  repeat' split
  all_goals simp

@[simp] theorem setHard_other (q : Rig) (r : Rig) (c : HardCond) (d : FaultDetail) (h : q ≠ r) : (s.setHard r c d).monitor q = s.monitor q := by
  unfold setHard
  try dsimp only
  repeat' split
  all_goals simp [h]

@[simp] theorem setHard_rest (r : Rig) (c : HardCond) (d : FaultDetail) :
    ((s.setHard r c d).monitor r).warn = (s.monitor r).warn
      ∧ ((s.setHard r c d).monitor r).playing = (s.monitor r).playing
      ∧ ((s.setHard r c d).monitor r).gap = (s.monitor r).gap
      ∧ ((s.setHard r c d).monitor r).repeatStall = (s.monitor r).repeatStall
      ∧ ((s.setHard r c d).monitor r).bucket = (s.monitor r).bucket
      ∧ ((s.setHard r c d).monitor r).pilotCount = (s.monitor r).pilotCount
      ∧ ((s.setHard r c d).monitor r).pilotPeak = (s.monitor r).pilotPeak
      ∧ ((s.setHard r c d).monitor r).ref = (s.monitor r).ref
      ∧ ((s.setHard r c d).monitor r).softJump = (s.monitor r).softJump
      ∧ ((s.setHard r c d).monitor r).lastSeq = (s.monitor r).lastSeq
      ∧ ((s.setHard r c d).monitor r).patches = (s.monitor r).patches
      ∧ ((s.setHard r c d).monitor r).capture = (s.monitor r).capture
      ∧ ((s.setHard r c d).monitor r).limits = (s.monitor r).limits := by
  unfold setHard
  try dsimp only
  repeat' split
  all_goals simp

@[simp] theorem clearHard_other (q : Rig) (r : Rig) (c : HardCond) (h : q ≠ r) : (s.clearHard r c).monitor q = s.monitor q := by
  unfold clearHard
  try dsimp only
  repeat' split
  all_goals simp [h]

@[simp] theorem clearHard_rest (r : Rig) (c : HardCond) :
    ((s.clearHard r c).monitor r).state = (s.monitor r).state
      ∧ ((s.clearHard r c).monitor r).warn = (s.monitor r).warn
      ∧ ((s.clearHard r c).monitor r).playing = (s.monitor r).playing
      ∧ ((s.clearHard r c).monitor r).gap = (s.monitor r).gap
      ∧ ((s.clearHard r c).monitor r).repeatStall = (s.monitor r).repeatStall
      ∧ ((s.clearHard r c).monitor r).bucket = (s.monitor r).bucket
      ∧ ((s.clearHard r c).monitor r).pilotCount = (s.monitor r).pilotCount
      ∧ ((s.clearHard r c).monitor r).pilotPeak = (s.monitor r).pilotPeak
      ∧ ((s.clearHard r c).monitor r).ref = (s.monitor r).ref
      ∧ ((s.clearHard r c).monitor r).softJump = (s.monitor r).softJump
      ∧ ((s.clearHard r c).monitor r).qual = (s.monitor r).qual
      ∧ ((s.clearHard r c).monitor r).lastSeq = (s.monitor r).lastSeq
      ∧ ((s.clearHard r c).monitor r).recovery = (s.monitor r).recovery
      ∧ ((s.clearHard r c).monitor r).requalifyReady = (s.monitor r).requalifyReady
      ∧ ((s.clearHard r c).monitor r).patches = (s.monitor r).patches
      ∧ ((s.clearHard r c).monitor r).capture = (s.monitor r).capture
      ∧ ((s.clearHard r c).monitor r).limits = (s.monitor r).limits
      ∧ ((s.clearHard r c).monitor r).event = (s.monitor r).event := by
  unfold clearHard
  try dsimp only
  repeat' split
  all_goals simp

@[simp] theorem startRecovery_other (q : Rig) (r : Rig) (before : Bool) (h : q ≠ r) : (s.startRecovery r before).monitor q = s.monitor q := by
  unfold startRecovery
  try dsimp only
  repeat' split
  all_goals simp [h]

@[simp] theorem startRecovery_rest (r : Rig) (before : Bool) :
    ((s.startRecovery r before).monitor r).state = (s.monitor r).state
      ∧ ((s.startRecovery r before).monitor r).hard = (s.monitor r).hard
      ∧ ((s.startRecovery r before).monitor r).warn = (s.monitor r).warn
      ∧ ((s.startRecovery r before).monitor r).playing = (s.monitor r).playing
      ∧ ((s.startRecovery r before).monitor r).gap = (s.monitor r).gap
      ∧ ((s.startRecovery r before).monitor r).repeatStall = (s.monitor r).repeatStall
      ∧ ((s.startRecovery r before).monitor r).bucket = (s.monitor r).bucket
      ∧ ((s.startRecovery r before).monitor r).pilotCount = (s.monitor r).pilotCount
      ∧ ((s.startRecovery r before).monitor r).pilotPeak = (s.monitor r).pilotPeak
      ∧ ((s.startRecovery r before).monitor r).ref = (s.monitor r).ref
      ∧ ((s.startRecovery r before).monitor r).softJump = (s.monitor r).softJump
      ∧ ((s.startRecovery r before).monitor r).qual = (s.monitor r).qual
      ∧ ((s.startRecovery r before).monitor r).lastSeq = (s.monitor r).lastSeq
      ∧ ((s.startRecovery r before).monitor r).requalifyReady = (s.monitor r).requalifyReady
      ∧ ((s.startRecovery r before).monitor r).patches = (s.monitor r).patches
      ∧ ((s.startRecovery r before).monitor r).capture = (s.monitor r).capture
      ∧ ((s.startRecovery r before).monitor r).limits = (s.monitor r).limits
      ∧ ((s.startRecovery r before).monitor r).event = (s.monitor r).event := by
  unfold startRecovery
  try dsimp only
  repeat' split
  all_goals simp

@[simp] theorem regrade_other (q : Rig) (r : Rig) (k : FrameKind) (h : q ≠ r) : (s.regrade r k).monitor q = s.monitor q := by
  unfold regrade
  try dsimp only
  repeat' split
  all_goals simp [h]

@[simp] theorem regrade_rest (r : Rig) (k : FrameKind) :
    ((s.regrade r k).monitor r).hard = (s.monitor r).hard
      ∧ ((s.regrade r k).monitor r).warn = (s.monitor r).warn
      ∧ ((s.regrade r k).monitor r).playing = (s.monitor r).playing
      ∧ ((s.regrade r k).monitor r).gap = (s.monitor r).gap
      ∧ ((s.regrade r k).monitor r).repeatStall = (s.monitor r).repeatStall
      ∧ ((s.regrade r k).monitor r).bucket = (s.monitor r).bucket
      ∧ ((s.regrade r k).monitor r).pilotCount = (s.monitor r).pilotCount
      ∧ ((s.regrade r k).monitor r).pilotPeak = (s.monitor r).pilotPeak
      ∧ ((s.regrade r k).monitor r).ref = (s.monitor r).ref
      ∧ ((s.regrade r k).monitor r).softJump = (s.monitor r).softJump
      ∧ ((s.regrade r k).monitor r).qual = (s.monitor r).qual
      ∧ ((s.regrade r k).monitor r).lastSeq = (s.monitor r).lastSeq
      ∧ ((s.regrade r k).monitor r).recovery = (s.monitor r).recovery
      ∧ ((s.regrade r k).monitor r).requalifyReady = (s.monitor r).requalifyReady
      ∧ ((s.regrade r k).monitor r).patches = (s.monitor r).patches
      ∧ ((s.regrade r k).monitor r).capture = (s.monitor r).capture
      ∧ ((s.regrade r k).monitor r).limits = (s.monitor r).limits := by
  unfold regrade
  try dsimp only
  repeat' split
  all_goals simp

@[simp] theorem stallReached_other (q : Rig) (r : Rig) (h : q ≠ r) : (s.stallReached r).monitor q = s.monitor q := by
  unfold stallReached
  try dsimp only
  repeat' split
  all_goals simp [h]

@[simp] theorem stallReached_rest (r : Rig) :
    ((s.stallReached r).monitor r).warn = (s.monitor r).warn
      ∧ ((s.stallReached r).monitor r).playing = (s.monitor r).playing
      ∧ ((s.stallReached r).monitor r).gap = (s.monitor r).gap
      ∧ ((s.stallReached r).monitor r).bucket = (s.monitor r).bucket
      ∧ ((s.stallReached r).monitor r).pilotCount = (s.monitor r).pilotCount
      ∧ ((s.stallReached r).monitor r).pilotPeak = (s.monitor r).pilotPeak
      ∧ ((s.stallReached r).monitor r).ref = (s.monitor r).ref
      ∧ ((s.stallReached r).monitor r).softJump = (s.monitor r).softJump
      ∧ ((s.stallReached r).monitor r).lastSeq = (s.monitor r).lastSeq
      ∧ ((s.stallReached r).monitor r).patches = (s.monitor r).patches
      ∧ ((s.stallReached r).monitor r).capture = (s.monitor r).capture
      ∧ ((s.stallReached r).monitor r).limits = (s.monitor r).limits := by
  unfold stallReached
  try dsimp only
  repeat' split
  all_goals simp

@[simp] theorem gapSlot_other (q : Rig) (r : Rig) (live : Bool) (h : q ≠ r) : (s.gapSlot r live).monitor q = s.monitor q := by
  unfold gapSlot
  try dsimp only
  repeat' split
  all_goals simp [h]

@[simp] theorem gapSlot_rest (r : Rig) (live : Bool) :
    ((s.gapSlot r live).monitor r).warn = (s.monitor r).warn
      ∧ ((s.gapSlot r live).monitor r).playing = (s.monitor r).playing
      ∧ ((s.gapSlot r live).monitor r).bucket = (s.monitor r).bucket
      ∧ ((s.gapSlot r live).monitor r).pilotCount = (s.monitor r).pilotCount
      ∧ ((s.gapSlot r live).monitor r).pilotPeak = (s.monitor r).pilotPeak
      ∧ ((s.gapSlot r live).monitor r).ref = (s.monitor r).ref
      ∧ ((s.gapSlot r live).monitor r).softJump = (s.monitor r).softJump
      ∧ ((s.gapSlot r live).monitor r).lastSeq = (s.monitor r).lastSeq
      ∧ ((s.gapSlot r live).monitor r).patches = (s.monitor r).patches
      ∧ ((s.gapSlot r live).monitor r).capture = (s.monitor r).capture
      ∧ ((s.gapSlot r live).monitor r).limits = (s.monitor r).limits := by
  unfold gapSlot
  try dsimp only
  repeat' split
  all_goals simp

@[simp] theorem bucketSlot_other (q : Rig) (r : Rig) (valid : Bool) (h : q ≠ r) : (s.bucketSlot r valid).monitor q = s.monitor q := by
  unfold bucketSlot
  try dsimp only
  repeat' split
  all_goals simp [h]

@[simp] theorem bucketSlot_rest (r : Rig) (valid : Bool) :
    ((s.bucketSlot r valid).monitor r).playing = (s.monitor r).playing
      ∧ ((s.bucketSlot r valid).monitor r).gap = (s.monitor r).gap
      ∧ ((s.bucketSlot r valid).monitor r).repeatStall = (s.monitor r).repeatStall
      ∧ ((s.bucketSlot r valid).monitor r).pilotCount = (s.monitor r).pilotCount
      ∧ ((s.bucketSlot r valid).monitor r).pilotPeak = (s.monitor r).pilotPeak
      ∧ ((s.bucketSlot r valid).monitor r).ref = (s.monitor r).ref
      ∧ ((s.bucketSlot r valid).monitor r).softJump = (s.monitor r).softJump
      ∧ ((s.bucketSlot r valid).monitor r).lastSeq = (s.monitor r).lastSeq
      ∧ ((s.bucketSlot r valid).monitor r).patches = (s.monitor r).patches
      ∧ ((s.bucketSlot r valid).monitor r).capture = (s.monitor r).capture
      ∧ ((s.bucketSlot r valid).monitor r).limits = (s.monitor r).limits := by
  unfold bucketSlot
  try dsimp only
  repeat' split
  all_goals simp

@[simp] theorem pilotReached_other (q : Rig) (r : Rig) (h : q ≠ r) : (s.pilotReached r).monitor q = s.monitor q := by
  unfold pilotReached
  try dsimp only
  repeat' split
  all_goals simp [h]

@[simp] theorem pilotReached_rest (r : Rig) :
    ((s.pilotReached r).monitor r).warn = (s.monitor r).warn
      ∧ ((s.pilotReached r).monitor r).playing = (s.monitor r).playing
      ∧ ((s.pilotReached r).monitor r).gap = (s.monitor r).gap
      ∧ ((s.pilotReached r).monitor r).repeatStall = (s.monitor r).repeatStall
      ∧ ((s.pilotReached r).monitor r).bucket = (s.monitor r).bucket
      ∧ ((s.pilotReached r).monitor r).pilotCount = (s.monitor r).pilotCount
      ∧ ((s.pilotReached r).monitor r).pilotPeak = (s.monitor r).pilotPeak
      ∧ ((s.pilotReached r).monitor r).ref = (s.monitor r).ref
      ∧ ((s.pilotReached r).monitor r).softJump = (s.monitor r).softJump
      ∧ ((s.pilotReached r).monitor r).lastSeq = (s.monitor r).lastSeq
      ∧ ((s.pilotReached r).monitor r).patches = (s.monitor r).patches
      ∧ ((s.pilotReached r).monitor r).capture = (s.monitor r).capture
      ∧ ((s.pilotReached r).monitor r).limits = (s.monitor r).limits := by
  unfold pilotReached
  try dsimp only
  repeat' split
  all_goals simp

@[simp] theorem pilotSlot_other (q : Rig) (r : Rig) (f : InFrame) (h : q ≠ r) : (s.pilotSlot r f).monitor q = s.monitor q := by
  unfold pilotSlot
  try dsimp only
  repeat' split
  all_goals simp [h]

@[simp] theorem pilotSlot_rest (r : Rig) (f : InFrame) :
    ((s.pilotSlot r f).monitor r).warn = (s.monitor r).warn
      ∧ ((s.pilotSlot r f).monitor r).playing = (s.monitor r).playing
      ∧ ((s.pilotSlot r f).monitor r).gap = (s.monitor r).gap
      ∧ ((s.pilotSlot r f).monitor r).repeatStall = (s.monitor r).repeatStall
      ∧ ((s.pilotSlot r f).monitor r).bucket = (s.monitor r).bucket
      ∧ ((s.pilotSlot r f).monitor r).ref = (s.monitor r).ref
      ∧ ((s.pilotSlot r f).monitor r).softJump = (s.monitor r).softJump
      ∧ ((s.pilotSlot r f).monitor r).lastSeq = (s.monitor r).lastSeq
      ∧ ((s.pilotSlot r f).monitor r).patches = (s.monitor r).patches
      ∧ ((s.pilotSlot r f).monitor r).capture = (s.monitor r).capture
      ∧ ((s.pilotSlot r f).monitor r).limits = (s.monitor r).limits := by
  unfold pilotSlot
  try dsimp only
  repeat' split
  all_goals simp

@[simp] theorem jumped_other (q : Rig) (r : Rig) (p : ShowPos) (h : q ≠ r) : (s.jumped r p).monitor q = s.monitor q := by
  unfold jumped
  try dsimp only
  repeat' split
  all_goals simp [h]

@[simp] theorem jumped_rest (r : Rig) (p : ShowPos) :
    ((s.jumped r p).monitor r).warn = (s.monitor r).warn
      ∧ ((s.jumped r p).monitor r).playing = (s.monitor r).playing
      ∧ ((s.jumped r p).monitor r).gap = (s.monitor r).gap
      ∧ ((s.jumped r p).monitor r).repeatStall = (s.monitor r).repeatStall
      ∧ ((s.jumped r p).monitor r).bucket = (s.monitor r).bucket
      ∧ ((s.jumped r p).monitor r).pilotCount = (s.monitor r).pilotCount
      ∧ ((s.jumped r p).monitor r).pilotPeak = (s.monitor r).pilotPeak
      ∧ ((s.jumped r p).monitor r).ref = (s.monitor r).ref
      ∧ ((s.jumped r p).monitor r).lastSeq = (s.monitor r).lastSeq
      ∧ ((s.jumped r p).monitor r).patches = (s.monitor r).patches
      ∧ ((s.jumped r p).monitor r).capture = (s.monitor r).capture
      ∧ ((s.jumped r p).monitor r).limits = (s.monitor r).limits := by
  unfold jumped
  try dsimp only
  repeat' split
  all_goals simp

@[simp] theorem continuitySlot_other (q : Rig) (r : Rig) (f : InFrame) (slot : Word) (h : q ≠ r) : (s.continuitySlot r f slot).monitor q = s.monitor q := by
  unfold continuitySlot
  try dsimp only
  repeat' split
  all_goals simp [h]

@[simp] theorem continuitySlot_rest (r : Rig) (f : InFrame) (slot : Word) :
    ((s.continuitySlot r f slot).monitor r).warn = (s.monitor r).warn
      ∧ ((s.continuitySlot r f slot).monitor r).playing = (s.monitor r).playing
      ∧ ((s.continuitySlot r f slot).monitor r).gap = (s.monitor r).gap
      ∧ ((s.continuitySlot r f slot).monitor r).repeatStall = (s.monitor r).repeatStall
      ∧ ((s.continuitySlot r f slot).monitor r).bucket = (s.monitor r).bucket
      ∧ ((s.continuitySlot r f slot).monitor r).pilotCount = (s.monitor r).pilotCount
      ∧ ((s.continuitySlot r f slot).monitor r).pilotPeak = (s.monitor r).pilotPeak
      ∧ ((s.continuitySlot r f slot).monitor r).lastSeq = (s.monitor r).lastSeq
      ∧ ((s.continuitySlot r f slot).monitor r).patches = (s.monitor r).patches
      ∧ ((s.continuitySlot r f slot).monitor r).capture = (s.monitor r).capture
      ∧ ((s.continuitySlot r f slot).monitor r).limits = (s.monitor r).limits := by
  unfold continuitySlot
  try dsimp only
  repeat' split
  all_goals simp

@[simp] theorem declaredSlot_other (q : Rig) (r : Rig) (f : InFrame) (h : q ≠ r) : (s.declaredSlot r f).monitor q = s.monitor q := by
  unfold declaredSlot
  try dsimp only
  repeat' split
  all_goals simp [h]

@[simp] theorem declaredSlot_rest (r : Rig) (f : InFrame) :
    ((s.declaredSlot r f).monitor r).warn = (s.monitor r).warn
      ∧ ((s.declaredSlot r f).monitor r).playing = (s.monitor r).playing
      ∧ ((s.declaredSlot r f).monitor r).gap = (s.monitor r).gap
      ∧ ((s.declaredSlot r f).monitor r).repeatStall = (s.monitor r).repeatStall
      ∧ ((s.declaredSlot r f).monitor r).bucket = (s.monitor r).bucket
      ∧ ((s.declaredSlot r f).monitor r).pilotCount = (s.monitor r).pilotCount
      ∧ ((s.declaredSlot r f).monitor r).pilotPeak = (s.monitor r).pilotPeak
      ∧ ((s.declaredSlot r f).monitor r).ref = (s.monitor r).ref
      ∧ ((s.declaredSlot r f).monitor r).softJump = (s.monitor r).softJump
      ∧ ((s.declaredSlot r f).monitor r).lastSeq = (s.monitor r).lastSeq
      ∧ ((s.declaredSlot r f).monitor r).patches = (s.monitor r).patches
      ∧ ((s.declaredSlot r f).monitor r).capture = (s.monitor r).capture
      ∧ ((s.declaredSlot r f).monitor r).limits = (s.monitor r).limits := by
  unfold declaredSlot
  try dsimp only
  repeat' split
  all_goals simp

@[simp] theorem noStartSlot_other (q : Rig) (r : Rig) (f : InFrame) (h : q ≠ r) : (s.noStartSlot r f).monitor q = s.monitor q := by
  unfold noStartSlot
  try dsimp only
  repeat' split
  all_goals simp [h]

@[simp] theorem noStartSlot_rest (r : Rig) (f : InFrame) :
    ((s.noStartSlot r f).monitor r).state = (s.monitor r).state
      ∧ ((s.noStartSlot r f).monitor r).warn = (s.monitor r).warn
      ∧ ((s.noStartSlot r f).monitor r).playing = (s.monitor r).playing
      ∧ ((s.noStartSlot r f).monitor r).gap = (s.monitor r).gap
      ∧ ((s.noStartSlot r f).monitor r).repeatStall = (s.monitor r).repeatStall
      ∧ ((s.noStartSlot r f).monitor r).bucket = (s.monitor r).bucket
      ∧ ((s.noStartSlot r f).monitor r).pilotCount = (s.monitor r).pilotCount
      ∧ ((s.noStartSlot r f).monitor r).pilotPeak = (s.monitor r).pilotPeak
      ∧ ((s.noStartSlot r f).monitor r).ref = (s.monitor r).ref
      ∧ ((s.noStartSlot r f).monitor r).softJump = (s.monitor r).softJump
      ∧ ((s.noStartSlot r f).monitor r).qual = (s.monitor r).qual
      ∧ ((s.noStartSlot r f).monitor r).lastSeq = (s.monitor r).lastSeq
      ∧ ((s.noStartSlot r f).monitor r).recovery = (s.monitor r).recovery
      ∧ ((s.noStartSlot r f).monitor r).requalifyReady = (s.monitor r).requalifyReady
      ∧ ((s.noStartSlot r f).monitor r).patches = (s.monitor r).patches
      ∧ ((s.noStartSlot r f).monitor r).capture = (s.monitor r).capture
      ∧ ((s.noStartSlot r f).monitor r).limits = (s.monitor r).limits
      ∧ ((s.noStartSlot r f).monitor r).event = (s.monitor r).event := by
  unfold noStartSlot
  try dsimp only
  repeat' split
  all_goals simp

@[simp] theorem qualified_other (q : Rig) (r : Rig) (k : FrameKind) (h : q ≠ r) : (s.qualified r k).monitor q = s.monitor q := by
  unfold qualified
  try dsimp only
  repeat' split
  all_goals simp [h]

@[simp] theorem qualified_rest (r : Rig) (k : FrameKind) :
    ((s.qualified r k).monitor r).hard = (s.monitor r).hard
      ∧ ((s.qualified r k).monitor r).warn = (s.monitor r).warn
      ∧ ((s.qualified r k).monitor r).playing = (s.monitor r).playing
      ∧ ((s.qualified r k).monitor r).gap = (s.monitor r).gap
      ∧ ((s.qualified r k).monitor r).repeatStall = (s.monitor r).repeatStall
      ∧ ((s.qualified r k).monitor r).bucket = (s.monitor r).bucket
      ∧ ((s.qualified r k).monitor r).pilotCount = (s.monitor r).pilotCount
      ∧ ((s.qualified r k).monitor r).pilotPeak = (s.monitor r).pilotPeak
      ∧ ((s.qualified r k).monitor r).ref = (s.monitor r).ref
      ∧ ((s.qualified r k).monitor r).softJump = (s.monitor r).softJump
      ∧ ((s.qualified r k).monitor r).qual = (s.monitor r).qual
      ∧ ((s.qualified r k).monitor r).lastSeq = (s.monitor r).lastSeq
      ∧ ((s.qualified r k).monitor r).recovery = (s.monitor r).recovery
      ∧ ((s.qualified r k).monitor r).requalifyReady = (s.monitor r).requalifyReady
      ∧ ((s.qualified r k).monitor r).patches = (s.monitor r).patches
      ∧ ((s.qualified r k).monitor r).capture = (s.monitor r).capture
      ∧ ((s.qualified r k).monitor r).limits = (s.monitor r).limits := by
  unfold qualified
  try dsimp only
  repeat' split
  all_goals simp

@[simp] theorem qualifySlot_other (q : Rig) (r : Rig) (k : FrameKind) (inRun : Bool) (h : q ≠ r) : (s.qualifySlot r k inRun).monitor q = s.monitor q := by
  unfold qualifySlot
  try dsimp only
  repeat' split
  all_goals simp [h]

@[simp] theorem qualifySlot_rest (r : Rig) (k : FrameKind) (inRun : Bool) :
    ((s.qualifySlot r k inRun).monitor r).hard = (s.monitor r).hard
      ∧ ((s.qualifySlot r k inRun).monitor r).warn = (s.monitor r).warn
      ∧ ((s.qualifySlot r k inRun).monitor r).playing = (s.monitor r).playing
      ∧ ((s.qualifySlot r k inRun).monitor r).gap = (s.monitor r).gap
      ∧ ((s.qualifySlot r k inRun).monitor r).repeatStall = (s.monitor r).repeatStall
      ∧ ((s.qualifySlot r k inRun).monitor r).bucket = (s.monitor r).bucket
      ∧ ((s.qualifySlot r k inRun).monitor r).pilotCount = (s.monitor r).pilotCount
      ∧ ((s.qualifySlot r k inRun).monitor r).pilotPeak = (s.monitor r).pilotPeak
      ∧ ((s.qualifySlot r k inRun).monitor r).ref = (s.monitor r).ref
      ∧ ((s.qualifySlot r k inRun).monitor r).softJump = (s.monitor r).softJump
      ∧ ((s.qualifySlot r k inRun).monitor r).lastSeq = (s.monitor r).lastSeq
      ∧ ((s.qualifySlot r k inRun).monitor r).recovery = (s.monitor r).recovery
      ∧ ((s.qualifySlot r k inRun).monitor r).requalifyReady = (s.monitor r).requalifyReady
      ∧ ((s.qualifySlot r k inRun).monitor r).patches = (s.monitor r).patches
      ∧ ((s.qualifySlot r k inRun).monitor r).capture = (s.monitor r).capture
      ∧ ((s.qualifySlot r k inRun).monitor r).limits = (s.monitor r).limits := by
  unfold qualifySlot
  try dsimp only
  repeat' split
  all_goals simp

@[simp] theorem captureValid_other (q : Rig) (r : Rig) (f : InFrame) (slot : Word) (h : q ≠ r) : (s.captureValid r f slot).monitor q = s.monitor q := by
  unfold captureValid
  try dsimp only
  repeat' split
  all_goals simp [h]

@[simp] theorem captureValid_rest (r : Rig) (f : InFrame) (slot : Word) :
    ((s.captureValid r f slot).monitor r).state = (s.monitor r).state
      ∧ ((s.captureValid r f slot).monitor r).hard = (s.monitor r).hard
      ∧ ((s.captureValid r f slot).monitor r).warn = (s.monitor r).warn
      ∧ ((s.captureValid r f slot).monitor r).playing = (s.monitor r).playing
      ∧ ((s.captureValid r f slot).monitor r).gap = (s.monitor r).gap
      ∧ ((s.captureValid r f slot).monitor r).repeatStall = (s.monitor r).repeatStall
      ∧ ((s.captureValid r f slot).monitor r).bucket = (s.monitor r).bucket
      ∧ ((s.captureValid r f slot).monitor r).pilotCount = (s.monitor r).pilotCount
      ∧ ((s.captureValid r f slot).monitor r).pilotPeak = (s.monitor r).pilotPeak
      ∧ ((s.captureValid r f slot).monitor r).ref = (s.monitor r).ref
      ∧ ((s.captureValid r f slot).monitor r).softJump = (s.monitor r).softJump
      ∧ ((s.captureValid r f slot).monitor r).qual = (s.monitor r).qual
      ∧ ((s.captureValid r f slot).monitor r).lastSeq = (s.monitor r).lastSeq
      ∧ ((s.captureValid r f slot).monitor r).recovery = (s.monitor r).recovery
      ∧ ((s.captureValid r f slot).monitor r).requalifyReady = (s.monitor r).requalifyReady
      ∧ ((s.captureValid r f slot).monitor r).patches = (s.monitor r).patches
      ∧ ((s.captureValid r f slot).monitor r).limits = (s.monitor r).limits
      ∧ ((s.captureValid r f slot).monitor r).event = (s.monitor r).event := by
  unfold captureValid
  try dsimp only
  repeat' split
  all_goals simp

@[simp] theorem captureDiscard_other (q : Rig) (r : Rig) (d : Discard) (slot : Word) (h : q ≠ r) : (s.captureDiscard r d slot).monitor q = s.monitor q := by
  unfold captureDiscard
  try dsimp only
  repeat' split
  all_goals simp [h]

@[simp] theorem captureDiscard_rest (r : Rig) (d : Discard) (slot : Word) :
    ((s.captureDiscard r d slot).monitor r).state = (s.monitor r).state
      ∧ ((s.captureDiscard r d slot).monitor r).hard = (s.monitor r).hard
      ∧ ((s.captureDiscard r d slot).monitor r).warn = (s.monitor r).warn
      ∧ ((s.captureDiscard r d slot).monitor r).playing = (s.monitor r).playing
      ∧ ((s.captureDiscard r d slot).monitor r).gap = (s.monitor r).gap
      ∧ ((s.captureDiscard r d slot).monitor r).repeatStall = (s.monitor r).repeatStall
      ∧ ((s.captureDiscard r d slot).monitor r).bucket = (s.monitor r).bucket
      ∧ ((s.captureDiscard r d slot).monitor r).pilotCount = (s.monitor r).pilotCount
      ∧ ((s.captureDiscard r d slot).monitor r).pilotPeak = (s.monitor r).pilotPeak
      ∧ ((s.captureDiscard r d slot).monitor r).ref = (s.monitor r).ref
      ∧ ((s.captureDiscard r d slot).monitor r).softJump = (s.monitor r).softJump
      ∧ ((s.captureDiscard r d slot).monitor r).qual = (s.monitor r).qual
      ∧ ((s.captureDiscard r d slot).monitor r).lastSeq = (s.monitor r).lastSeq
      ∧ ((s.captureDiscard r d slot).monitor r).recovery = (s.monitor r).recovery
      ∧ ((s.captureDiscard r d slot).monitor r).requalifyReady = (s.monitor r).requalifyReady
      ∧ ((s.captureDiscard r d slot).monitor r).patches = (s.monitor r).patches
      ∧ ((s.captureDiscard r d slot).monitor r).limits = (s.monitor r).limits
      ∧ ((s.captureDiscard r d slot).monitor r).event = (s.monitor r).event := by
  unfold captureDiscard
  try dsimp only
  repeat' split
  all_goals simp

@[simp] theorem validSlot_other (q : Rig) (r : Rig) (f : InFrame) (slot : Word) (h : q ≠ r) : (s.validSlot r f slot).monitor q = s.monitor q := by
  unfold validSlot
  try dsimp only
  repeat' split
  all_goals simp [h]

@[simp] theorem validSlot_rest (r : Rig) (f : InFrame) (slot : Word) :
    ((s.validSlot r f slot).monitor r).patches = (s.monitor r).patches
      ∧ ((s.validSlot r f slot).monitor r).limits = (s.monitor r).limits := by
  unfold validSlot
  try dsimp only
  repeat' split
  all_goals simp

@[simp] theorem discardSlot_other (q : Rig) (r : Rig) (d : Discard) (slot : Word) (h : q ≠ r) : (s.discardSlot r d slot).monitor q = s.monitor q := by
  unfold discardSlot
  try dsimp only
  repeat' split
  all_goals simp [h]

@[simp] theorem discardSlot_rest (r : Rig) (d : Discard) (slot : Word) :
    ((s.discardSlot r d slot).monitor r).playing = (s.monitor r).playing
      ∧ ((s.discardSlot r d slot).monitor r).pilotCount = (s.monitor r).pilotCount
      ∧ ((s.discardSlot r d slot).monitor r).pilotPeak = (s.monitor r).pilotPeak
      ∧ ((s.discardSlot r d slot).monitor r).ref = (s.monitor r).ref
      ∧ ((s.discardSlot r d slot).monitor r).softJump = (s.monitor r).softJump
      ∧ ((s.discardSlot r d slot).monitor r).lastSeq = (s.monitor r).lastSeq
      ∧ ((s.discardSlot r d slot).monitor r).patches = (s.monitor r).patches
      ∧ ((s.discardSlot r d slot).monitor r).limits = (s.monitor r).limits := by
  unfold discardSlot
  try dsimp only
  repeat' split
  all_goals simp

@[simp] theorem healthLinkDown_other (q : Rig) (r : Rig) (h : q ≠ r) : (s.healthLinkDown r).monitor q = s.monitor q := by
  unfold healthLinkDown
  try dsimp only
  repeat' split
  all_goals simp [h]

@[simp] theorem healthLinkDown_rest (r : Rig) :
    ((s.healthLinkDown r).monitor r).repeatStall = (s.monitor r).repeatStall
      ∧ ((s.healthLinkDown r).monitor r).patches = (s.monitor r).patches
      ∧ ((s.healthLinkDown r).monitor r).capture = (s.monitor r).capture
      ∧ ((s.healthLinkDown r).monitor r).limits = (s.monitor r).limits := by
  unfold healthLinkDown
  try dsimp only
  repeat' split
  all_goals simp

@[simp] theorem healthLinkUp_other (q : Rig) (r : Rig) (h : q ≠ r) : (s.healthLinkUp r).monitor q = s.monitor q := by
  unfold healthLinkUp
  try dsimp only
  repeat' split
  all_goals simp [h]

@[simp] theorem healthLinkUp_rest (r : Rig) :
    ((s.healthLinkUp r).monitor r).hard = (s.monitor r).hard
      ∧ ((s.healthLinkUp r).monitor r).warn = (s.monitor r).warn
      ∧ ((s.healthLinkUp r).monitor r).playing = (s.monitor r).playing
      ∧ ((s.healthLinkUp r).monitor r).gap = (s.monitor r).gap
      ∧ ((s.healthLinkUp r).monitor r).repeatStall = (s.monitor r).repeatStall
      ∧ ((s.healthLinkUp r).monitor r).bucket = (s.monitor r).bucket
      ∧ ((s.healthLinkUp r).monitor r).pilotCount = (s.monitor r).pilotCount
      ∧ ((s.healthLinkUp r).monitor r).pilotPeak = (s.monitor r).pilotPeak
      ∧ ((s.healthLinkUp r).monitor r).ref = (s.monitor r).ref
      ∧ ((s.healthLinkUp r).monitor r).softJump = (s.monitor r).softJump
      ∧ ((s.healthLinkUp r).monitor r).lastSeq = (s.monitor r).lastSeq
      ∧ ((s.healthLinkUp r).monitor r).recovery = (s.monitor r).recovery
      ∧ ((s.healthLinkUp r).monitor r).requalifyReady = (s.monitor r).requalifyReady
      ∧ ((s.healthLinkUp r).monitor r).patches = (s.monitor r).patches
      ∧ ((s.healthLinkUp r).monitor r).capture = (s.monitor r).capture
      ∧ ((s.healthLinkUp r).monitor r).limits = (s.monitor r).limits := by
  unfold healthLinkUp
  try dsimp only
  repeat' split
  all_goals simp

@[simp] theorem recoveryReached_other (q : Rig) (r : Rig) (h : q ≠ r) : (s.recoveryReached r).monitor q = s.monitor q := by
  unfold recoveryReached
  try dsimp only
  repeat' split
  all_goals simp [h]

@[simp] theorem recoveryReached_rest (r : Rig) :
    ((s.recoveryReached r).monitor r).hard = (s.monitor r).hard
      ∧ ((s.recoveryReached r).monitor r).warn = (s.monitor r).warn
      ∧ ((s.recoveryReached r).monitor r).playing = (s.monitor r).playing
      ∧ ((s.recoveryReached r).monitor r).gap = (s.monitor r).gap
      ∧ ((s.recoveryReached r).monitor r).repeatStall = (s.monitor r).repeatStall
      ∧ ((s.recoveryReached r).monitor r).bucket = (s.monitor r).bucket
      ∧ ((s.recoveryReached r).monitor r).pilotCount = (s.monitor r).pilotCount
      ∧ ((s.recoveryReached r).monitor r).pilotPeak = (s.monitor r).pilotPeak
      ∧ ((s.recoveryReached r).monitor r).ref = (s.monitor r).ref
      ∧ ((s.recoveryReached r).monitor r).softJump = (s.monitor r).softJump
      ∧ ((s.recoveryReached r).monitor r).lastSeq = (s.monitor r).lastSeq
      ∧ ((s.recoveryReached r).monitor r).patches = (s.monitor r).patches
      ∧ ((s.recoveryReached r).monitor r).capture = (s.monitor r).capture
      ∧ ((s.recoveryReached r).monitor r).limits = (s.monitor r).limits := by
  unfold recoveryReached
  try dsimp only
  repeat' split
  all_goals simp

@[simp] theorem softJumpReached_other (q : Rig) (r : Rig) (h : q ≠ r) : (s.softJumpReached r).monitor q = s.monitor q := by
  unfold softJumpReached
  try dsimp only
  repeat' split
  all_goals simp [h]

@[simp] theorem softJumpReached_rest (r : Rig) :
    ((s.softJumpReached r).monitor r).hard = (s.monitor r).hard
      ∧ ((s.softJumpReached r).monitor r).warn = (s.monitor r).warn
      ∧ ((s.softJumpReached r).monitor r).playing = (s.monitor r).playing
      ∧ ((s.softJumpReached r).monitor r).gap = (s.monitor r).gap
      ∧ ((s.softJumpReached r).monitor r).repeatStall = (s.monitor r).repeatStall
      ∧ ((s.softJumpReached r).monitor r).bucket = (s.monitor r).bucket
      ∧ ((s.softJumpReached r).monitor r).pilotCount = (s.monitor r).pilotCount
      ∧ ((s.softJumpReached r).monitor r).pilotPeak = (s.monitor r).pilotPeak
      ∧ ((s.softJumpReached r).monitor r).ref = (s.monitor r).ref
      ∧ ((s.softJumpReached r).monitor r).qual = (s.monitor r).qual
      ∧ ((s.softJumpReached r).monitor r).lastSeq = (s.monitor r).lastSeq
      ∧ ((s.softJumpReached r).monitor r).recovery = (s.monitor r).recovery
      ∧ ((s.softJumpReached r).monitor r).requalifyReady = (s.monitor r).requalifyReady
      ∧ ((s.softJumpReached r).monitor r).patches = (s.monitor r).patches
      ∧ ((s.softJumpReached r).monitor r).capture = (s.monitor r).capture
      ∧ ((s.softJumpReached r).monitor r).limits = (s.monitor r).limits := by
  unfold softJumpReached
  try dsimp only
  repeat' split
  all_goals simp

@[simp] theorem recoveryTick_other (q : Rig) (r : Rig) (h : q ≠ r) : (s.recoveryTick r).monitor q = s.monitor q := by
  unfold recoveryTick
  try dsimp only
  repeat' split
  all_goals simp [h]

@[simp] theorem recoveryTick_rest (r : Rig) :
    ((s.recoveryTick r).monitor r).hard = (s.monitor r).hard
      ∧ ((s.recoveryTick r).monitor r).warn = (s.monitor r).warn
      ∧ ((s.recoveryTick r).monitor r).playing = (s.monitor r).playing
      ∧ ((s.recoveryTick r).monitor r).gap = (s.monitor r).gap
      ∧ ((s.recoveryTick r).monitor r).repeatStall = (s.monitor r).repeatStall
      ∧ ((s.recoveryTick r).monitor r).bucket = (s.monitor r).bucket
      ∧ ((s.recoveryTick r).monitor r).pilotCount = (s.monitor r).pilotCount
      ∧ ((s.recoveryTick r).monitor r).pilotPeak = (s.monitor r).pilotPeak
      ∧ ((s.recoveryTick r).monitor r).ref = (s.monitor r).ref
      ∧ ((s.recoveryTick r).monitor r).softJump = (s.monitor r).softJump
      ∧ ((s.recoveryTick r).monitor r).lastSeq = (s.monitor r).lastSeq
      ∧ ((s.recoveryTick r).monitor r).patches = (s.monitor r).patches
      ∧ ((s.recoveryTick r).monitor r).capture = (s.monitor r).capture
      ∧ ((s.recoveryTick r).monitor r).limits = (s.monitor r).limits := by
  unfold recoveryTick
  try dsimp only
  repeat' split
  all_goals simp

@[simp] theorem softJumpTick_other (q : Rig) (r : Rig) (h : q ≠ r) : (s.softJumpTick r).monitor q = s.monitor q := by
  unfold softJumpTick
  try dsimp only
  repeat' split
  all_goals simp [h]

@[simp] theorem softJumpTick_rest (r : Rig) :
    ((s.softJumpTick r).monitor r).hard = (s.monitor r).hard
      ∧ ((s.softJumpTick r).monitor r).warn = (s.monitor r).warn
      ∧ ((s.softJumpTick r).monitor r).playing = (s.monitor r).playing
      ∧ ((s.softJumpTick r).monitor r).gap = (s.monitor r).gap
      ∧ ((s.softJumpTick r).monitor r).repeatStall = (s.monitor r).repeatStall
      ∧ ((s.softJumpTick r).monitor r).bucket = (s.monitor r).bucket
      ∧ ((s.softJumpTick r).monitor r).pilotCount = (s.monitor r).pilotCount
      ∧ ((s.softJumpTick r).monitor r).pilotPeak = (s.monitor r).pilotPeak
      ∧ ((s.softJumpTick r).monitor r).ref = (s.monitor r).ref
      ∧ ((s.softJumpTick r).monitor r).qual = (s.monitor r).qual
      ∧ ((s.softJumpTick r).monitor r).lastSeq = (s.monitor r).lastSeq
      ∧ ((s.softJumpTick r).monitor r).recovery = (s.monitor r).recovery
      ∧ ((s.softJumpTick r).monitor r).requalifyReady = (s.monitor r).requalifyReady
      ∧ ((s.softJumpTick r).monitor r).patches = (s.monitor r).patches
      ∧ ((s.softJumpTick r).monitor r).capture = (s.monitor r).capture
      ∧ ((s.softJumpTick r).monitor r).limits = (s.monitor r).limits := by
  unfold softJumpTick
  try dsimp only
  repeat' split
  all_goals simp

@[simp] theorem readyTick_other (q : Rig) (r : Rig) (h : q ≠ r) : (s.readyTick r).monitor q = s.monitor q := by
  unfold readyTick
  try dsimp only
  repeat' split
  all_goals simp [h]

@[simp] theorem readyTick_rest (r : Rig) :
    ((s.readyTick r).monitor r).hard = (s.monitor r).hard
      ∧ ((s.readyTick r).monitor r).warn = (s.monitor r).warn
      ∧ ((s.readyTick r).monitor r).playing = (s.monitor r).playing
      ∧ ((s.readyTick r).monitor r).gap = (s.monitor r).gap
      ∧ ((s.readyTick r).monitor r).repeatStall = (s.monitor r).repeatStall
      ∧ ((s.readyTick r).monitor r).bucket = (s.monitor r).bucket
      ∧ ((s.readyTick r).monitor r).pilotCount = (s.monitor r).pilotCount
      ∧ ((s.readyTick r).monitor r).pilotPeak = (s.monitor r).pilotPeak
      ∧ ((s.readyTick r).monitor r).ref = (s.monitor r).ref
      ∧ ((s.readyTick r).monitor r).softJump = (s.monitor r).softJump
      ∧ ((s.readyTick r).monitor r).lastSeq = (s.monitor r).lastSeq
      ∧ ((s.readyTick r).monitor r).recovery = (s.monitor r).recovery
      ∧ ((s.readyTick r).monitor r).patches = (s.monitor r).patches
      ∧ ((s.readyTick r).monitor r).capture = (s.monitor r).capture
      ∧ ((s.readyTick r).monitor r).limits = (s.monitor r).limits := by
  unfold readyTick
  try dsimp only
  repeat' split
  all_goals simp

@[simp] theorem healthPeriod_other (q : Rig) (r : Rig) (h : q ≠ r) : (s.healthPeriod r).monitor q = s.monitor q := by
  unfold healthPeriod
  try dsimp only
  repeat' split
  all_goals simp [h]

@[simp] theorem healthPeriod_rest (r : Rig) :
    ((s.healthPeriod r).monitor r).hard = (s.monitor r).hard
      ∧ ((s.healthPeriod r).monitor r).warn = (s.monitor r).warn
      ∧ ((s.healthPeriod r).monitor r).playing = (s.monitor r).playing
      ∧ ((s.healthPeriod r).monitor r).gap = (s.monitor r).gap
      ∧ ((s.healthPeriod r).monitor r).repeatStall = (s.monitor r).repeatStall
      ∧ ((s.healthPeriod r).monitor r).bucket = (s.monitor r).bucket
      ∧ ((s.healthPeriod r).monitor r).pilotCount = (s.monitor r).pilotCount
      ∧ ((s.healthPeriod r).monitor r).pilotPeak = (s.monitor r).pilotPeak
      ∧ ((s.healthPeriod r).monitor r).ref = (s.monitor r).ref
      ∧ ((s.healthPeriod r).monitor r).lastSeq = (s.monitor r).lastSeq
      ∧ ((s.healthPeriod r).monitor r).patches = (s.monitor r).patches
      ∧ ((s.healthPeriod r).monitor r).capture = (s.monitor r).capture
      ∧ ((s.healthPeriod r).monitor r).limits = (s.monitor r).limits := by
  unfold healthPeriod
  try dsimp only
  repeat' split
  all_goals simp

@[simp] theorem noStart_other (q : Rig) (r : Rig) (h : q ≠ r) : (s.noStart r).monitor q = s.monitor q := by
  unfold noStart
  try dsimp only
  repeat' split
  all_goals simp [h]

@[simp] theorem noStart_rest (r : Rig) :
    ((s.noStart r).monitor r).warn = (s.monitor r).warn
      ∧ ((s.noStart r).monitor r).playing = (s.monitor r).playing
      ∧ ((s.noStart r).monitor r).gap = (s.monitor r).gap
      ∧ ((s.noStart r).monitor r).repeatStall = (s.monitor r).repeatStall
      ∧ ((s.noStart r).monitor r).bucket = (s.monitor r).bucket
      ∧ ((s.noStart r).monitor r).pilotCount = (s.monitor r).pilotCount
      ∧ ((s.noStart r).monitor r).pilotPeak = (s.monitor r).pilotPeak
      ∧ ((s.noStart r).monitor r).ref = (s.monitor r).ref
      ∧ ((s.noStart r).monitor r).softJump = (s.monitor r).softJump
      ∧ ((s.noStart r).monitor r).lastSeq = (s.monitor r).lastSeq
      ∧ ((s.noStart r).monitor r).patches = (s.monitor r).patches
      ∧ ((s.noStart r).monitor r).capture = (s.monitor r).capture
      ∧ ((s.noStart r).monitor r).limits = (s.monitor r).limits := by
  unfold noStart
  try dsimp only
  repeat' split
  all_goals simp

@[simp] theorem applyLimits_other (q : Rig) (r : Rig) (l : HealthLimits) (h : q ≠ r) : (s.applyLimits r l).monitor q = s.monitor q := by
  unfold applyLimits
  try dsimp only
  repeat' split
  all_goals simp [h]

@[simp] theorem applyLimits_rest (r : Rig) (l : HealthLimits) :
    ((s.applyLimits r l).monitor r).state = (s.monitor r).state
      ∧ ((s.applyLimits r l).monitor r).warn = (s.monitor r).warn
      ∧ ((s.applyLimits r l).monitor r).playing = (s.monitor r).playing
      ∧ ((s.applyLimits r l).monitor r).gap = (s.monitor r).gap
      ∧ ((s.applyLimits r l).monitor r).repeatStall = (s.monitor r).repeatStall
      ∧ ((s.applyLimits r l).monitor r).bucket = (s.monitor r).bucket
      ∧ ((s.applyLimits r l).monitor r).ref = (s.monitor r).ref
      ∧ ((s.applyLimits r l).monitor r).softJump = (s.monitor r).softJump
      ∧ ((s.applyLimits r l).monitor r).qual = (s.monitor r).qual
      ∧ ((s.applyLimits r l).monitor r).lastSeq = (s.monitor r).lastSeq
      ∧ ((s.applyLimits r l).monitor r).requalifyReady = (s.monitor r).requalifyReady
      ∧ ((s.applyLimits r l).monitor r).patches = (s.monitor r).patches
      ∧ ((s.applyLimits r l).monitor r).capture = (s.monitor r).capture
      ∧ ((s.applyLimits r l).monitor r).event = (s.monitor r).event := by
  unfold applyLimits
  try dsimp only
  repeat' split
  all_goals simp

@[simp] theorem requalifyTaken_other (q : Rig) (r : Rig) (h : q ≠ r) : (s.requalifyTaken r).monitor q = s.monitor q := by
  unfold requalifyTaken
  try dsimp only
  repeat' split
  all_goals simp [h]

@[simp] theorem requalifyTaken_rest (r : Rig) :
    ((s.requalifyTaken r).monitor r).hard = (s.monitor r).hard
      ∧ ((s.requalifyTaken r).monitor r).warn = (s.monitor r).warn
      ∧ ((s.requalifyTaken r).monitor r).playing = (s.monitor r).playing
      ∧ ((s.requalifyTaken r).monitor r).gap = (s.monitor r).gap
      ∧ ((s.requalifyTaken r).monitor r).bucket = (s.monitor r).bucket
      ∧ ((s.requalifyTaken r).monitor r).pilotCount = (s.monitor r).pilotCount
      ∧ ((s.requalifyTaken r).monitor r).pilotPeak = (s.monitor r).pilotPeak
      ∧ ((s.requalifyTaken r).monitor r).ref = (s.monitor r).ref
      ∧ ((s.requalifyTaken r).monitor r).lastSeq = (s.monitor r).lastSeq
      ∧ ((s.requalifyTaken r).monitor r).recovery = (s.monitor r).recovery
      ∧ ((s.requalifyTaken r).monitor r).capture = (s.monitor r).capture
      ∧ ((s.requalifyTaken r).monitor r).limits = (s.monitor r).limits := by
  unfold requalifyTaken
  try dsimp only
  repeat' split
  all_goals simp

@[simp] theorem patchNotice_other (q : Rig) (r : Rig) (h : q ≠ r) : (s.patchNotice r).monitor q = s.monitor q := by
  unfold patchNotice
  try dsimp only
  repeat' split
  all_goals simp [h]

@[simp] theorem patchNotice_rest (r : Rig) :
    ((s.patchNotice r).monitor r).state = (s.monitor r).state
      ∧ ((s.patchNotice r).monitor r).hard = (s.monitor r).hard
      ∧ ((s.patchNotice r).monitor r).warn = (s.monitor r).warn
      ∧ ((s.patchNotice r).monitor r).playing = (s.monitor r).playing
      ∧ ((s.patchNotice r).monitor r).gap = (s.monitor r).gap
      ∧ ((s.patchNotice r).monitor r).repeatStall = (s.monitor r).repeatStall
      ∧ ((s.patchNotice r).monitor r).bucket = (s.monitor r).bucket
      ∧ ((s.patchNotice r).monitor r).pilotCount = (s.monitor r).pilotCount
      ∧ ((s.patchNotice r).monitor r).pilotPeak = (s.monitor r).pilotPeak
      ∧ ((s.patchNotice r).monitor r).ref = (s.monitor r).ref
      ∧ ((s.patchNotice r).monitor r).softJump = (s.monitor r).softJump
      ∧ ((s.patchNotice r).monitor r).qual = (s.monitor r).qual
      ∧ ((s.patchNotice r).monitor r).lastSeq = (s.monitor r).lastSeq
      ∧ ((s.patchNotice r).monitor r).recovery = (s.monitor r).recovery
      ∧ ((s.patchNotice r).monitor r).requalifyReady = (s.monitor r).requalifyReady
      ∧ ((s.patchNotice r).monitor r).capture = (s.monitor r).capture
      ∧ ((s.patchNotice r).monitor r).limits = (s.monitor r).limits
      ∧ ((s.patchNotice r).monitor r).event = (s.monitor r).event := by
  unfold patchNotice
  try dsimp only
  repeat' split
  all_goals simp

end State

end Sys2Proof.Machine
end

