-- ==== Sys2Proof/Laws/FrameSwitch.lean ====
section
/-! SUPPORT. What each operation leaves alone: the switch controller, the program, output assembly and the framer. -/

namespace Sys2Proof.Machine.State

variable {s : State}

/-! ## Switch.lean -/

@[simp] theorem journalAdd_frame (g : Fin 8) (o t : Source) (w : SwitchInfo) :
    (s.journalAdd g o t w).framer = s.framer ∧ (s.journalAdd g o t w).links = s.links ∧ (s.journalAdd g o t w).health = s.health
    ∧ (s.journalAdd g o t w).cues = s.cues ∧ (s.journalAdd g o t w).ctl.groups = s.ctl.groups ∧ (s.journalAdd g o t w).ctl.policies = s.ctl.policies
    ∧ (s.journalAdd g o t w).ctl.stamps = s.ctl.stamps ∧ (s.journalAdd g o t w).routes = s.routes ∧ (s.journalAdd g o t w).store = s.store
    ∧ (s.journalAdd g o t w).player = s.player ∧ (s.journalAdd g o t w).gang = s.gang ∧ (s.journalAdd g o t w).fault = s.fault
    ∧ (s.journalAdd g o t w).mgmt = s.mgmt ∧ (s.journalAdd g o t w).pending = s.pending ∧ (s.journalAdd g o t w).align = s.align := by
  simp [journalAdd]
@[simp] theorem stampPeriod_frame :
    s.stampPeriod.framer = s.framer ∧ s.stampPeriod.links = s.links ∧ s.stampPeriod.health = s.health ∧ s.stampPeriod.cues = s.cues
    ∧ s.stampPeriod.ctl.groups = s.ctl.groups ∧ s.stampPeriod.ctl.policies = s.ctl.policies ∧ s.stampPeriod.ctl.journal = s.ctl.journal
    ∧ s.stampPeriod.routes = s.routes ∧ s.stampPeriod.store = s.store ∧ s.stampPeriod.player = s.player ∧ s.stampPeriod.gang = s.gang
    ∧ s.stampPeriod.fault = s.fault ∧ s.stampPeriod.mgmt = s.mgmt ∧ s.stampPeriod.pending = s.pending ∧ s.stampPeriod.align = s.align := by
  simp [stampPeriod]
@[simp] theorem changeVector_frame (g : Fin 8) (src : Source) (eff : ShowPos) (fade : Nat) (u : Urgency) :
    (s.changeVector g src eff fade u).framer = s.framer ∧ (s.changeVector g src eff fade u).links = s.links
    ∧ (s.changeVector g src eff fade u).health = s.health ∧ (s.changeVector g src eff fade u).cues = s.cues
    ∧ (s.changeVector g src eff fade u).routes = s.routes ∧ (s.changeVector g src eff fade u).store = s.store
    ∧ (s.changeVector g src eff fade u).player = s.player ∧ (s.changeVector g src eff fade u).fault = s.fault
    ∧ (s.changeVector g src eff fade u).mgmt = s.mgmt ∧ (s.changeVector g src eff fade u).pending = s.pending
    ∧ (s.changeVector g src eff fade u).align = s.align ∧ (s.changeVector g src eff fade u).ctl = s.ctl := by
  simp only [changeVector]
  split <;> simp
@[simp] theorem vectorNow_frame (g : Fin 8) (fade : Nat) :
    (s.vectorNow g fade).framer = s.framer ∧ (s.vectorNow g fade).links = s.links ∧ (s.vectorNow g fade).health = s.health
    ∧ (s.vectorNow g fade).cues = s.cues ∧ (s.vectorNow g fade).routes = s.routes ∧ (s.vectorNow g fade).store = s.store
    ∧ (s.vectorNow g fade).player = s.player ∧ (s.vectorNow g fade).fault = s.fault ∧ (s.vectorNow g fade).mgmt = s.mgmt
    ∧ (s.vectorNow g fade).pending = s.pending ∧ (s.vectorNow g fade).align = s.align ∧ (s.vectorNow g fade).ctl = s.ctl := by
  simp [vectorNow]
@[simp] theorem place_frame (g : Fin 8) (st : GroupState) (hard : Bool) :
    (s.place g st hard).framer = s.framer ∧ (s.place g st hard).links = s.links ∧ (s.place g st hard).health = s.health
    ∧ (s.place g st hard).cues = s.cues ∧ (s.place g st hard).ctl.policies = s.ctl.policies ∧ (s.place g st hard).ctl.stamps = s.ctl.stamps
    ∧ (s.place g st hard).ctl.journal = s.ctl.journal ∧ (s.place g st hard).routes = s.routes ∧ (s.place g st hard).store = s.store
    ∧ (s.place g st hard).player = s.player ∧ (s.place g st hard).gang = s.gang ∧ (s.place g st hard).fault = s.fault
    ∧ (s.place g st hard).mgmt = s.mgmt ∧ (s.place g st hard).pending = s.pending := by
  simp only [place]
  split <;> simp
@[simp] theorem carry_frame (g : Fin 8) (o : Source) (st : GroupState) (hard : Bool) (h : Nat) (w : SwitchInfo) (tell : Bool) :
    (s.carry g o st hard h w tell).framer = s.framer ∧ (s.carry g o st hard h w tell).links = s.links ∧ (s.carry g o st hard h w tell).health = s.health
    ∧ (s.carry g o st hard h w tell).cues = s.cues ∧ (s.carry g o st hard h w tell).ctl.policies = s.ctl.policies
    ∧ (s.carry g o st hard h w tell).ctl.stamps = s.ctl.stamps ∧ (s.carry g o st hard h w tell).routes = s.routes
    ∧ (s.carry g o st hard h w tell).store = s.store ∧ (s.carry g o st hard h w tell).player = s.player ∧ (s.carry g o st hard h w tell).fault = s.fault
    ∧ (s.carry g o st hard h w tell).mgmt = s.mgmt ∧ (s.carry g o st hard h w tell).pending = s.pending := by
  simp only [carry]
  split <;> simp
@[simp] theorem mutedFault_frame (g : Fin 8) (left t : Source) :
    (s.mutedFault g left t).framer = s.framer ∧ (s.mutedFault g left t).links = s.links ∧ (s.mutedFault g left t).health = s.health
    ∧ (s.mutedFault g left t).cues = s.cues ∧ (s.mutedFault g left t).routes = s.routes ∧ (s.mutedFault g left t).store = s.store
    ∧ (s.mutedFault g left t).player = s.player ∧ (s.mutedFault g left t).gang = s.gang ∧ (s.mutedFault g left t).mgmt = s.mgmt
    ∧ (s.mutedFault g left t).pending = s.pending ∧ (s.mutedFault g left t).align = s.align ∧ (s.mutedFault g left t).ctl = s.ctl := by
  simp only [mutedFault]
  split <;> simp
@[simp] theorem carryRequest_frame (g : Fin 8) (c : Cause) (q : SwitchReq) (t : Source) (atLimit : Bool) :
    (s.carryRequest g c q t atLimit).framer = s.framer ∧ (s.carryRequest g c q t atLimit).links = s.links
    ∧ (s.carryRequest g c q t atLimit).health = s.health ∧ (s.carryRequest g c q t atLimit).cues = s.cues
    ∧ (s.carryRequest g c q t atLimit).ctl.policies = s.ctl.policies ∧ (s.carryRequest g c q t atLimit).ctl.stamps = s.ctl.stamps
    ∧ (s.carryRequest g c q t atLimit).routes = s.routes ∧ (s.carryRequest g c q t atLimit).store = s.store
    ∧ (s.carryRequest g c q t atLimit).player = s.player ∧ (s.carryRequest g c q t atLimit).mgmt = s.mgmt
    ∧ (s.carryRequest g c q t atLimit).pending = s.pending := by
  simp only [carryRequest]
  split <;> simp
@[simp] theorem fadeDone_frame (g : Fin 8) :
    (s.fadeDone g).framer = s.framer ∧ (s.fadeDone g).links = s.links ∧ (s.fadeDone g).health = s.health ∧ (s.fadeDone g).cues = s.cues
    ∧ (s.fadeDone g).ctl.policies = s.ctl.policies ∧ (s.fadeDone g).ctl.stamps = s.ctl.stamps ∧ (s.fadeDone g).ctl.journal = s.ctl.journal
    ∧ (s.fadeDone g).routes = s.routes ∧ (s.fadeDone g).store = s.store ∧ (s.fadeDone g).player = s.player ∧ (s.fadeDone g).gang = s.gang
    ∧ (s.fadeDone g).fault = s.fault ∧ (s.fadeDone g).mgmt = s.mgmt ∧ (s.fadeDone g).pending = s.pending := by
  simp only [fadeDone]
  split <;> simp
@[simp] theorem fadeProgress_frame (g : Fin 8) :
    (s.fadeProgress g).framer = s.framer ∧ (s.fadeProgress g).links = s.links ∧ (s.fadeProgress g).health = s.health ∧ (s.fadeProgress g).cues = s.cues
    ∧ (s.fadeProgress g).ctl.policies = s.ctl.policies ∧ (s.fadeProgress g).ctl.stamps = s.ctl.stamps ∧ (s.fadeProgress g).ctl.journal = s.ctl.journal
    ∧ (s.fadeProgress g).routes = s.routes ∧ (s.fadeProgress g).store = s.store ∧ (s.fadeProgress g).player = s.player
    ∧ (s.fadeProgress g).gang = s.gang ∧ (s.fadeProgress g).fault = s.fault ∧ (s.fadeProgress g).mgmt = s.mgmt ∧ (s.fadeProgress g).pending = s.pending := by
  simp only [fadeProgress]
  (repeat' split) <;> simp
@[simp] theorem fadeToThird_frame (g : Fin 8) (o d : Source) (n : Nat) (start : Word) (c : Cause) (q : SwitchReq) (t : Source) :
    (s.fadeToThird g o d n start c q t).framer = s.framer ∧ (s.fadeToThird g o d n start c q t).links = s.links
    ∧ (s.fadeToThird g o d n start c q t).health = s.health ∧ (s.fadeToThird g o d n start c q t).cues = s.cues
    ∧ (s.fadeToThird g o d n start c q t).ctl.policies = s.ctl.policies ∧ (s.fadeToThird g o d n start c q t).ctl.stamps = s.ctl.stamps
    ∧ (s.fadeToThird g o d n start c q t).routes = s.routes ∧ (s.fadeToThird g o d n start c q t).store = s.store
    ∧ (s.fadeToThird g o d n start c q t).player = s.player ∧ (s.fadeToThird g o d n start c q t).fault = s.fault
    ∧ (s.fadeToThird g o d n start c q t).mgmt = s.mgmt ∧ (s.fadeToThird g o d n start c q t).pending = s.pending := by
  simp [fadeToThird]
@[simp] theorem fadeFailed_frame (g : Fin 8) (o d : Source) (c : Cause) :
    (s.fadeFailed g o d c).framer = s.framer ∧ (s.fadeFailed g o d c).links = s.links ∧ (s.fadeFailed g o d c).health = s.health
    ∧ (s.fadeFailed g o d c).cues = s.cues ∧ (s.fadeFailed g o d c).ctl.policies = s.ctl.policies ∧ (s.fadeFailed g o d c).ctl.stamps = s.ctl.stamps
    ∧ (s.fadeFailed g o d c).routes = s.routes ∧ (s.fadeFailed g o d c).store = s.store ∧ (s.fadeFailed g o d c).player = s.player
    ∧ (s.fadeFailed g o d c).mgmt = s.mgmt ∧ (s.fadeFailed g o d c).pending = s.pending := by
  simp [fadeFailed]
@[simp] theorem fadeReturn_frame (g : Fin 8) (o d : Source) (n : Nat) (start : Word) (c : Cause) :
    (s.fadeReturn g o d n start c).framer = s.framer ∧ (s.fadeReturn g o d n start c).links = s.links ∧ (s.fadeReturn g o d n start c).health = s.health
    ∧ (s.fadeReturn g o d n start c).cues = s.cues ∧ (s.fadeReturn g o d n start c).ctl.policies = s.ctl.policies
    ∧ (s.fadeReturn g o d n start c).ctl.stamps = s.ctl.stamps ∧ (s.fadeReturn g o d n start c).routes = s.routes
    ∧ (s.fadeReturn g o d n start c).store = s.store ∧ (s.fadeReturn g o d n start c).player = s.player ∧ (s.fadeReturn g o d n start c).fault = s.fault
    ∧ (s.fadeReturn g o d n start c).mgmt = s.mgmt ∧ (s.fadeReturn g o d n start c).pending = s.pending := by
  simp [fadeReturn]
@[simp] theorem cutShort_frame (g : Fin 8) (o d : Source) (c : Cause) :
    (s.cutShort g o d c).framer = s.framer ∧ (s.cutShort g o d c).links = s.links ∧ (s.cutShort g o d c).health = s.health
    ∧ (s.cutShort g o d c).cues = s.cues ∧ (s.cutShort g o d c).ctl.policies = s.ctl.policies ∧ (s.cutShort g o d c).ctl.stamps = s.ctl.stamps
    ∧ (s.cutShort g o d c).routes = s.routes ∧ (s.cutShort g o d c).store = s.store ∧ (s.cutShort g o d c).player = s.player
    ∧ (s.cutShort g o d c).fault = s.fault ∧ (s.cutShort g o d c).mgmt = s.mgmt ∧ (s.cutShort g o d c).pending = s.pending := by
  simp [cutShort]
@[simp] theorem destinationFailed_frame (g : Fin 8) (o d : Source) (n : Nat) (start : Word) (ret : Bool) (c : Cause) :
    (s.destinationFailed g o d n start ret c).framer = s.framer ∧ (s.destinationFailed g o d n start ret c).links = s.links
    ∧ (s.destinationFailed g o d n start ret c).health = s.health ∧ (s.destinationFailed g o d n start ret c).cues = s.cues
    ∧ (s.destinationFailed g o d n start ret c).ctl.policies = s.ctl.policies ∧ (s.destinationFailed g o d n start ret c).ctl.stamps = s.ctl.stamps
    ∧ (s.destinationFailed g o d n start ret c).routes = s.routes ∧ (s.destinationFailed g o d n start ret c).store = s.store
    ∧ (s.destinationFailed g o d n start ret c).player = s.player ∧ (s.destinationFailed g o d n start ret c).mgmt = s.mgmt
    ∧ (s.destinationFailed g o d n start ret c).pending = s.pending := by
  simp only [destinationFailed]
  (repeat' split) <;> simp
@[simp] theorem fadeWatch_frame (g : Fin 8) :
    (s.fadeWatch g).1.framer = s.framer ∧ (s.fadeWatch g).1.links = s.links ∧ (s.fadeWatch g).1.health = s.health ∧ (s.fadeWatch g).1.cues = s.cues
    ∧ (s.fadeWatch g).1.ctl.policies = s.ctl.policies ∧ (s.fadeWatch g).1.ctl.stamps = s.ctl.stamps ∧ (s.fadeWatch g).1.routes = s.routes
    ∧ (s.fadeWatch g).1.store = s.store ∧ (s.fadeWatch g).1.player = s.player ∧ (s.fadeWatch g).1.mgmt = s.mgmt ∧ (s.fadeWatch g).1.pending = s.pending := by
  simp only [fadeWatch]
  (repeat' split) <;> simp
@[simp] theorem dropCause_frame (g : Fin 8) (c : Cause) :
    (s.dropCause g c).framer = s.framer ∧ (s.dropCause g c).links = s.links ∧ (s.dropCause g c).health = s.health ∧ (s.dropCause g c).cues = s.cues
    ∧ (s.dropCause g c).ctl.policies = s.ctl.policies ∧ (s.dropCause g c).ctl.stamps = s.ctl.stamps ∧ (s.dropCause g c).ctl.journal = s.ctl.journal
    ∧ (s.dropCause g c).routes = s.routes ∧ (s.dropCause g c).store = s.store ∧ (s.dropCause g c).player = s.player ∧ (s.dropCause g c).gang = s.gang
    ∧ (s.dropCause g c).fault = s.fault ∧ (s.dropCause g c).mgmt = s.mgmt ∧ (s.dropCause g c).pending = s.pending ∧ (s.dropCause g c).align = s.align := by
  simp [dropCause]
@[simp] theorem latchHealth_frame (g : Fin 8) (u : Urgency) :
    (s.latchHealth g u).framer = s.framer ∧ (s.latchHealth g u).links = s.links ∧ (s.latchHealth g u).health = s.health
    ∧ (s.latchHealth g u).cues = s.cues ∧ (s.latchHealth g u).ctl.policies = s.ctl.policies ∧ (s.latchHealth g u).ctl.stamps = s.ctl.stamps
    ∧ (s.latchHealth g u).ctl.journal = s.ctl.journal ∧ (s.latchHealth g u).routes = s.routes ∧ (s.latchHealth g u).store = s.store
    ∧ (s.latchHealth g u).player = s.player ∧ (s.latchHealth g u).gang = s.gang ∧ (s.latchHealth g u).fault = s.fault
    ∧ (s.latchHealth g u).mgmt = s.mgmt ∧ (s.latchHealth g u).pending = s.pending ∧ (s.latchHealth g u).align = s.align := by
  simp only [latchHealth]
  split <;> simp
@[simp] theorem needNow_frame (g : Fin 8) :
    (s.needNow g).framer = s.framer ∧ (s.needNow g).links = s.links ∧ (s.needNow g).health = s.health ∧ (s.needNow g).cues = s.cues
    ∧ (s.needNow g).ctl.policies = s.ctl.policies ∧ (s.needNow g).ctl.stamps = s.ctl.stamps ∧ (s.needNow g).ctl.journal = s.ctl.journal
    ∧ (s.needNow g).routes = s.routes ∧ (s.needNow g).store = s.store ∧ (s.needNow g).player = s.player ∧ (s.needNow g).gang = s.gang
    ∧ (s.needNow g).fault = s.fault ∧ (s.needNow g).mgmt = s.mgmt ∧ (s.needNow g).pending = s.pending ∧ (s.needNow g).align = s.align := by
  simp only [needNow]
  split <;> simp
@[simp] theorem latchNow_frame (g : Fin 8) :
    (s.latchNow g).framer = s.framer ∧ (s.latchNow g).links = s.links ∧ (s.latchNow g).health = s.health ∧ (s.latchNow g).cues = s.cues
    ∧ (s.latchNow g).ctl.policies = s.ctl.policies ∧ (s.latchNow g).ctl.stamps = s.ctl.stamps ∧ (s.latchNow g).ctl.journal = s.ctl.journal
    ∧ (s.latchNow g).routes = s.routes ∧ (s.latchNow g).store = s.store ∧ (s.latchNow g).player = s.player ∧ (s.latchNow g).gang = s.gang
    ∧ (s.latchNow g).fault = s.fault ∧ (s.latchNow g).mgmt = s.mgmt ∧ (s.latchNow g).pending = s.pending ∧ (s.latchNow g).align = s.align := by
  simp only [latchNow]
  split <;> simp
@[simp] theorem needsSuspect_frame (g : Fin 8) :
    (s.needsSuspect g).framer = s.framer ∧ (s.needsSuspect g).links = s.links ∧ (s.needsSuspect g).health = s.health ∧ (s.needsSuspect g).cues = s.cues
    ∧ (s.needsSuspect g).ctl.policies = s.ctl.policies ∧ (s.needsSuspect g).ctl.stamps = s.ctl.stamps ∧ (s.needsSuspect g).ctl.journal = s.ctl.journal
    ∧ (s.needsSuspect g).routes = s.routes ∧ (s.needsSuspect g).store = s.store ∧ (s.needsSuspect g).player = s.player ∧ (s.needsSuspect g).gang = s.gang
    ∧ (s.needsSuspect g).fault = s.fault ∧ (s.needsSuspect g).mgmt = s.mgmt ∧ (s.needsSuspect g).pending = s.pending ∧ (s.needsSuspect g).align = s.align := by
  simp only [needsSuspect]
  split <;> simp
@[simp] theorem dropMoved_frame (g : Fin 8) :
    (s.dropMoved g).framer = s.framer ∧ (s.dropMoved g).links = s.links ∧ (s.dropMoved g).health = s.health ∧ (s.dropMoved g).cues = s.cues
    ∧ (s.dropMoved g).ctl.policies = s.ctl.policies ∧ (s.dropMoved g).ctl.stamps = s.ctl.stamps ∧ (s.dropMoved g).ctl.journal = s.ctl.journal
    ∧ (s.dropMoved g).routes = s.routes ∧ (s.dropMoved g).store = s.store ∧ (s.dropMoved g).player = s.player ∧ (s.dropMoved g).gang = s.gang
    ∧ (s.dropMoved g).fault = s.fault ∧ (s.dropMoved g).mgmt = s.mgmt ∧ (s.dropMoved g).pending = s.pending ∧ (s.dropMoved g).align = s.align := by
  simp only [dropMoved]
  split <;> simp
@[simp] theorem needsMute_frame (g : Fin 8) :
    (s.needsMute g).framer = s.framer ∧ (s.needsMute g).links = s.links ∧ (s.needsMute g).health = s.health ∧ (s.needsMute g).cues = s.cues
    ∧ (s.needsMute g).ctl.policies = s.ctl.policies ∧ (s.needsMute g).ctl.stamps = s.ctl.stamps ∧ (s.needsMute g).ctl.journal = s.ctl.journal
    ∧ (s.needsMute g).routes = s.routes ∧ (s.needsMute g).store = s.store ∧ (s.needsMute g).player = s.player ∧ (s.needsMute g).gang = s.gang
    ∧ (s.needsMute g).fault = s.fault ∧ (s.needsMute g).mgmt = s.mgmt ∧ (s.needsMute g).pending = s.pending ∧ (s.needsMute g).align = s.align := by
  simp only [needsMute]
  (repeat' split) <;> simp
@[simp] theorem needsPlaying_frame (g : Fin 8) (src : Source) :
    (s.needsPlaying g src).framer = s.framer ∧ (s.needsPlaying g src).links = s.links ∧ (s.needsPlaying g src).health = s.health
    ∧ (s.needsPlaying g src).cues = s.cues ∧ (s.needsPlaying g src).ctl.policies = s.ctl.policies ∧ (s.needsPlaying g src).ctl.stamps = s.ctl.stamps
    ∧ (s.needsPlaying g src).ctl.journal = s.ctl.journal ∧ (s.needsPlaying g src).routes = s.routes ∧ (s.needsPlaying g src).store = s.store
    ∧ (s.needsPlaying g src).player = s.player ∧ (s.needsPlaying g src).gang = s.gang ∧ (s.needsPlaying g src).fault = s.fault
    ∧ (s.needsPlaying g src).mgmt = s.mgmt ∧ (s.needsPlaying g src).pending = s.pending ∧ (s.needsPlaying g src).align = s.align := by
  simp only [needsPlaying]
  (repeat' split) <;> simp
@[simp] theorem needsRevert_frame (g : Fin 8) (src : Source) :
    (s.needsRevert g src).framer = s.framer ∧ (s.needsRevert g src).links = s.links ∧ (s.needsRevert g src).health = s.health
    ∧ (s.needsRevert g src).cues = s.cues ∧ (s.needsRevert g src).ctl.policies = s.ctl.policies ∧ (s.needsRevert g src).ctl.stamps = s.ctl.stamps
    ∧ (s.needsRevert g src).ctl.journal = s.ctl.journal ∧ (s.needsRevert g src).routes = s.routes ∧ (s.needsRevert g src).store = s.store
    ∧ (s.needsRevert g src).player = s.player ∧ (s.needsRevert g src).gang = s.gang ∧ (s.needsRevert g src).fault = s.fault
    ∧ (s.needsRevert g src).mgmt = s.mgmt ∧ (s.needsRevert g src).pending = s.pending ∧ (s.needsRevert g src).align = s.align := by
  simp only [needsRevert]
  (repeat' split) <;> simp
@[simp] theorem needsStopped_frame (g : Fin 8) (src : Source) (candidate : Bool) :
    (s.needsStopped g src candidate).framer = s.framer ∧ (s.needsStopped g src candidate).links = s.links
    ∧ (s.needsStopped g src candidate).health = s.health ∧ (s.needsStopped g src candidate).cues = s.cues
    ∧ (s.needsStopped g src candidate).ctl.policies = s.ctl.policies ∧ (s.needsStopped g src candidate).ctl.stamps = s.ctl.stamps
    ∧ (s.needsStopped g src candidate).ctl.journal = s.ctl.journal ∧ (s.needsStopped g src candidate).routes = s.routes
    ∧ (s.needsStopped g src candidate).store = s.store ∧ (s.needsStopped g src candidate).player = s.player
    ∧ (s.needsStopped g src candidate).gang = s.gang ∧ (s.needsStopped g src candidate).fault = s.fault ∧ (s.needsStopped g src candidate).mgmt = s.mgmt
    ∧ (s.needsStopped g src candidate).pending = s.pending ∧ (s.needsStopped g src candidate).align = s.align := by
  simp only [needsStopped]
  (repeat' split) <;> simp
@[simp] theorem needs_frame (g : Fin 8) (candidate : Bool) :
    (s.needs g candidate).1.framer = s.framer ∧ (s.needs g candidate).1.links = s.links ∧ (s.needs g candidate).1.health = s.health
    ∧ (s.needs g candidate).1.cues = s.cues ∧ (s.needs g candidate).1.ctl.policies = s.ctl.policies ∧ (s.needs g candidate).1.ctl.stamps = s.ctl.stamps
    ∧ (s.needs g candidate).1.ctl.journal = s.ctl.journal ∧ (s.needs g candidate).1.routes = s.routes ∧ (s.needs g candidate).1.store = s.store
    ∧ (s.needs g candidate).1.player = s.player ∧ (s.needs g candidate).1.gang = s.gang ∧ (s.needs g candidate).1.fault = s.fault
    ∧ (s.needs g candidate).1.mgmt = s.mgmt ∧ (s.needs g candidate).1.pending = s.pending ∧ (s.needs g candidate).1.align = s.align := by
  simp only [needs]
  (repeat' split) <;> simp
@[simp] theorem limitHit_frame (g : Fin 8) :
    (s.limitHit g).framer = s.framer ∧ (s.limitHit g).links = s.links ∧ (s.limitHit g).health = s.health ∧ (s.limitHit g).cues = s.cues
    ∧ (s.limitHit g).ctl.policies = s.ctl.policies ∧ (s.limitHit g).ctl.stamps = s.ctl.stamps ∧ (s.limitHit g).ctl.journal = s.ctl.journal
    ∧ (s.limitHit g).routes = s.routes ∧ (s.limitHit g).store = s.store ∧ (s.limitHit g).player = s.player ∧ (s.limitHit g).gang = s.gang
    ∧ (s.limitHit g).mgmt = s.mgmt ∧ (s.limitHit g).pending = s.pending ∧ (s.limitHit g).align = s.align := by
  simp only [limitHit]
  split <;> simp
@[simp] theorem deferral_frame (g : Fin 8) (fresh : Bool) :
    (s.deferral g fresh).framer = s.framer ∧ (s.deferral g fresh).links = s.links ∧ (s.deferral g fresh).health = s.health
    ∧ (s.deferral g fresh).cues = s.cues ∧ (s.deferral g fresh).ctl.policies = s.ctl.policies ∧ (s.deferral g fresh).ctl.stamps = s.ctl.stamps
    ∧ (s.deferral g fresh).ctl.journal = s.ctl.journal ∧ (s.deferral g fresh).routes = s.routes ∧ (s.deferral g fresh).store = s.store
    ∧ (s.deferral g fresh).player = s.player ∧ (s.deferral g fresh).gang = s.gang ∧ (s.deferral g fresh).mgmt = s.mgmt
    ∧ (s.deferral g fresh).pending = s.pending ∧ (s.deferral g fresh).align = s.align := by
  simp only [deferral]
  (repeat' split) <;> simp
@[simp] theorem satisfied_frame (g : Fin 8) (c : Cause) (q : SwitchReq) :
    (s.satisfied g c q).framer = s.framer ∧ (s.satisfied g c q).links = s.links ∧ (s.satisfied g c q).health = s.health
    ∧ (s.satisfied g c q).cues = s.cues ∧ (s.satisfied g c q).ctl.policies = s.ctl.policies ∧ (s.satisfied g c q).ctl.stamps = s.ctl.stamps
    ∧ (s.satisfied g c q).ctl.journal = s.ctl.journal ∧ (s.satisfied g c q).routes = s.routes ∧ (s.satisfied g c q).store = s.store
    ∧ (s.satisfied g c q).player = s.player ∧ (s.satisfied g c q).gang = s.gang ∧ (s.satisfied g c q).fault = s.fault
    ∧ (s.satisfied g c q).mgmt = s.mgmt ∧ (s.satisfied g c q).pending = s.pending ∧ (s.satisfied g c q).align = s.align := by
  simp [satisfied]
@[simp] theorem serve_frame (g : Fin 8) (reachedNow switched : Bool) (l : List (Cause × SwitchReq)) :
    (s.serve g reachedNow switched l).framer = s.framer ∧ (s.serve g reachedNow switched l).links = s.links ∧ (s.serve g reachedNow switched l).health = s.health
    ∧ (s.serve g reachedNow switched l).cues = s.cues ∧ (s.serve g reachedNow switched l).ctl.policies = s.ctl.policies
    ∧ (s.serve g reachedNow switched l).ctl.stamps = s.ctl.stamps ∧ (s.serve g reachedNow switched l).routes = s.routes ∧ (s.serve g reachedNow switched l).store = s.store
    ∧ (s.serve g reachedNow switched l).player = s.player ∧ (s.serve g reachedNow switched l).mgmt = s.mgmt ∧ (s.serve g reachedNow switched l).pending = s.pending := by
  induction l generalizing s with
  | nil => simp [serve]
  | cons x m ih =>
    simp only [serve]
    (repeat' split) <;> simp [ih]
@[simp] theorem serveFading_frame (g : Fin 8) (o d : Source) (n : Nat) (start : Word) (reachedNow switched : Bool) (l : List (Cause × SwitchReq)) :
    (s.serveFading g o d n start reachedNow switched l).framer = s.framer ∧ (s.serveFading g o d n start reachedNow switched l).links = s.links
    ∧ (s.serveFading g o d n start reachedNow switched l).health = s.health ∧ (s.serveFading g o d n start reachedNow switched l).cues = s.cues
    ∧ (s.serveFading g o d n start reachedNow switched l).ctl.policies = s.ctl.policies ∧ (s.serveFading g o d n start reachedNow switched l).ctl.stamps = s.ctl.stamps
    ∧ (s.serveFading g o d n start reachedNow switched l).routes = s.routes ∧ (s.serveFading g o d n start reachedNow switched l).store = s.store
    ∧ (s.serveFading g o d n start reachedNow switched l).player = s.player ∧ (s.serveFading g o d n start reachedNow switched l).fault = s.fault
    ∧ (s.serveFading g o d n start reachedNow switched l).mgmt = s.mgmt ∧ (s.serveFading g o d n start reachedNow switched l).pending = s.pending := by
  induction l generalizing s with
  | nil => simp [serveFading]
  | cons x m ih =>
    simp only [serveFading]
    (repeat' split) <;> simp [ih]
@[simp] theorem service_frame (g : Fin 8) (reachedNow switched : Bool) :
    (s.service g reachedNow switched).framer = s.framer ∧ (s.service g reachedNow switched).links = s.links ∧ (s.service g reachedNow switched).health = s.health
    ∧ (s.service g reachedNow switched).cues = s.cues ∧ (s.service g reachedNow switched).ctl.policies = s.ctl.policies
    ∧ (s.service g reachedNow switched).ctl.stamps = s.ctl.stamps ∧ (s.service g reachedNow switched).routes = s.routes ∧ (s.service g reachedNow switched).store = s.store
    ∧ (s.service g reachedNow switched).player = s.player ∧ (s.service g reachedNow switched).mgmt = s.mgmt ∧ (s.service g reachedNow switched).pending = s.pending := by
  simp only [service]
  split <;> simp
@[simp] theorem dropPlaced_frame (g : Fin 8) (p : Placed) :
    (s.dropPlaced g p).framer = s.framer ∧ (s.dropPlaced g p).links = s.links ∧ (s.dropPlaced g p).health = s.health ∧ (s.dropPlaced g p).cues = s.cues
    ∧ (s.dropPlaced g p).ctl.policies = s.ctl.policies ∧ (s.dropPlaced g p).ctl.stamps = s.ctl.stamps ∧ (s.dropPlaced g p).ctl.journal = s.ctl.journal
    ∧ (s.dropPlaced g p).routes = s.routes ∧ (s.dropPlaced g p).store = s.store ∧ (s.dropPlaced g p).player = s.player
    ∧ (s.dropPlaced g p).gang = s.gang ∧ (s.dropPlaced g p).fault = s.fault ∧ (s.dropPlaced g p).mgmt = s.mgmt ∧ (s.dropPlaced g p).pending = s.pending
    ∧ (s.dropPlaced g p).align = s.align := by
  simp [dropPlaced]
@[simp] theorem satisfyPlaced_frame (g : Fin 8) :
    (s.satisfyPlaced g).framer = s.framer ∧ (s.satisfyPlaced g).links = s.links ∧ (s.satisfyPlaced g).health = s.health
    ∧ (s.satisfyPlaced g).cues = s.cues ∧ (s.satisfyPlaced g).ctl.policies = s.ctl.policies ∧ (s.satisfyPlaced g).ctl.stamps = s.ctl.stamps
    ∧ (s.satisfyPlaced g).ctl.journal = s.ctl.journal ∧ (s.satisfyPlaced g).routes = s.routes ∧ (s.satisfyPlaced g).store = s.store
    ∧ (s.satisfyPlaced g).player = s.player ∧ (s.satisfyPlaced g).gang = s.gang ∧ (s.satisfyPlaced g).fault = s.fault
    ∧ (s.satisfyPlaced g).mgmt = s.mgmt ∧ (s.satisfyPlaced g).pending = s.pending ∧ (s.satisfyPlaced g).align = s.align := by
  simp only [satisfyPlaced]
  (repeat' split) <;> simp
@[simp] theorem placedCarry_frame (g : Fin 8) (p : Placed) (outcome : Option SwitchOutcome) (tell : Bool) :
    (s.placedCarry g p outcome tell).framer = s.framer ∧ (s.placedCarry g p outcome tell).links = s.links
    ∧ (s.placedCarry g p outcome tell).health = s.health ∧ (s.placedCarry g p outcome tell).cues = s.cues
    ∧ (s.placedCarry g p outcome tell).ctl.policies = s.ctl.policies ∧ (s.placedCarry g p outcome tell).ctl.stamps = s.ctl.stamps
    ∧ (s.placedCarry g p outcome tell).routes = s.routes ∧ (s.placedCarry g p outcome tell).store = s.store
    ∧ (s.placedCarry g p outcome tell).player = s.player ∧ (s.placedCarry g p outcome tell).fault = s.fault
    ∧ (s.placedCarry g p outcome tell).mgmt = s.mgmt ∧ (s.placedCarry g p outcome tell).pending = s.pending := by
  simp [placedCarry]
@[simp] theorem placedWithdraw_frame (g : Fin 8) (p : Placed) :
    (s.placedWithdraw g p).framer = s.framer ∧ (s.placedWithdraw g p).links = s.links ∧ (s.placedWithdraw g p).health = s.health
    ∧ (s.placedWithdraw g p).cues = s.cues ∧ (s.placedWithdraw g p).ctl.policies = s.ctl.policies ∧ (s.placedWithdraw g p).ctl.stamps = s.ctl.stamps
    ∧ (s.placedWithdraw g p).ctl.journal = s.ctl.journal ∧ (s.placedWithdraw g p).routes = s.routes ∧ (s.placedWithdraw g p).store = s.store
    ∧ (s.placedWithdraw g p).player = s.player ∧ (s.placedWithdraw g p).fault = s.fault ∧ (s.placedWithdraw g p).mgmt = s.mgmt
    ∧ (s.placedWithdraw g p).pending = s.pending ∧ (s.placedWithdraw g p).align = s.align := by
  simp [placedWithdraw]
@[simp] theorem placedReopen_frame (g : Fin 8) (p : Placed) (cueChanged : Bool) :
    (s.placedReopen g p cueChanged).framer = s.framer ∧ (s.placedReopen g p cueChanged).links = s.links
    ∧ (s.placedReopen g p cueChanged).health = s.health ∧ (s.placedReopen g p cueChanged).cues = s.cues
    ∧ (s.placedReopen g p cueChanged).ctl.policies = s.ctl.policies ∧ (s.placedReopen g p cueChanged).ctl.stamps = s.ctl.stamps
    ∧ (s.placedReopen g p cueChanged).ctl.journal = s.ctl.journal ∧ (s.placedReopen g p cueChanged).routes = s.routes
    ∧ (s.placedReopen g p cueChanged).store = s.store ∧ (s.placedReopen g p cueChanged).player = s.player
    ∧ (s.placedReopen g p cueChanged).fault = s.fault ∧ (s.placedReopen g p cueChanged).mgmt = s.mgmt
    ∧ (s.placedReopen g p cueChanged).pending = s.pending ∧ (s.placedReopen g p cueChanged).align = s.align := by
  simp only [placedReopen]
  (repeat' split) <;> simp
@[simp] theorem placedMove_frame (g : Fin 8) (p : Placed) :
    (s.placedMove g p).framer = s.framer ∧ (s.placedMove g p).links = s.links ∧ (s.placedMove g p).health = s.health ∧ (s.placedMove g p).cues = s.cues
    ∧ (s.placedMove g p).ctl.policies = s.ctl.policies ∧ (s.placedMove g p).ctl.stamps = s.ctl.stamps ∧ (s.placedMove g p).ctl.journal = s.ctl.journal
    ∧ (s.placedMove g p).routes = s.routes ∧ (s.placedMove g p).store = s.store ∧ (s.placedMove g p).player = s.player
    ∧ (s.placedMove g p).mgmt = s.mgmt ∧ (s.placedMove g p).pending = s.pending ∧ (s.placedMove g p).align = s.align := by
  simp only [placedMove]
  split <;> simp
@[simp] theorem placedJudge_frame (g : Fin 8) (p : Placed) :
    (s.placedJudge g p).framer = s.framer ∧ (s.placedJudge g p).links = s.links ∧ (s.placedJudge g p).health = s.health
    ∧ (s.placedJudge g p).cues = s.cues ∧ (s.placedJudge g p).ctl.policies = s.ctl.policies ∧ (s.placedJudge g p).ctl.stamps = s.ctl.stamps
    ∧ (s.placedJudge g p).routes = s.routes ∧ (s.placedJudge g p).store = s.store ∧ (s.placedJudge g p).player = s.player
    ∧ (s.placedJudge g p).mgmt = s.mgmt ∧ (s.placedJudge g p).pending = s.pending := by
  simp only [placedJudge]
  (repeat' split) <;> simp
@[simp] theorem placedStep_frame (g : Fin 8) (p : Placed) (cueChanged : Bool) :
    (s.placedStep g p cueChanged).framer = s.framer ∧ (s.placedStep g p cueChanged).links = s.links ∧ (s.placedStep g p cueChanged).health = s.health
    ∧ (s.placedStep g p cueChanged).cues = s.cues ∧ (s.placedStep g p cueChanged).ctl.policies = s.ctl.policies
    ∧ (s.placedStep g p cueChanged).ctl.stamps = s.ctl.stamps ∧ (s.placedStep g p cueChanged).routes = s.routes
    ∧ (s.placedStep g p cueChanged).store = s.store ∧ (s.placedStep g p cueChanged).player = s.player ∧ (s.placedStep g p cueChanged).mgmt = s.mgmt
    ∧ (s.placedStep g p cueChanged).pending = s.pending := by
  simp only [placedStep]
  (repeat' split) <;> simp
@[simp] theorem placeRequest_frame (g : Fin 8) (c : Cause) (q : SwitchReq) (t : Source) :
    (s.placeRequest g c q t).framer = s.framer ∧ (s.placeRequest g c q t).links = s.links ∧ (s.placeRequest g c q t).health = s.health
    ∧ (s.placeRequest g c q t).cues = s.cues ∧ (s.placeRequest g c q t).ctl.policies = s.ctl.policies
    ∧ (s.placeRequest g c q t).ctl.stamps = s.ctl.stamps ∧ (s.placeRequest g c q t).ctl.journal = s.ctl.journal
    ∧ (s.placeRequest g c q t).routes = s.routes ∧ (s.placeRequest g c q t).store = s.store ∧ (s.placeRequest g c q t).player = s.player
    ∧ (s.placeRequest g c q t).fault = s.fault ∧ (s.placeRequest g c q t).mgmt = s.mgmt ∧ (s.placeRequest g c q t).pending = s.pending
    ∧ (s.placeRequest g c q t).align = s.align := by
  simp only [placeRequest]
  split <;> simp
@[simp] theorem placeFirst_frame (g : Fin 8) (l : List (Cause × SwitchReq)) :
    (s.placeFirst g l).framer = s.framer ∧ (s.placeFirst g l).links = s.links ∧ (s.placeFirst g l).health = s.health ∧ (s.placeFirst g l).cues = s.cues
    ∧ (s.placeFirst g l).ctl.policies = s.ctl.policies ∧ (s.placeFirst g l).ctl.stamps = s.ctl.stamps ∧ (s.placeFirst g l).ctl.journal = s.ctl.journal
    ∧ (s.placeFirst g l).routes = s.routes ∧ (s.placeFirst g l).store = s.store ∧ (s.placeFirst g l).player = s.player
    ∧ (s.placeFirst g l).fault = s.fault ∧ (s.placeFirst g l).mgmt = s.mgmt ∧ (s.placeFirst g l).pending = s.pending
    ∧ (s.placeFirst g l).align = s.align := by
  induction l generalizing s with
  | nil => simp [placeFirst]
  | cons x m ih =>
    simp only [placeFirst]
    (repeat' split) <;> simp [ih]
@[simp] theorem placement_frame (g : Fin 8) (cueChanged : Bool) :
    (s.placement g cueChanged).framer = s.framer ∧ (s.placement g cueChanged).links = s.links ∧ (s.placement g cueChanged).health = s.health
    ∧ (s.placement g cueChanged).cues = s.cues ∧ (s.placement g cueChanged).ctl.policies = s.ctl.policies
    ∧ (s.placement g cueChanged).ctl.stamps = s.ctl.stamps ∧ (s.placement g cueChanged).routes = s.routes ∧ (s.placement g cueChanged).store = s.store
    ∧ (s.placement g cueChanged).player = s.player ∧ (s.placement g cueChanged).mgmt = s.mgmt ∧ (s.placement g cueChanged).pending = s.pending := by
  simp only [placement]
  (repeat' split) <;> simp
@[simp] theorem flagEmergency_frame (g : Fin 8) :
    (s.flagEmergency g).framer = s.framer ∧ (s.flagEmergency g).links = s.links ∧ (s.flagEmergency g).health = s.health
    ∧ (s.flagEmergency g).cues = s.cues ∧ (s.flagEmergency g).routes = s.routes ∧ (s.flagEmergency g).store = s.store
    ∧ (s.flagEmergency g).player = s.player ∧ (s.flagEmergency g).fault = s.fault ∧ (s.flagEmergency g).mgmt = s.mgmt
    ∧ (s.flagEmergency g).pending = s.pending ∧ (s.flagEmergency g).align = s.align ∧ (s.flagEmergency g).ctl = s.ctl := by
  simp [flagEmergency]
@[simp] theorem emergency_frame (g : Fin 8) (src : Source) :
    (s.emergency g src).framer = s.framer ∧ (s.emergency g src).links = s.links ∧ (s.emergency g src).health = s.health
    ∧ (s.emergency g src).cues = s.cues ∧ (s.emergency g src).ctl.policies = s.ctl.policies ∧ (s.emergency g src).ctl.stamps = s.ctl.stamps
    ∧ (s.emergency g src).routes = s.routes ∧ (s.emergency g src).store = s.store ∧ (s.emergency g src).player = s.player
    ∧ (s.emergency g src).mgmt = s.mgmt ∧ (s.emergency g src).pending = s.pending := by
  simp only [emergency]
  split <;> simp
@[simp] theorem joinedWatch_frame (g : Fin 8) :
    (s.joinedWatch g).framer = s.framer ∧ (s.joinedWatch g).links = s.links ∧ (s.joinedWatch g).health = s.health ∧ (s.joinedWatch g).cues = s.cues
    ∧ (s.joinedWatch g).ctl.policies = s.ctl.policies ∧ (s.joinedWatch g).ctl.stamps = s.ctl.stamps ∧ (s.joinedWatch g).routes = s.routes
    ∧ (s.joinedWatch g).store = s.store ∧ (s.joinedWatch g).player = s.player ∧ (s.joinedWatch g).mgmt = s.mgmt ∧ (s.joinedWatch g).pending = s.pending := by
  simp only [joinedWatch]
  (repeat' split) <;> simp
@[simp] theorem applied_frame (g : Fin 8) (w : Waiting) :
    (s.applied g w).framer = s.framer ∧ (s.applied g w).links = s.links ∧ (s.applied g w).health = s.health ∧ (s.applied g w).cues = s.cues
    ∧ (s.applied g w).routes = s.routes ∧ (s.applied g w).store = s.store ∧ (s.applied g w).player = s.player ∧ (s.applied g w).fault = s.fault
    ∧ (s.applied g w).mgmt = s.mgmt ∧ (s.applied g w).pending = s.pending ∧ (s.applied g w).align = s.align ∧ (s.applied g w).ctl = s.ctl := by
  simp [applied]
@[simp] theorem gangSwitch_frame (g : Fin 8) (w : Waiting) (late : Bool) :
    (s.gangSwitch g w late).framer = s.framer ∧ (s.gangSwitch g w late).links = s.links ∧ (s.gangSwitch g w late).health = s.health
    ∧ (s.gangSwitch g w late).cues = s.cues ∧ (s.gangSwitch g w late).ctl.policies = s.ctl.policies ∧ (s.gangSwitch g w late).ctl.stamps = s.ctl.stamps
    ∧ (s.gangSwitch g w late).routes = s.routes ∧ (s.gangSwitch g w late).store = s.store ∧ (s.gangSwitch g w late).player = s.player
    ∧ (s.gangSwitch g w late).fault = s.fault ∧ (s.gangSwitch g w late).mgmt = s.mgmt ∧ (s.gangSwitch g w late).pending = s.pending := by
  simp only [gangSwitch]
  (repeat' split) <;> simp
@[simp] theorem gangApply_frame (g : Fin 8) (w : Waiting) (passed : Bool) :
    (s.gangApply g w passed).framer = s.framer ∧ (s.gangApply g w passed).links = s.links ∧ (s.gangApply g w passed).health = s.health
    ∧ (s.gangApply g w passed).cues = s.cues ∧ (s.gangApply g w passed).ctl.policies = s.ctl.policies
    ∧ (s.gangApply g w passed).ctl.stamps = s.ctl.stamps ∧ (s.gangApply g w passed).routes = s.routes ∧ (s.gangApply g w passed).store = s.store
    ∧ (s.gangApply g w passed).player = s.player ∧ (s.gangApply g w passed).mgmt = s.mgmt ∧ (s.gangApply g w passed).pending = s.pending := by
  simp only [gangApply]
  (repeat' split) <;> simp
@[simp] theorem waitingPoint_frame (g : Fin 8) (cueChanged : Bool) :
    (s.waitingPoint g cueChanged).framer = s.framer ∧ (s.waitingPoint g cueChanged).links = s.links ∧ (s.waitingPoint g cueChanged).health = s.health
    ∧ (s.waitingPoint g cueChanged).cues = s.cues ∧ (s.waitingPoint g cueChanged).routes = s.routes ∧ (s.waitingPoint g cueChanged).store = s.store
    ∧ (s.waitingPoint g cueChanged).player = s.player ∧ (s.waitingPoint g cueChanged).fault = s.fault ∧ (s.waitingPoint g cueChanged).mgmt = s.mgmt
    ∧ (s.waitingPoint g cueChanged).pending = s.pending ∧ (s.waitingPoint g cueChanged).align = s.align ∧ (s.waitingPoint g cueChanged).ctl = s.ctl := by
  simp only [waitingPoint]
  (repeat' split) <;> simp
@[simp] theorem joinedService_frame (g : Fin 8) :
    (s.joinedService g).framer = s.framer ∧ (s.joinedService g).links = s.links ∧ (s.joinedService g).health = s.health
    ∧ (s.joinedService g).cues = s.cues ∧ (s.joinedService g).ctl.policies = s.ctl.policies ∧ (s.joinedService g).ctl.stamps = s.ctl.stamps
    ∧ (s.joinedService g).routes = s.routes ∧ (s.joinedService g).store = s.store ∧ (s.joinedService g).player = s.player
    ∧ (s.joinedService g).mgmt = s.mgmt ∧ (s.joinedService g).pending = s.pending := by
  simp only [joinedService]
  (repeat' split) <;> simp
@[simp] theorem ownGroup_frame (g : Fin 8) (candidate cueChanged : Bool) :
    (s.ownGroup g candidate cueChanged).framer = s.framer ∧ (s.ownGroup g candidate cueChanged).links = s.links
    ∧ (s.ownGroup g candidate cueChanged).health = s.health ∧ (s.ownGroup g candidate cueChanged).cues = s.cues
    ∧ (s.ownGroup g candidate cueChanged).ctl.policies = s.ctl.policies ∧ (s.ownGroup g candidate cueChanged).ctl.stamps = s.ctl.stamps
    ∧ (s.ownGroup g candidate cueChanged).routes = s.routes ∧ (s.ownGroup g candidate cueChanged).store = s.store
    ∧ (s.ownGroup g candidate cueChanged).player = s.player ∧ (s.ownGroup g candidate cueChanged).mgmt = s.mgmt
    ∧ (s.ownGroup g candidate cueChanged).pending = s.pending := by
  simp only [ownGroup]
  simp
@[simp] theorem joinedGroup_frame (g : Fin 8) (cueChanged : Bool) :
    (s.joinedGroup g cueChanged).framer = s.framer ∧ (s.joinedGroup g cueChanged).links = s.links ∧ (s.joinedGroup g cueChanged).health = s.health
    ∧ (s.joinedGroup g cueChanged).cues = s.cues ∧ (s.joinedGroup g cueChanged).ctl.policies = s.ctl.policies
    ∧ (s.joinedGroup g cueChanged).ctl.stamps = s.ctl.stamps ∧ (s.joinedGroup g cueChanged).routes = s.routes
    ∧ (s.joinedGroup g cueChanged).store = s.store ∧ (s.joinedGroup g cueChanged).player = s.player ∧ (s.joinedGroup g cueChanged).mgmt = s.mgmt
    ∧ (s.joinedGroup g cueChanged).pending = s.pending := by
  simp [joinedGroup]
@[simp] theorem groupStep_frame (candidate cueChanged : Bool) (g : Fin 8) :
    (groupStep candidate cueChanged s g).framer = s.framer ∧ (groupStep candidate cueChanged s g).links = s.links
    ∧ (groupStep candidate cueChanged s g).health = s.health ∧ (groupStep candidate cueChanged s g).cues = s.cues
    ∧ (groupStep candidate cueChanged s g).ctl.policies = s.ctl.policies ∧ (groupStep candidate cueChanged s g).ctl.stamps = s.ctl.stamps
    ∧ (groupStep candidate cueChanged s g).routes = s.routes ∧ (groupStep candidate cueChanged s g).store = s.store
    ∧ (groupStep candidate cueChanged s g).player = s.player ∧ (groupStep candidate cueChanged s g).mgmt = s.mgmt
    ∧ (groupStep candidate cueChanged s g).pending = s.pending := by
  simp only [groupStep]
  (repeat' split) <;> simp
@[simp] theorem controllerPeriod_frame (candidate cueChanged : Bool) :
    (s.controllerPeriod candidate cueChanged).framer = s.framer ∧ (s.controllerPeriod candidate cueChanged).links = s.links
    ∧ (s.controllerPeriod candidate cueChanged).health = s.health ∧ (s.controllerPeriod candidate cueChanged).cues = s.cues
    ∧ (s.controllerPeriod candidate cueChanged).ctl.policies = s.ctl.policies ∧ (s.controllerPeriod candidate cueChanged).routes = s.routes
    ∧ (s.controllerPeriod candidate cueChanged).store = s.store ∧ (s.controllerPeriod candidate cueChanged).player = s.player
    ∧ (s.controllerPeriod candidate cueChanged).mgmt = s.mgmt ∧ (s.controllerPeriod candidate cueChanged).pending = s.pending := by
  simp [controllerPeriod, allGroups]
@[simp] theorem forceGroup_frame (t : Source) (u : Urgency) (hard : Bool) (g : Fin 8) :
    (s.forceGroup t u hard g).framer = s.framer ∧ (s.forceGroup t u hard g).links = s.links ∧ (s.forceGroup t u hard g).health = s.health
    ∧ (s.forceGroup t u hard g).cues = s.cues ∧ (s.forceGroup t u hard g).ctl.policies = s.ctl.policies
    ∧ (s.forceGroup t u hard g).ctl.stamps = s.ctl.stamps ∧ (s.forceGroup t u hard g).ctl.journal = s.ctl.journal
    ∧ (s.forceGroup t u hard g).routes = s.routes ∧ (s.forceGroup t u hard g).store = s.store ∧ (s.forceGroup t u hard g).player = s.player
    ∧ (s.forceGroup t u hard g).gang = s.gang ∧ (s.forceGroup t u hard g).fault = s.fault ∧ (s.forceGroup t u hard g).mgmt = s.mgmt
    ∧ (s.forceGroup t u hard g).pending = s.pending ∧ (s.forceGroup t u hard g).align = s.align := by
  simp only [forceGroup]
  split <;> simp
@[simp] theorem releaseGroup_frame (g : Fin 8) :
    (s.releaseGroup g).framer = s.framer ∧ (s.releaseGroup g).links = s.links ∧ (s.releaseGroup g).health = s.health ∧ (s.releaseGroup g).cues = s.cues
    ∧ (s.releaseGroup g).ctl.policies = s.ctl.policies ∧ (s.releaseGroup g).ctl.stamps = s.ctl.stamps ∧ (s.releaseGroup g).ctl.journal = s.ctl.journal
    ∧ (s.releaseGroup g).routes = s.routes ∧ (s.releaseGroup g).store = s.store ∧ (s.releaseGroup g).player = s.player
    ∧ (s.releaseGroup g).gang = s.gang ∧ (s.releaseGroup g).fault = s.fault ∧ (s.releaseGroup g).mgmt = s.mgmt ∧ (s.releaseGroup g).pending = s.pending
    ∧ (s.releaseGroup g).align = s.align := by
  simp [releaseGroup]
@[simp] theorem stopGroup_frame (g : Fin 8) :
    (s.stopGroup g).framer = s.framer ∧ (s.stopGroup g).links = s.links ∧ (s.stopGroup g).health = s.health ∧ (s.stopGroup g).cues = s.cues
    ∧ (s.stopGroup g).ctl.policies = s.ctl.policies ∧ (s.stopGroup g).ctl.stamps = s.ctl.stamps ∧ (s.stopGroup g).routes = s.routes
    ∧ (s.stopGroup g).store = s.store ∧ (s.stopGroup g).player = s.player ∧ (s.stopGroup g).fault = s.fault ∧ (s.stopGroup g).mgmt = s.mgmt
    ∧ (s.stopGroup g).pending = s.pending := by
  simp only [stopGroup]
  split <;> simp
@[simp] theorem stopGroups_frame :
    s.stopGroups.framer = s.framer ∧ s.stopGroups.links = s.links ∧ s.stopGroups.health = s.health ∧ s.stopGroups.cues = s.cues
    ∧ s.stopGroups.ctl.policies = s.ctl.policies ∧ s.stopGroups.ctl.stamps = s.ctl.stamps ∧ s.stopGroups.routes = s.routes
    ∧ s.stopGroups.store = s.store ∧ s.stopGroups.player = s.player ∧ s.stopGroups.fault = s.fault ∧ s.stopGroups.mgmt = s.mgmt
    ∧ s.stopGroups.pending = s.pending := by
  simp [stopGroups, allGroups]
@[simp] theorem clearTables_frame :
    s.clearTables.framer = s.framer ∧ s.clearTables.links = s.links ∧ s.clearTables.health = s.health ∧ s.clearTables.cues = s.cues
    ∧ s.clearTables.ctl.policies = s.ctl.policies ∧ s.clearTables.ctl.stamps = s.ctl.stamps ∧ s.clearTables.ctl.journal = s.ctl.journal
    ∧ s.clearTables.routes = s.routes ∧ s.clearTables.store = s.store ∧ s.clearTables.player = s.player ∧ s.clearTables.gang = s.gang
    ∧ s.clearTables.fault = s.fault ∧ s.clearTables.mgmt = s.mgmt ∧ s.clearTables.pending = s.pending ∧ s.clearTables.align = s.align := by
  simp [clearTables]
/-! ## Program.lean -/

@[simp] theorem applyEdit_frame :
    s.applyEdit.framer = s.framer ∧ s.applyEdit.links = s.links ∧ s.applyEdit.health = s.health ∧ s.applyEdit.routes = s.routes
    ∧ s.applyEdit.store = s.store ∧ s.applyEdit.gang = s.gang ∧ s.applyEdit.fault = s.fault ∧ s.applyEdit.mgmt = s.mgmt
    ∧ s.applyEdit.pending = s.pending ∧ s.applyEdit.align = s.align ∧ s.applyEdit.ctl = s.ctl := by
  simp only [applyEdit]
  split <;> simp
@[simp] theorem cueChange_frame :
    s.cueChange.framer = s.framer ∧ s.cueChange.links = s.links ∧ s.cueChange.health = s.health ∧ s.cueChange.routes = s.routes
    ∧ s.cueChange.store = s.store ∧ s.cueChange.gang = s.gang ∧ s.cueChange.fault = s.fault ∧ s.cueChange.mgmt = s.mgmt
    ∧ s.cueChange.pending = s.pending ∧ s.cueChange.align = s.align ∧ s.cueChange.ctl = s.ctl := by
  simp [cueChange]
@[simp] theorem enterStopped_frame :
    s.enterStopped.framer = s.framer ∧ s.enterStopped.links = s.links ∧ s.enterStopped.health = s.health ∧ s.enterStopped.ctl.policies = s.ctl.policies
    ∧ s.enterStopped.ctl.stamps = s.ctl.stamps ∧ s.enterStopped.routes = s.routes ∧ s.enterStopped.store = s.store ∧ s.enterStopped.fault = s.fault
    ∧ s.enterStopped.mgmt = s.mgmt ∧ s.enterStopped.pending = s.pending := by
  simp [enterStopped]
@[simp] theorem stopProgram_frame :
    s.stopProgram.framer = s.framer ∧ s.stopProgram.links = s.links ∧ s.stopProgram.health = s.health ∧ s.stopProgram.ctl.policies = s.ctl.policies
    ∧ s.stopProgram.ctl.stamps = s.ctl.stamps ∧ s.stopProgram.routes = s.routes ∧ s.stopProgram.store = s.store ∧ s.stopProgram.fault = s.fault
    ∧ s.stopProgram.mgmt = s.mgmt ∧ s.stopProgram.pending = s.pending := by
  simp only [stopProgram]
  split <;> simp
@[simp] theorem holdClear_frame :
    s.holdClear.framer = s.framer ∧ s.holdClear.links = s.links ∧ s.holdClear.align.rigs = s.align.rigs ∧ s.holdClear.health = s.health
    ∧ s.holdClear.cues = s.cues ∧ s.holdClear.routes = s.routes ∧ s.holdClear.store = s.store ∧ s.holdClear.player = s.player
    ∧ s.holdClear.gang = s.gang ∧ s.holdClear.fault = s.fault ∧ s.holdClear.mgmt = s.mgmt ∧ s.holdClear.pending = s.pending ∧ s.holdClear.ctl = s.ctl := by
  simp only [holdClear]
  split <;> simp
@[simp] theorem graceExpire_frame (r : Rig) :
    (s.graceExpire r).framer = s.framer ∧ (s.graceExpire r).links = s.links ∧ (s.graceExpire r).align.rigs = s.align.rigs
    ∧ (s.graceExpire r).cues = s.cues ∧ (s.graceExpire r).ctl.policies = s.ctl.policies ∧ (s.graceExpire r).ctl.journal = s.ctl.journal
    ∧ (s.graceExpire r).routes = s.routes ∧ (s.graceExpire r).store = s.store ∧ (s.graceExpire r).player = s.player ∧ (s.graceExpire r).gang = s.gang
    ∧ (s.graceExpire r).mgmt = s.mgmt ∧ (s.graceExpire r).pending = s.pending := by
  simp only [graceExpire]
  split <;> simp
@[simp] theorem gracePeriod_frame :
    s.gracePeriod.framer = s.framer ∧ s.gracePeriod.links = s.links ∧ s.gracePeriod.align.rigs = s.align.rigs ∧ s.gracePeriod.cues = s.cues
    ∧ s.gracePeriod.ctl.policies = s.ctl.policies ∧ s.gracePeriod.ctl.journal = s.ctl.journal ∧ s.gracePeriod.routes = s.routes
    ∧ s.gracePeriod.store = s.store ∧ s.gracePeriod.player = s.player ∧ s.gracePeriod.gang = s.gang ∧ s.gracePeriod.mgmt = s.mgmt
    ∧ s.gracePeriod.pending = s.pending := by
  simp only [gracePeriod]
  (repeat' split) <;> simp
@[simp] theorem anchorStart_frame (h : HeldAnchor) :
    (s.anchorStart h).framer = s.framer ∧ (s.anchorStart h).links = s.links ∧ (s.anchorStart h).align.rigs = s.align.rigs
    ∧ (s.anchorStart h).health = s.health ∧ (s.anchorStart h).cues = s.cues ∧ (s.anchorStart h).routes = s.routes ∧ (s.anchorStart h).store = s.store
    ∧ (s.anchorStart h).player = s.player ∧ (s.anchorStart h).gang = s.gang ∧ (s.anchorStart h).fault = s.fault ∧ (s.anchorStart h).mgmt = s.mgmt
    ∧ (s.anchorStart h).pending = s.pending ∧ (s.anchorStart h).ctl = s.ctl := by
  simp [anchorStart]
@[simp] theorem anchorPeriod_frame (k : Word) :
    (s.anchorPeriod k).framer = s.framer ∧ (s.anchorPeriod k).links = s.links ∧ (s.anchorPeriod k).align.rigs = s.align.rigs
    ∧ (s.anchorPeriod k).health = s.health ∧ (s.anchorPeriod k).cues = s.cues ∧ (s.anchorPeriod k).routes = s.routes
    ∧ (s.anchorPeriod k).store = s.store ∧ (s.anchorPeriod k).player = s.player ∧ (s.anchorPeriod k).gang = s.gang ∧ (s.anchorPeriod k).fault = s.fault
    ∧ (s.anchorPeriod k).mgmt = s.mgmt ∧ (s.anchorPeriod k).pending = s.pending ∧ (s.anchorPeriod k).ctl = s.ctl := by
  simp only [anchorPeriod]
  (repeat' split) <;> simp
@[simp] theorem stoppedPeriod_frame (k : Word) :
    (s.stoppedPeriod k).framer = s.framer ∧ (s.stoppedPeriod k).links = s.links ∧ (s.stoppedPeriod k).align.rigs = s.align.rigs
    ∧ (s.stoppedPeriod k).cues = s.cues ∧ (s.stoppedPeriod k).ctl.policies = s.ctl.policies ∧ (s.stoppedPeriod k).ctl.journal = s.ctl.journal
    ∧ (s.stoppedPeriod k).routes = s.routes ∧ (s.stoppedPeriod k).store = s.store ∧ (s.stoppedPeriod k).player = s.player
    ∧ (s.stoppedPeriod k).gang = s.gang ∧ (s.stoppedPeriod k).mgmt = s.mgmt ∧ (s.stoppedPeriod k).pending = s.pending := by
  simp only [stoppedPeriod]
  split <;> simp
@[simp] theorem dueLookup_frame (r : Rig) :
    (s.dueLookup r).framer = s.framer ∧ (s.dueLookup r).links = s.links ∧ (s.dueLookup r).align.rigs = s.align.rigs ∧ (s.dueLookup r).health = s.health
    ∧ (s.dueLookup r).cues = s.cues ∧ (s.dueLookup r).routes = s.routes ∧ (s.dueLookup r).store = s.store ∧ (s.dueLookup r).player = s.player
    ∧ (s.dueLookup r).gang = s.gang ∧ (s.dueLookup r).fault = s.fault ∧ (s.dueLookup r).mgmt = s.mgmt ∧ (s.dueLookup r).pending = s.pending
    ∧ (s.dueLookup r).ctl = s.ctl := by
  simp [dueLookup]
@[simp] theorem dueAdvance_frame :
    s.dueAdvance.framer = s.framer ∧ s.dueAdvance.links = s.links ∧ s.dueAdvance.align.rigs = s.align.rigs ∧ s.dueAdvance.health = s.health
    ∧ s.dueAdvance.cues = s.cues ∧ s.dueAdvance.routes = s.routes ∧ s.dueAdvance.store = s.store ∧ s.dueAdvance.player = s.player
    ∧ s.dueAdvance.gang = s.gang ∧ s.dueAdvance.fault = s.fault ∧ s.dueAdvance.mgmt = s.mgmt ∧ s.dueAdvance.pending = s.pending
    ∧ s.dueAdvance.ctl = s.ctl := by
  simp [dueAdvance]
@[simp] theorem runningPeriod_frame :
    s.runningPeriod.framer = s.framer ∧ s.runningPeriod.links = s.links ∧ s.runningPeriod.health = s.health
    ∧ s.runningPeriod.ctl.policies = s.ctl.policies ∧ s.runningPeriod.ctl.stamps = s.ctl.stamps ∧ s.runningPeriod.routes = s.routes
    ∧ s.runningPeriod.store = s.store ∧ s.runningPeriod.fault = s.fault ∧ s.runningPeriod.mgmt = s.mgmt ∧ s.runningPeriod.pending = s.pending := by
  simp only [runningPeriod]
  (repeat' split) <;> simp
@[simp] theorem freePeriod_frame :
    s.freePeriod.framer = s.framer ∧ s.freePeriod.links = s.links ∧ s.freePeriod.health = s.health ∧ s.freePeriod.ctl.policies = s.ctl.policies
    ∧ s.freePeriod.ctl.stamps = s.ctl.stamps ∧ s.freePeriod.routes = s.routes ∧ s.freePeriod.store = s.store ∧ s.freePeriod.fault = s.fault
    ∧ s.freePeriod.mgmt = s.mgmt ∧ s.freePeriod.pending = s.pending := by
  simp only [freePeriod]
  (repeat' split) <;> simp
@[simp] theorem cueEvent_frame :
    s.cueEvent.framer = s.framer ∧ s.cueEvent.links = s.links ∧ s.cueEvent.health = s.health ∧ s.cueEvent.routes = s.routes ∧ s.cueEvent.store = s.store
    ∧ s.cueEvent.gang = s.gang ∧ s.cueEvent.fault = s.fault ∧ s.cueEvent.mgmt = s.mgmt ∧ s.cueEvent.pending = s.pending ∧ s.cueEvent.align = s.align
    ∧ s.cueEvent.ctl = s.ctl := by
  simp only [cueEvent]
  split <;> simp
@[simp] theorem dropAnchorSlot_frame :
    s.dropAnchorSlot.framer = s.framer ∧ s.dropAnchorSlot.links = s.links ∧ s.dropAnchorSlot.align.rigs = s.align.rigs
    ∧ s.dropAnchorSlot.health = s.health ∧ s.dropAnchorSlot.cues = s.cues ∧ s.dropAnchorSlot.routes = s.routes
    ∧ s.dropAnchorSlot.store = s.store ∧ s.dropAnchorSlot.player = s.player ∧ s.dropAnchorSlot.gang = s.gang
    ∧ s.dropAnchorSlot.fault = s.fault ∧ s.dropAnchorSlot.mgmt = s.mgmt ∧ s.dropAnchorSlot.pending = s.pending
    ∧ s.dropAnchorSlot.ctl = s.ctl := by
  simp [dropAnchorSlot]
@[simp] theorem programPeriod_frame (k : Word) :
    (s.programPeriod k).framer = s.framer ∧ (s.programPeriod k).links = s.links ∧ (s.programPeriod k).ctl.policies = s.ctl.policies
    ∧ (s.programPeriod k).routes = s.routes ∧ (s.programPeriod k).store = s.store ∧ (s.programPeriod k).mgmt = s.mgmt
    ∧ (s.programPeriod k).pending = s.pending := by
  simp only [programPeriod]
  split <;> simp
/-! ## Assembly.lean -/

@[simp] theorem commitPeriod_frame (stopped : Bool) :
    (s.commitPeriod stopped).framer = s.framer ∧ (s.commitPeriod stopped).links = s.links ∧ (s.commitPeriod stopped).health = s.health
    ∧ (s.commitPeriod stopped).cues = s.cues
    ∧ (s.commitPeriod stopped).store = s.store ∧ (s.commitPeriod stopped).player = s.player ∧ (s.commitPeriod stopped).gang = s.gang ∧ (s.commitPeriod stopped).fault = s.fault
    ∧ (s.commitPeriod stopped).mgmt = s.mgmt ∧ (s.commitPeriod stopped).pending = s.pending ∧ (s.commitPeriod stopped).align = s.align ∧ (s.commitPeriod stopped).ctl = s.ctl := by
  simp only [commitPeriod]
  split <;> simp
@[simp] theorem patchNotices_frame (f : State) :
    (s.patchNotices f).framer = s.framer ∧ (s.patchNotices f).links = s.links ∧ (s.patchNotices f).cues = s.cues ∧ (s.patchNotices f).routes = s.routes
    ∧ (s.patchNotices f).store = s.store ∧ (s.patchNotices f).player = s.player ∧ (s.patchNotices f).gang = s.gang ∧ (s.patchNotices f).fault = s.fault
    ∧ (s.patchNotices f).mgmt = s.mgmt ∧ (s.patchNotices f).pending = s.pending ∧ (s.patchNotices f).align = s.align ∧ (s.patchNotices f).ctl = s.ctl := by
  simp only [patchNotices]
  (repeat' split) <;> simp
/-! ## Framer.lean -/

@[simp] theorem sendFrame_frame (p : Port) (f : MainFrame) (side : Option OutSide) :
    (s.sendFrame p f side).links = s.links ∧ (s.sendFrame p f side).health = s.health ∧ (s.sendFrame p f side).cues = s.cues
    ∧ (s.sendFrame p f side).routes = s.routes ∧ (s.sendFrame p f side).store = s.store ∧ (s.sendFrame p f side).player = s.player
    ∧ (s.sendFrame p f side).gang = s.gang ∧ (s.sendFrame p f side).fault = s.fault ∧ (s.sendFrame p f side).mgmt = s.mgmt
    ∧ (s.sendFrame p f side).pending = s.pending ∧ (s.sendFrame p f side).align = s.align ∧ (s.sendFrame p f side).ctl = s.ctl := by
  simp [sendFrame]
@[simp] theorem sendRelay_frame (p : Port) :
    (s.sendRelay p).links = s.links ∧ (s.sendRelay p).health = s.health ∧ (s.sendRelay p).cues = s.cues ∧ (s.sendRelay p).routes = s.routes
    ∧ (s.sendRelay p).store = s.store ∧ (s.sendRelay p).player = s.player ∧ (s.sendRelay p).gang = s.gang ∧ (s.sendRelay p).fault = s.fault
    ∧ (s.sendRelay p).mgmt = s.mgmt ∧ (s.sendRelay p).pending = s.pending ∧ (s.sendRelay p).align = s.align ∧ (s.sendRelay p).ctl = s.ctl := by
  simp [sendRelay]
@[simp] theorem sendRig_frame (r : Rig) (p : CtlPort) :
    (s.sendRig r p).links = s.links ∧ (s.sendRig r p).health = s.health ∧ (s.sendRig r p).cues = s.cues ∧ (s.sendRig r p).routes = s.routes
    ∧ (s.sendRig r p).store = s.store ∧ (s.sendRig r p).player = s.player ∧ (s.sendRig r p).gang = s.gang ∧ (s.sendRig r p).fault = s.fault
    ∧ (s.sendRig r p).mgmt = s.mgmt ∧ (s.sendRig r p).pending = s.pending ∧ (s.sendRig r p).align = s.align ∧ (s.sendRig r p).ctl = s.ctl := by
  simp [sendRig]
@[simp] theorem sendOutput_frame (p : CtlPort) (f : Option MainFrame) :
    (s.sendOutput p f).links = s.links ∧ (s.sendOutput p f).health = s.health ∧ (s.sendOutput p f).cues = s.cues ∧ (s.sendOutput p f).routes = s.routes
    ∧ (s.sendOutput p f).store = s.store ∧ (s.sendOutput p f).player = s.player ∧ (s.sendOutput p f).gang = s.gang ∧ (s.sendOutput p f).fault = s.fault
    ∧ (s.sendOutput p f).mgmt = s.mgmt ∧ (s.sendOutput p f).pending = s.pending ∧ (s.sendOutput p f).align = s.align ∧ (s.sendOutput p f).ctl = s.ctl := by
  simp only [sendOutput]
  split <;> simp
@[simp] theorem sendDown_frame :
    s.sendDown.links = s.links ∧ s.sendDown.health = s.health ∧ s.sendDown.cues = s.cues ∧ s.sendDown.routes = s.routes ∧ s.sendDown.store = s.store
    ∧ s.sendDown.player = s.player ∧ s.sendDown.fault = s.fault ∧ s.sendDown.mgmt = s.mgmt ∧ s.sendDown.pending = s.pending ∧ s.sendDown.align = s.align
    ∧ s.sendDown.ctl = s.ctl := by
  simp [sendDown]
@[simp] theorem sendUp_frame :
    s.sendUp.links = s.links ∧ s.sendUp.health = s.health ∧ s.sendUp.cues = s.cues ∧ s.sendUp.routes = s.routes ∧ s.sendUp.store = s.store
    ∧ s.sendUp.player = s.player ∧ s.sendUp.fault = s.fault ∧ s.sendUp.mgmt = s.mgmt ∧ s.sendUp.pending = s.pending ∧ s.sendUp.align = s.align
    ∧ s.sendUp.ctl = s.ctl := by
  simp [sendUp]
@[simp] theorem resetSent_frame :
    s.resetSent.links = s.links ∧ s.resetSent.health = s.health ∧ s.resetSent.cues = s.cues ∧ s.resetSent.routes = s.routes
    ∧ s.resetSent.store = s.store ∧ s.resetSent.player = s.player ∧ s.resetSent.gang = s.gang ∧ s.resetSent.fault = s.fault ∧ s.resetSent.mgmt = s.mgmt
    ∧ s.resetSent.pending = s.pending ∧ s.resetSent.align = s.align ∧ s.resetSent.ctl = s.ctl := by
  simp [resetSent]
@[simp] theorem sendSlots_frame (f : Option MainFrame) :
    (s.sendSlots f).links = s.links ∧ (s.sendSlots f).health = s.health ∧ (s.sendSlots f).cues = s.cues ∧ (s.sendSlots f).routes = s.routes
    ∧ (s.sendSlots f).store = s.store ∧ (s.sendSlots f).player = s.player ∧ (s.sendSlots f).fault = s.fault ∧ (s.sendSlots f).mgmt = s.mgmt
    ∧ (s.sendSlots f).pending = s.pending ∧ (s.sendSlots f).align = s.align ∧ (s.sendSlots f).ctl = s.ctl := by
  simp [sendSlots]
@[simp] theorem clockPeriod_frame :
    s.clockPeriod.links = s.links ∧ s.clockPeriod.health = s.health ∧ s.clockPeriod.cues = s.cues ∧ s.clockPeriod.routes = s.routes
    ∧ s.clockPeriod.store = s.store ∧ s.clockPeriod.player = s.player ∧ s.clockPeriod.gang = s.gang ∧ s.clockPeriod.fault = s.fault
    ∧ s.clockPeriod.mgmt = s.mgmt ∧ s.clockPeriod.pending = s.pending ∧ s.clockPeriod.align = s.align ∧ s.clockPeriod.ctl = s.ctl := by
  simp [clockPeriod]
@[simp] theorem bypassPeriod_frame :
    s.bypassPeriod.links = s.links ∧ s.bypassPeriod.health = s.health ∧ s.bypassPeriod.cues = s.cues ∧ s.bypassPeriod.routes = s.routes
    ∧ s.bypassPeriod.store = s.store ∧ s.bypassPeriod.player = s.player ∧ s.bypassPeriod.gang = s.gang ∧ s.bypassPeriod.fault = s.fault
    ∧ s.bypassPeriod.mgmt = s.mgmt ∧ s.bypassPeriod.pending = s.pending ∧ s.bypassPeriod.align = s.align ∧ s.bypassPeriod.ctl = s.ctl := by
  simp only [bypassPeriod]
  split <;> simp

end Sys2Proof.Machine.State
end

