-- ==== Sys2Proof/Laws/FrameStore.lean ====
section
/-! SUPPORT. What each operation leaves alone: the store controller, start-up, the gang agent and the link receivers. -/

namespace Sys2Proof.Machine.State

variable {s : State}

/-! ## Store.lean -/

@[simp] theorem scrubOffer_frame (l : Nat) :
    (s.scrubOffer l).framer = s.framer ∧ (s.scrubOffer l).links = s.links ∧ (s.scrubOffer l).health = s.health ∧ (s.scrubOffer l).cues = s.cues
    ∧ (s.scrubOffer l).routes = s.routes ∧ (s.scrubOffer l).player = s.player ∧ (s.scrubOffer l).gang = s.gang ∧ (s.scrubOffer l).fault = s.fault
    ∧ (s.scrubOffer l).mgmt = s.mgmt ∧ (s.scrubOffer l).pending = s.pending ∧ (s.scrubOffer l).align = s.align ∧ (s.scrubOffer l).ctl = s.ctl := by
  simp only [scrubOffer]
  split <;> simp
@[simp] theorem readCorrected_frame (l : Nat) :
    (s.readCorrected l).framer = s.framer ∧ (s.readCorrected l).links = s.links ∧ (s.readCorrected l).health = s.health
    ∧ (s.readCorrected l).cues = s.cues ∧ (s.readCorrected l).routes = s.routes ∧ (s.readCorrected l).player = s.player
    ∧ (s.readCorrected l).gang = s.gang ∧ (s.readCorrected l).fault = s.fault ∧ (s.readCorrected l).mgmt = s.mgmt
    ∧ (s.readCorrected l).pending = s.pending ∧ (s.readCorrected l).align = s.align ∧ (s.readCorrected l).ctl = s.ctl := by
  simp only [readCorrected]
  split <;> simp
@[simp] theorem readUncorrectable_frame (l k : Nat) :
    (s.readUncorrectable l k).framer = s.framer ∧ (s.readUncorrectable l k).links = s.links ∧ (s.readUncorrectable l k).health = s.health
    ∧ (s.readUncorrectable l k).cues = s.cues ∧ (s.readUncorrectable l k).routes = s.routes ∧ (s.readUncorrectable l k).player = s.player
    ∧ (s.readUncorrectable l k).gang = s.gang ∧ (s.readUncorrectable l k).mgmt = s.mgmt ∧ (s.readUncorrectable l k).pending = s.pending
    ∧ (s.readUncorrectable l k).align = s.align ∧ (s.readUncorrectable l k).ctl = s.ctl := by
  simp only [readUncorrectable]
  split <;> simp
@[simp] theorem eccOutcome_frame (l k : Nat) (ecc : Ecc) :
    (s.eccOutcome l k ecc).framer = s.framer ∧ (s.eccOutcome l k ecc).links = s.links ∧ (s.eccOutcome l k ecc).health = s.health
    ∧ (s.eccOutcome l k ecc).cues = s.cues ∧ (s.eccOutcome l k ecc).routes = s.routes ∧ (s.eccOutcome l k ecc).player = s.player
    ∧ (s.eccOutcome l k ecc).gang = s.gang ∧ (s.eccOutcome l k ecc).mgmt = s.mgmt ∧ (s.eccOutcome l k ecc).pending = s.pending
    ∧ (s.eccOutcome l k ecc).align = s.align ∧ (s.eccOutcome l k ecc).ctl = s.ctl := by
  simp only [eccOutcome]
  split <;> simp
@[simp] theorem startOp_frame (op : FlashOp) (j : Job) :
    (s.startOp op j).framer = s.framer ∧ (s.startOp op j).links = s.links ∧ (s.startOp op j).health = s.health ∧ (s.startOp op j).cues = s.cues
    ∧ (s.startOp op j).routes = s.routes ∧ (s.startOp op j).player = s.player ∧ (s.startOp op j).gang = s.gang ∧ (s.startOp op j).fault = s.fault
    ∧ (s.startOp op j).mgmt = s.mgmt ∧ (s.startOp op j).pending = s.pending ∧ (s.startOp op j).align = s.align ∧ (s.startOp op j).ctl = s.ctl := by
  simp [startOp]
@[simp] theorem handedStart_frame (e : DirEntry) (b : PageBuf) :
    (s.handedStart e b).framer = s.framer ∧ (s.handedStart e b).links = s.links ∧ (s.handedStart e b).health = s.health
    ∧ (s.handedStart e b).cues = s.cues ∧ (s.handedStart e b).routes = s.routes ∧ (s.handedStart e b).player = s.player
    ∧ (s.handedStart e b).gang = s.gang ∧ (s.handedStart e b).fault = s.fault ∧ (s.handedStart e b).mgmt = s.mgmt
    ∧ (s.handedStart e b).pending = s.pending ∧ (s.handedStart e b).align = s.align ∧ (s.handedStart e b).ctl = s.ctl := by
  simp [handedStart]
@[simp] theorem scrubClean_frame :
    s.scrubClean.framer = s.framer ∧ s.scrubClean.links = s.links ∧ s.scrubClean.health = s.health ∧ s.scrubClean.cues = s.cues
    ∧ s.scrubClean.routes = s.routes ∧ s.scrubClean.player = s.player ∧ s.scrubClean.gang = s.gang ∧ s.scrubClean.fault = s.fault
    ∧ s.scrubClean.mgmt = s.mgmt ∧ s.scrubClean.pending = s.pending ∧ s.scrubClean.align = s.align ∧ s.scrubClean.ctl = s.ctl := by
  simp only [scrubClean]
  split <;> simp
/-- An engine step that starts touches the store and the fault record alone. -/
theorem started_frame {s t : State} :
    (∀ j p b ecc, s.copyStart j p b ecc = some t → t = { s with store := t.store, fault := t.fault })
    ∧ (∀ j, s.eraseSpare j = some t → t = { s with store := t.store, fault := t.fault }) := by
  refine ⟨fun j p b ecc h => ?_, fun j h => ?_⟩
  · unfold copyStart at h
    split at h
    · cases h
    · split at h <;> cases h <;> rfl
    · split at h
      · cases h
        unfold eccOutcome readCorrected readUncorrectable scrubOffer State.raise
        dsimp only
        (repeat' split) <;> rfl
      · cases h
  · unfold eraseSpare at h
    cases hx : s.store.lowestUnerased <;> rw [hx] at h <;> cases h <;> rfl

theorem starts_frame {s t : State} (ecc : Ecc)
    (h : s.clipStart ecc = some t ∨ s.saveStart = some t ∨ s.scrubStart ecc = some t ∨ s.backlogStart = some t) :
    t = { s with store := t.store, fault := t.fault } := by
  have take : ∀ j p, s.scrubTake j p ecc = some t → t = { s with store := t.store, fault := t.fault } := by
    intro j p h
    unfold scrubTake at h
    dsimp only at h
    split at h
    · have := started_frame.1 _ _ _ _ h; rw [this]; rfl
    · cases h
  have spare : s.scrubSpare = some t → t = { s with store := t.store, fault := t.fault } := by
    intro h
    unfold scrubSpare at h
    split at h
    · cases h
    · exact started_frame.2 _ h
  rcases h with h | h | h | h
  · unfold clipStart at h
    (repeat' split at h) <;> first | exact started_frame.1 _ _ _ _ h | exact started_frame.2 _ h | (cases h; rfl) | cases h
  · unfold saveStart at h
    split at h <;> cases h <;> rfl
  · unfold scrubStart at h
    (repeat' split at h) <;> first | exact started_frame.1 _ _ _ _ h | exact take _ _ h | exact spare h | (cases h; rfl) | cases h
  · unfold backlogStart at h
    split at h
    · cases h; rfl
    · exact started_frame.2 _ h
    · cases hx : backlogHead s.store <;> rw [hx] at h <;> cases h <;> rfl

@[simp] theorem engineStart_frame (ecc : Ecc) :
    (s.engineStart ecc).framer = s.framer ∧ (s.engineStart ecc).links = s.links ∧ (s.engineStart ecc).health = s.health
    ∧ (s.engineStart ecc).cues = s.cues ∧ (s.engineStart ecc).routes = s.routes ∧ (s.engineStart ecc).player = s.player
    ∧ (s.engineStart ecc).gang = s.gang ∧ (s.engineStart ecc).mgmt = s.mgmt ∧ (s.engineStart ecc).pending = s.pending
    ∧ (s.engineStart ecc).align = s.align ∧ (s.engineStart ecc).ctl = s.ctl := by
  have key : s.engineStart ecc = { s with store := (s.engineStart ecc).store, fault := (s.engineStart ecc).fault } := by
    unfold engineStart
    split
    · rfl
    · split
      · rename_i h; exact starts_frame ecc (Or.inl h)
      · split
        · rename_i h; exact starts_frame ecc (Or.inr (Or.inl h))
        · split
          · rename_i h; exact starts_frame ecc (Or.inr (Or.inr (Or.inl h)))
          · cases h : s.backlogStart with
            | none => rfl
            | some t => exact starts_frame ecc (Or.inr (Or.inr (Or.inr h)))
  rw [key]
  exact ⟨rfl, rfl, rfl, rfl, rfl, rfl, rfl, rfl, rfl, rfl, rfl⟩
@[simp] theorem answerWriter_frame (code : Completion) :
    (s.answerWriter code).links = s.links ∧ (s.answerWriter code).health = s.health ∧ (s.answerWriter code).cues = s.cues
    ∧ (s.answerWriter code).routes = s.routes ∧ (s.answerWriter code).store = s.store ∧ (s.answerWriter code).player = s.player
    ∧ (s.answerWriter code).gang = s.gang ∧ (s.answerWriter code).fault = s.fault ∧ (s.answerWriter code).pending = s.pending
    ∧ (s.answerWriter code).align = s.align ∧ (s.answerWriter code).ctl = s.ctl := by
  simp only [answerWriter]
  split <;> simp
@[simp] theorem clipExhausted_frame (l : Nat) :
    (s.clipExhausted l).links = s.links ∧ (s.clipExhausted l).health = s.health ∧ (s.clipExhausted l).cues = s.cues
    ∧ (s.clipExhausted l).routes = s.routes ∧ (s.clipExhausted l).player = s.player ∧ (s.clipExhausted l).gang = s.gang
    ∧ (s.clipExhausted l).pending = s.pending ∧ (s.clipExhausted l).align = s.align ∧ (s.clipExhausted l).ctl = s.ctl := by
  simp only [clipExhausted]
  split <;> simp
@[simp] theorem relocateStep1_frame (j : CopyJob) :
    (s.relocateStep1 j).links = s.links ∧ (s.relocateStep1 j).health = s.health ∧ (s.relocateStep1 j).cues = s.cues
    ∧ (s.relocateStep1 j).routes = s.routes ∧ (s.relocateStep1 j).player = s.player ∧ (s.relocateStep1 j).gang = s.gang
    ∧ (s.relocateStep1 j).pending = s.pending ∧ (s.relocateStep1 j).align = s.align ∧ (s.relocateStep1 j).ctl = s.ctl := by
  simp only [relocateStep1]
  (repeat' split) <;> simp
@[simp] theorem relocate_frame (l p k : Nat) (kind : CopyKind) :
    (s.relocate l p k kind).links = s.links ∧ (s.relocate l p k kind).health = s.health ∧ (s.relocate l p k kind).cues = s.cues
    ∧ (s.relocate l p k kind).routes = s.routes ∧ (s.relocate l p k kind).player = s.player ∧ (s.relocate l p k kind).gang = s.gang
    ∧ (s.relocate l p k kind).pending = s.pending ∧ (s.relocate l p k kind).align = s.align ∧ (s.relocate l p k kind).ctl = s.ctl := by
  simp [relocate]
@[simp] theorem targetFailed_frame (j : Job) (p k : Nat) :
    (s.targetFailed j p k).framer = s.framer ∧ (s.targetFailed j p k).links = s.links ∧ (s.targetFailed j p k).health = s.health
    ∧ (s.targetFailed j p k).cues = s.cues ∧ (s.targetFailed j p k).routes = s.routes ∧ (s.targetFailed j p k).player = s.player
    ∧ (s.targetFailed j p k).gang = s.gang ∧ (s.targetFailed j p k).mgmt = s.mgmt ∧ (s.targetFailed j p k).pending = s.pending
    ∧ (s.targetFailed j p k).align = s.align ∧ (s.targetFailed j p k).ctl = s.ctl := by
  simp [targetFailed]
@[simp] theorem bufferEmptied_frame :
    s.bufferEmptied.links = s.links ∧ s.bufferEmptied.health = s.health ∧ s.bufferEmptied.cues = s.cues ∧ s.bufferEmptied.routes = s.routes
    ∧ s.bufferEmptied.player = s.player ∧ s.bufferEmptied.gang = s.gang ∧ s.bufferEmptied.fault = s.fault ∧ s.bufferEmptied.pending = s.pending
    ∧ s.bufferEmptied.align = s.align ∧ s.bufferEmptied.ctl = s.ctl := by
  simp only [bufferEmptied]
  (repeat' split) <;> simp
@[simp] theorem sealDone_frame :
    s.sealDone.links = s.links ∧ s.sealDone.health = s.health ∧ s.sealDone.cues = s.cues ∧ s.sealDone.routes = s.routes ∧ s.sealDone.player = s.player
    ∧ s.sealDone.gang = s.gang ∧ s.sealDone.fault = s.fault ∧ s.sealDone.pending = s.pending ∧ s.sealDone.align = s.align ∧ s.sealDone.ctl = s.ctl := by
  simp [sealDone]
@[simp] theorem clipSwitch_frame (j : CopyJob) (target : Nat) :
    (s.clipSwitch j target).links = s.links ∧ (s.clipSwitch j target).health = s.health ∧ (s.clipSwitch j target).cues = s.cues
    ∧ (s.clipSwitch j target).routes = s.routes ∧ (s.clipSwitch j target).player = s.player ∧ (s.clipSwitch j target).gang = s.gang
    ∧ (s.clipSwitch j target).fault = s.fault ∧ (s.clipSwitch j target).pending = s.pending ∧ (s.clipSwitch j target).align = s.align
    ∧ (s.clipSwitch j target).ctl = s.ctl := by
  simp only [clipSwitch]
  split <;> simp
@[simp] theorem scrubSwitch_frame (j : CopyJob) (target : Nat) :
    (s.scrubSwitch j target).framer = s.framer ∧ (s.scrubSwitch j target).links = s.links ∧ (s.scrubSwitch j target).health = s.health
    ∧ (s.scrubSwitch j target).cues = s.cues ∧ (s.scrubSwitch j target).routes = s.routes ∧ (s.scrubSwitch j target).player = s.player
    ∧ (s.scrubSwitch j target).gang = s.gang ∧ (s.scrubSwitch j target).fault = s.fault ∧ (s.scrubSwitch j target).mgmt = s.mgmt
    ∧ (s.scrubSwitch j target).pending = s.pending ∧ (s.scrubSwitch j target).align = s.align ∧ (s.scrubSwitch j target).ctl = s.ctl := by
  simp [scrubSwitch]
@[simp] theorem clipPageDone_frame (p k : Nat) (ok : Bool) :
    (s.clipPageDone p k ok).links = s.links ∧ (s.clipPageDone p k ok).health = s.health ∧ (s.clipPageDone p k ok).cues = s.cues
    ∧ (s.clipPageDone p k ok).routes = s.routes ∧ (s.clipPageDone p k ok).player = s.player ∧ (s.clipPageDone p k ok).gang = s.gang
    ∧ (s.clipPageDone p k ok).pending = s.pending ∧ (s.clipPageDone p k ok).align = s.align ∧ (s.clipPageDone p k ok).ctl = s.ctl := by
  simp only [clipPageDone]
  (repeat' split) <;> simp
@[simp] theorem scrubPageDone_frame (p k : Nat) (ok : Bool) :
    (s.scrubPageDone p k ok).framer = s.framer ∧ (s.scrubPageDone p k ok).links = s.links ∧ (s.scrubPageDone p k ok).health = s.health
    ∧ (s.scrubPageDone p k ok).cues = s.cues ∧ (s.scrubPageDone p k ok).routes = s.routes ∧ (s.scrubPageDone p k ok).player = s.player
    ∧ (s.scrubPageDone p k ok).gang = s.gang ∧ (s.scrubPageDone p k ok).mgmt = s.mgmt ∧ (s.scrubPageDone p k ok).pending = s.pending
    ∧ (s.scrubPageDone p k ok).align = s.align ∧ (s.scrubPageDone p k ok).ctl = s.ctl := by
  simp only [scrubPageDone]
  (repeat' split) <;> simp
@[simp] theorem saveEnd_frame (v : SaveJob) (code : Completion) :
    (s.saveEnd v code).links = s.links ∧ (s.saveEnd v code).health = s.health ∧ (s.saveEnd v code).cues = s.cues ∧ (s.saveEnd v code).routes = s.routes
    ∧ (s.saveEnd v code).player = s.player ∧ (s.saveEnd v code).gang = s.gang ∧ (s.saveEnd v code).fault = s.fault
    ∧ (s.saveEnd v code).pending = s.pending ∧ (s.saveEnd v code).align = s.align ∧ (s.saveEnd v code).ctl = s.ctl := by
  simp [saveEnd]
@[simp] theorem pageProgrammed_frame (k : Nat) :
    (s.pageProgrammed k).framer = s.framer ∧ (s.pageProgrammed k).links = s.links ∧ (s.pageProgrammed k).health = s.health ∧ (s.pageProgrammed k).cues = s.cues
    ∧ (s.pageProgrammed k).routes = s.routes ∧ (s.pageProgrammed k).player = s.player ∧ (s.pageProgrammed k).gang = s.gang ∧ (s.pageProgrammed k).fault = s.fault
    ∧ (s.pageProgrammed k).mgmt = s.mgmt ∧ (s.pageProgrammed k).pending = s.pending ∧ (s.pageProgrammed k).align = s.align ∧ (s.pageProgrammed k).ctl = s.ctl := by
  simp only [pageProgrammed]
  split <;> simp
@[simp] theorem settingsPageDone_frame (k : Nat) (ok : Bool) :
    (s.settingsPageDone k ok).links = s.links ∧ (s.settingsPageDone k ok).health = s.health ∧ (s.settingsPageDone k ok).cues = s.cues
    ∧ (s.settingsPageDone k ok).routes = s.routes ∧ (s.settingsPageDone k ok).player = s.player ∧ (s.settingsPageDone k ok).gang = s.gang
    ∧ (s.settingsPageDone k ok).pending = s.pending ∧ (s.settingsPageDone k ok).align = s.align ∧ (s.settingsPageDone k ok).ctl = s.ctl := by
  simp only [settingsPageDone]
  (repeat' split) <;> simp
@[simp] theorem sealMarkDone_frame (p : Nat) (ok : Bool) :
    (s.sealMarkDone p ok).links = s.links ∧ (s.sealMarkDone p ok).health = s.health ∧ (s.sealMarkDone p ok).cues = s.cues
    ∧ (s.sealMarkDone p ok).routes = s.routes ∧ (s.sealMarkDone p ok).player = s.player ∧ (s.sealMarkDone p ok).gang = s.gang
    ∧ (s.sealMarkDone p ok).pending = s.pending ∧ (s.sealMarkDone p ok).align = s.align ∧ (s.sealMarkDone p ok).ctl = s.ctl := by
  simp only [sealMarkDone]
  (repeat' split) <;> simp
@[simp] theorem retireMarkDone_frame (j : Job) :
    (s.retireMarkDone j).links = s.links ∧ (s.retireMarkDone j).health = s.health ∧ (s.retireMarkDone j).cues = s.cues
    ∧ (s.retireMarkDone j).routes = s.routes ∧ (s.retireMarkDone j).player = s.player ∧ (s.retireMarkDone j).gang = s.gang
    ∧ (s.retireMarkDone j).fault = s.fault ∧ (s.retireMarkDone j).pending = s.pending ∧ (s.retireMarkDone j).align = s.align
    ∧ (s.retireMarkDone j).ctl = s.ctl := by
  simp only [retireMarkDone]
  (repeat' split) <;> simp
@[simp] theorem orphanDone_frame :
    s.orphanDone.framer = s.framer ∧ s.orphanDone.links = s.links ∧ s.orphanDone.health = s.health ∧ s.orphanDone.cues = s.cues
    ∧ s.orphanDone.routes = s.routes ∧ s.orphanDone.player = s.player ∧ s.orphanDone.gang = s.gang ∧ s.orphanDone.fault = s.fault
    ∧ s.orphanDone.mgmt = s.mgmt ∧ s.orphanDone.pending = s.pending ∧ s.orphanDone.align = s.align ∧ s.orphanDone.ctl = s.ctl := by
  simp only [orphanDone]
  split <;> simp
@[simp] theorem programDone_frame (x : EngineStep) (ok : Bool) :
    (s.programDone x ok).links = s.links ∧ (s.programDone x ok).health = s.health ∧ (s.programDone x ok).cues = s.cues
    ∧ (s.programDone x ok).routes = s.routes ∧ (s.programDone x ok).player = s.player ∧ (s.programDone x ok).gang = s.gang
    ∧ (s.programDone x ok).pending = s.pending ∧ (s.programDone x ok).align = s.align ∧ (s.programDone x ok).ctl = s.ctl := by
  simp only [programDone]
  (repeat' split) <;> simp
@[simp] theorem backlogExhausted_frame (l : Nat) :
    (s.backlogExhausted l).framer = s.framer ∧ (s.backlogExhausted l).links = s.links ∧ (s.backlogExhausted l).health = s.health
    ∧ (s.backlogExhausted l).cues = s.cues ∧ (s.backlogExhausted l).routes = s.routes ∧ (s.backlogExhausted l).player = s.player
    ∧ (s.backlogExhausted l).gang = s.gang ∧ (s.backlogExhausted l).mgmt = s.mgmt ∧ (s.backlogExhausted l).pending = s.pending
    ∧ (s.backlogExhausted l).align = s.align ∧ (s.backlogExhausted l).ctl = s.ctl := by
  simp [backlogExhausted]
@[simp] theorem backlogReplace_frame (l p : Nat) :
    (s.backlogReplace l p).framer = s.framer ∧ (s.backlogReplace l p).links = s.links ∧ (s.backlogReplace l p).health = s.health
    ∧ (s.backlogReplace l p).cues = s.cues ∧ (s.backlogReplace l p).routes = s.routes ∧ (s.backlogReplace l p).player = s.player
    ∧ (s.backlogReplace l p).gang = s.gang ∧ (s.backlogReplace l p).mgmt = s.mgmt ∧ (s.backlogReplace l p).pending = s.pending
    ∧ (s.backlogReplace l p).align = s.align ∧ (s.backlogReplace l p).ctl = s.ctl := by
  simp only [backlogReplace]
  (repeat' split) <;> simp
@[simp] theorem backlogErased_frame (p : Nat) :
    (s.backlogErased p).framer = s.framer ∧ (s.backlogErased p).links = s.links ∧ (s.backlogErased p).health = s.health
    ∧ (s.backlogErased p).cues = s.cues ∧ (s.backlogErased p).routes = s.routes ∧ (s.backlogErased p).player = s.player
    ∧ (s.backlogErased p).gang = s.gang ∧ (s.backlogErased p).mgmt = s.mgmt ∧ (s.backlogErased p).pending = s.pending
    ∧ (s.backlogErased p).align = s.align ∧ (s.backlogErased p).ctl = s.ctl := by
  simp only [backlogErased]
  (repeat' split) <;> simp
@[simp] theorem clipErased_frame (p : Nat) :
    (s.clipErased p).links = s.links ∧ (s.clipErased p).health = s.health ∧ (s.clipErased p).cues = s.cues ∧ (s.clipErased p).routes = s.routes
    ∧ (s.clipErased p).player = s.player ∧ (s.clipErased p).gang = s.gang ∧ (s.clipErased p).pending = s.pending ∧ (s.clipErased p).align = s.align
    ∧ (s.clipErased p).ctl = s.ctl := by
  simp only [clipErased]
  split <;> simp
@[simp] theorem saveErased_frame :
    s.saveErased.framer = s.framer ∧ s.saveErased.links = s.links ∧ s.saveErased.health = s.health ∧ s.saveErased.cues = s.cues
    ∧ s.saveErased.routes = s.routes ∧ s.saveErased.player = s.player ∧ s.saveErased.gang = s.gang ∧ s.saveErased.fault = s.fault
    ∧ s.saveErased.mgmt = s.mgmt ∧ s.saveErased.pending = s.pending ∧ s.saveErased.align = s.align ∧ s.saveErased.ctl = s.ctl := by
  simp [saveErased]
@[simp] theorem scrubErased_frame (p : Nat) :
    (s.scrubErased p).framer = s.framer ∧ (s.scrubErased p).links = s.links ∧ (s.scrubErased p).health = s.health ∧ (s.scrubErased p).cues = s.cues
    ∧ (s.scrubErased p).routes = s.routes ∧ (s.scrubErased p).player = s.player ∧ (s.scrubErased p).gang = s.gang ∧ (s.scrubErased p).fault = s.fault
    ∧ (s.scrubErased p).mgmt = s.mgmt ∧ (s.scrubErased p).pending = s.pending ∧ (s.scrubErased p).align = s.align ∧ (s.scrubErased p).ctl = s.ctl := by
  simp [scrubErased]
@[simp] theorem eraseDone_frame (x : EngineStep) :
    (s.eraseDone x).links = s.links ∧ (s.eraseDone x).health = s.health ∧ (s.eraseDone x).cues = s.cues ∧ (s.eraseDone x).routes = s.routes
    ∧ (s.eraseDone x).player = s.player ∧ (s.eraseDone x).gang = s.gang ∧ (s.eraseDone x).pending = s.pending ∧ (s.eraseDone x).align = s.align
    ∧ (s.eraseDone x).ctl = s.ctl := by
  simp only [eraseDone]
  (repeat' split) <;> simp
@[simp] theorem spareTimedOut_frame (j : Job) (p : Nat) :
    (s.spareTimedOut j p).framer = s.framer ∧ (s.spareTimedOut j p).links = s.links ∧ (s.spareTimedOut j p).health = s.health
    ∧ (s.spareTimedOut j p).cues = s.cues ∧ (s.spareTimedOut j p).routes = s.routes ∧ (s.spareTimedOut j p).player = s.player
    ∧ (s.spareTimedOut j p).gang = s.gang ∧ (s.spareTimedOut j p).mgmt = s.mgmt ∧ (s.spareTimedOut j p).pending = s.pending
    ∧ (s.spareTimedOut j p).align = s.align ∧ (s.spareTimedOut j p).ctl = s.ctl := by
  simp [spareTimedOut]
@[simp] theorem clipTimedOut_frame (p : Nat) (orphan : Bool) :
    (s.clipTimedOut p orphan).links = s.links ∧ (s.clipTimedOut p orphan).health = s.health ∧ (s.clipTimedOut p orphan).cues = s.cues
    ∧ (s.clipTimedOut p orphan).routes = s.routes ∧ (s.clipTimedOut p orphan).player = s.player ∧ (s.clipTimedOut p orphan).gang = s.gang
    ∧ (s.clipTimedOut p orphan).pending = s.pending ∧ (s.clipTimedOut p orphan).align = s.align ∧ (s.clipTimedOut p orphan).ctl = s.ctl := by
  simp only [clipTimedOut]
  (repeat' split) <;> simp
@[simp] theorem scrubTimedOut_frame (p : Nat) :
    (s.scrubTimedOut p).framer = s.framer ∧ (s.scrubTimedOut p).links = s.links ∧ (s.scrubTimedOut p).health = s.health
    ∧ (s.scrubTimedOut p).cues = s.cues ∧ (s.scrubTimedOut p).routes = s.routes ∧ (s.scrubTimedOut p).player = s.player
    ∧ (s.scrubTimedOut p).gang = s.gang ∧ (s.scrubTimedOut p).mgmt = s.mgmt ∧ (s.scrubTimedOut p).pending = s.pending
    ∧ (s.scrubTimedOut p).align = s.align ∧ (s.scrubTimedOut p).ctl = s.ctl := by
  simp [scrubTimedOut]
@[simp] theorem backlogTimedOut_frame (p : Nat) :
    (s.backlogTimedOut p).framer = s.framer ∧ (s.backlogTimedOut p).links = s.links ∧ (s.backlogTimedOut p).health = s.health
    ∧ (s.backlogTimedOut p).cues = s.cues ∧ (s.backlogTimedOut p).routes = s.routes ∧ (s.backlogTimedOut p).player = s.player
    ∧ (s.backlogTimedOut p).gang = s.gang ∧ (s.backlogTimedOut p).mgmt = s.mgmt ∧ (s.backlogTimedOut p).pending = s.pending
    ∧ (s.backlogTimedOut p).align = s.align ∧ (s.backlogTimedOut p).ctl = s.ctl := by
  simp only [backlogTimedOut]
  (repeat' split) <;> simp
@[simp] theorem saveTimedOut_frame :
    s.saveTimedOut.links = s.links ∧ s.saveTimedOut.health = s.health ∧ s.saveTimedOut.cues = s.cues ∧ s.saveTimedOut.routes = s.routes
    ∧ s.saveTimedOut.player = s.player ∧ s.saveTimedOut.gang = s.gang ∧ s.saveTimedOut.pending = s.pending ∧ s.saveTimedOut.align = s.align
    ∧ s.saveTimedOut.ctl = s.ctl := by
  simp only [saveTimedOut]
  split <;> simp
@[simp] theorem eraseTimedOut_frame (x : EngineStep) :
    (s.eraseTimedOut x).links = s.links ∧ (s.eraseTimedOut x).health = s.health ∧ (s.eraseTimedOut x).cues = s.cues
    ∧ (s.eraseTimedOut x).routes = s.routes ∧ (s.eraseTimedOut x).player = s.player ∧ (s.eraseTimedOut x).gang = s.gang
    ∧ (s.eraseTimedOut x).pending = s.pending ∧ (s.eraseTimedOut x).align = s.align ∧ (s.eraseTimedOut x).ctl = s.ctl := by
  simp only [eraseTimedOut]
  split <;> simp
@[simp] theorem serveRead_frame (e : DirEntry) (page : Nat) (ecc : Ecc) :
    (s.serveRead e page ecc).framer = s.framer ∧ (s.serveRead e page ecc).links = s.links ∧ (s.serveRead e page ecc).health = s.health
    ∧ (s.serveRead e page ecc).cues = s.cues ∧ (s.serveRead e page ecc).routes = s.routes ∧ (s.serveRead e page ecc).gang = s.gang
    ∧ (s.serveRead e page ecc).mgmt = s.mgmt ∧ (s.serveRead e page ecc).pending = s.pending ∧ (s.serveRead e page ecc).align = s.align
    ∧ (s.serveRead e page ecc).ctl = s.ctl := by
  simp [serveRead]
@[simp] theorem serveLost_frame (x : LostRead) (ecc : Ecc) :
    (s.serveLost x ecc).framer = s.framer ∧ (s.serveLost x ecc).links = s.links ∧ (s.serveLost x ecc).health = s.health
    ∧ (s.serveLost x ecc).cues = s.cues ∧ (s.serveLost x ecc).routes = s.routes ∧ (s.serveLost x ecc).gang = s.gang
    ∧ (s.serveLost x ecc).mgmt = s.mgmt ∧ (s.serveLost x ecc).pending = s.pending ∧ (s.serveLost x ecc).align = s.align
    ∧ (s.serveLost x ecc).ctl = s.ctl := by
  simp only [serveLost]
  split <;> simp
@[simp] theorem playerRead_frame (ecc : Ecc) :
    (s.playerRead ecc).framer = s.framer ∧ (s.playerRead ecc).links = s.links ∧ (s.playerRead ecc).health = s.health ∧ (s.playerRead ecc).cues = s.cues
    ∧ (s.playerRead ecc).routes = s.routes ∧ (s.playerRead ecc).gang = s.gang ∧ (s.playerRead ecc).mgmt = s.mgmt
    ∧ (s.playerRead ecc).pending = s.pending ∧ (s.playerRead ecc).align = s.align ∧ (s.playerRead ecc).ctl = s.ctl := by
  unfold playerRead
  (repeat' split) <;> simp
@[simp] theorem programPeriodDone_frame (ok : Bool) :
    (s.programPeriodDone ok).links = s.links ∧ (s.programPeriodDone ok).health = s.health ∧ (s.programPeriodDone ok).cues = s.cues
    ∧ (s.programPeriodDone ok).routes = s.routes ∧ (s.programPeriodDone ok).player = s.player ∧ (s.programPeriodDone ok).gang = s.gang
    ∧ (s.programPeriodDone ok).pending = s.pending ∧ (s.programPeriodDone ok).align = s.align ∧ (s.programPeriodDone ok).ctl = s.ctl := by
  simp only [programPeriodDone]
  (repeat' split) <;> simp
@[simp] theorem resumeErase_frame :
    s.resumeErase.framer = s.framer ∧ s.resumeErase.links = s.links ∧ s.resumeErase.health = s.health ∧ s.resumeErase.cues = s.cues
    ∧ s.resumeErase.routes = s.routes ∧ s.resumeErase.player = s.player ∧ s.resumeErase.gang = s.gang ∧ s.resumeErase.fault = s.fault
    ∧ s.resumeErase.mgmt = s.mgmt ∧ s.resumeErase.pending = s.pending ∧ s.resumeErase.align = s.align ∧ s.resumeErase.ctl = s.ctl := by
  simp only [resumeErase]
  split <;> simp
@[simp] theorem erasePeriod_frame :
    s.erasePeriod.links = s.links ∧ s.erasePeriod.health = s.health ∧ s.erasePeriod.cues = s.cues ∧ s.erasePeriod.routes = s.routes
    ∧ s.erasePeriod.player = s.player ∧ s.erasePeriod.gang = s.gang ∧ s.erasePeriod.pending = s.pending ∧ s.erasePeriod.align = s.align
    ∧ s.erasePeriod.ctl = s.ctl := by
  simp only [erasePeriod]
  (repeat' split) <;> simp
@[simp] theorem clipRetry_frame :
    s.clipRetry.links = s.links ∧ s.clipRetry.health = s.health ∧ s.clipRetry.cues = s.cues ∧ s.clipRetry.routes = s.routes
    ∧ s.clipRetry.player = s.player ∧ s.clipRetry.gang = s.gang ∧ s.clipRetry.pending = s.pending ∧ s.clipRetry.align = s.align
    ∧ s.clipRetry.ctl = s.ctl := by
  simp only [clipRetry]
  (repeat' split) <;> simp
@[simp] theorem backlogRetry_frame :
    s.backlogRetry.framer = s.framer ∧ s.backlogRetry.links = s.links ∧ s.backlogRetry.health = s.health ∧ s.backlogRetry.cues = s.cues
    ∧ s.backlogRetry.routes = s.routes ∧ s.backlogRetry.player = s.player ∧ s.backlogRetry.gang = s.gang ∧ s.backlogRetry.mgmt = s.mgmt
    ∧ s.backlogRetry.pending = s.pending ∧ s.backlogRetry.align = s.align ∧ s.backlogRetry.ctl = s.ctl := by
  simp only [backlogRetry]
  (repeat' split) <;> simp
@[simp] theorem storePeriod_frame (i : PeriodInput) :
    (s.storePeriod i).links = s.links ∧ (s.storePeriod i).health = s.health ∧ (s.storePeriod i).cues = s.cues ∧ (s.storePeriod i).routes = s.routes
    ∧ (s.storePeriod i).gang = s.gang ∧ (s.storePeriod i).pending = s.pending ∧ (s.storePeriod i).align = s.align ∧ (s.storePeriod i).ctl = s.ctl := by
  simp [storePeriod]
/-! ## Scan.lean -/

@[simp] theorem settleAnew_frame (g : Fin 8) :
    (s.settleAnew g).framer = s.framer ∧ (s.settleAnew g).links = s.links ∧ (s.settleAnew g).health = s.health ∧ (s.settleAnew g).cues = s.cues
    ∧ (s.settleAnew g).ctl.policies = s.ctl.policies ∧ (s.settleAnew g).ctl.stamps = s.ctl.stamps ∧ (s.settleAnew g).ctl.journal = s.ctl.journal
    ∧ (s.settleAnew g).routes = s.routes ∧ (s.settleAnew g).store = s.store ∧ (s.settleAnew g).player = s.player ∧ (s.settleAnew g).gang = s.gang
    ∧ (s.settleAnew g).fault = s.fault ∧ (s.settleAnew g).mgmt = s.mgmt ∧ (s.settleAnew g).pending = s.pending := by
  simp only [settleAnew]
  (repeat' split) <;> simp
@[simp] theorem loadImage_frame (v : Settings) :
    (s.loadImage v).framer = s.framer ∧ (s.loadImage v).links = s.links ∧ (s.loadImage v).ctl.stamps = s.ctl.stamps
    ∧ (s.loadImage v).ctl.journal = s.ctl.journal ∧ (s.loadImage v).store = s.store ∧ (s.loadImage v).player = s.player ∧ (s.loadImage v).gang = s.gang
    ∧ (s.loadImage v).fault = s.fault ∧ (s.loadImage v).pending = s.pending := by
  simp [loadImage, allGroups]
@[simp] theorem imageEnd_frame (whole : Bool) :
    (s.imageEnd whole).framer = s.framer ∧ (s.imageEnd whole).links = s.links ∧ (s.imageEnd whole).ctl.stamps = s.ctl.stamps
    ∧ (s.imageEnd whole).ctl.journal = s.ctl.journal ∧ (s.imageEnd whole).store = s.store ∧ (s.imageEnd whole).player = s.player
    ∧ (s.imageEnd whole).gang = s.gang ∧ (s.imageEnd whole).pending = s.pending := by
  simp only [imageEnd]
  split <;> simp
@[simp] theorem fillVector_frame :
    s.fillVector.framer = s.framer ∧ s.fillVector.links = s.links ∧ s.fillVector.health = s.health ∧ s.fillVector.cues = s.cues
    ∧ s.fillVector.routes = s.routes ∧ s.fillVector.store = s.store ∧ s.fillVector.player = s.player ∧ s.fillVector.fault = s.fault
    ∧ s.fillVector.mgmt = s.mgmt ∧ s.fillVector.pending = s.pending ∧ s.fillVector.align = s.align ∧ s.fillVector.ctl = s.ctl := by
  simp only [fillVector]
  split <;> simp
@[simp] theorem loadEnd_frame (whole : Bool) :
    (s.loadEnd whole).links = s.links ∧ (s.loadEnd whole).ctl.stamps = s.ctl.stamps ∧ (s.loadEnd whole).ctl.journal = s.ctl.journal
    ∧ (s.loadEnd whole).player = s.player ∧ (s.loadEnd whole).pending = s.pending := by
  simp [loadEnd]
/-! ## Gang.lean -/

@[simp] theorem takeTick_frame (p : Port) (t : Tick) :
    (s.takeTick p t).framer = s.framer ∧ (s.takeTick p t).links = s.links ∧ (s.takeTick p t).health = s.health ∧ (s.takeTick p t).cues = s.cues
    ∧ (s.takeTick p t).routes = s.routes ∧ (s.takeTick p t).store = s.store ∧ (s.takeTick p t).player = s.player ∧ (s.takeTick p t).fault = s.fault
    ∧ (s.takeTick p t).mgmt = s.mgmt ∧ (s.takeTick p t).pending = s.pending ∧ (s.takeTick p t).align = s.align ∧ (s.takeTick p t).ctl = s.ctl := by
  simp only [takeTick]
  split <;> simp
@[simp] theorem takeReport_frame (p : Port) (es : List UnitEntry) :
    (s.takeReport p es).framer = s.framer ∧ (s.takeReport p es).links = s.links ∧ (s.takeReport p es).health = s.health
    ∧ (s.takeReport p es).cues = s.cues ∧ (s.takeReport p es).routes = s.routes ∧ (s.takeReport p es).store = s.store
    ∧ (s.takeReport p es).player = s.player ∧ (s.takeReport p es).fault = s.fault ∧ (s.takeReport p es).mgmt = s.mgmt
    ∧ (s.takeReport p es).pending = s.pending ∧ (s.takeReport p es).align = s.align ∧ (s.takeReport p es).ctl = s.ctl := by
  simp only [takeReport]
  split <;> simp
@[simp] theorem rowLost_frame (n : Fin 3) :
    (s.rowLost n).framer = s.framer ∧ (s.rowLost n).links = s.links ∧ (s.rowLost n).health = s.health ∧ (s.rowLost n).cues = s.cues
    ∧ (s.rowLost n).routes = s.routes ∧ (s.rowLost n).store = s.store ∧ (s.rowLost n).player = s.player ∧ (s.rowLost n).mgmt = s.mgmt
    ∧ (s.rowLost n).pending = s.pending ∧ (s.rowLost n).align = s.align ∧ (s.rowLost n).ctl = s.ctl := by
  simp [rowLost]
@[simp] theorem rowPeriod_frame (n : Fin 3) :
    (s.rowPeriod n).framer = s.framer ∧ (s.rowPeriod n).links = s.links ∧ (s.rowPeriod n).health = s.health ∧ (s.rowPeriod n).cues = s.cues
    ∧ (s.rowPeriod n).routes = s.routes ∧ (s.rowPeriod n).store = s.store ∧ (s.rowPeriod n).player = s.player ∧ (s.rowPeriod n).mgmt = s.mgmt
    ∧ (s.rowPeriod n).pending = s.pending ∧ (s.rowPeriod n).align = s.align ∧ (s.rowPeriod n).ctl = s.ctl := by
  simp only [rowPeriod]
  (repeat' split) <;> simp
@[simp] theorem adoptGroup_frame (g : Fin 8) :
    (s.adoptGroup g).framer = s.framer ∧ (s.adoptGroup g).links = s.links ∧ (s.adoptGroup g).health = s.health ∧ (s.adoptGroup g).cues = s.cues
    ∧ (s.adoptGroup g).routes = s.routes ∧ (s.adoptGroup g).store = s.store ∧ (s.adoptGroup g).player = s.player ∧ (s.adoptGroup g).fault = s.fault
    ∧ (s.adoptGroup g).mgmt = s.mgmt ∧ (s.adoptGroup g).pending = s.pending ∧ (s.adoptGroup g).align = s.align ∧ (s.adoptGroup g).ctl = s.ctl := by
  simp only [adoptGroup]
  (repeat' split) <;> simp
@[simp] theorem leaveWait_frame :
    s.leaveWait.links = s.links ∧ s.leaveWait.health = s.health ∧ s.leaveWait.cues = s.cues ∧ s.leaveWait.routes = s.routes
    ∧ s.leaveWait.store = s.store ∧ s.leaveWait.player = s.player ∧ s.leaveWait.gang = s.gang ∧ s.leaveWait.fault = s.fault ∧ s.leaveWait.mgmt = s.mgmt
    ∧ s.leaveWait.pending = s.pending ∧ s.leaveWait.align = s.align ∧ s.leaveWait.ctl = s.ctl := by
  simp only [leaveWait]
  split <;> simp
@[simp] theorem becomeJoined_frame :
    s.becomeJoined.links = s.links ∧ s.becomeJoined.health = s.health ∧ s.becomeJoined.cues = s.cues ∧ s.becomeJoined.ctl.policies = s.ctl.policies
    ∧ s.becomeJoined.ctl.stamps = s.ctl.stamps ∧ s.becomeJoined.ctl.journal = s.ctl.journal ∧ s.becomeJoined.routes = s.routes
    ∧ s.becomeJoined.store = s.store ∧ s.becomeJoined.player = s.player ∧ s.becomeJoined.fault = s.fault ∧ s.becomeJoined.mgmt = s.mgmt
    ∧ s.becomeJoined.pending = s.pending ∧ s.becomeJoined.align = s.align := by
  simp [becomeJoined, allGroups]
@[simp] theorem becomeIsolated_frame :
    s.becomeIsolated.framer = s.framer ∧ s.becomeIsolated.links = s.links ∧ s.becomeIsolated.health = s.health ∧ s.becomeIsolated.cues = s.cues
    ∧ s.becomeIsolated.ctl.policies = s.ctl.policies ∧ s.becomeIsolated.ctl.stamps = s.ctl.stamps ∧ s.becomeIsolated.ctl.journal = s.ctl.journal
    ∧ s.becomeIsolated.routes = s.routes ∧ s.becomeIsolated.store = s.store ∧ s.becomeIsolated.player = s.player ∧ s.becomeIsolated.mgmt = s.mgmt
    ∧ s.becomeIsolated.pending = s.pending ∧ s.becomeIsolated.align = s.align := by
  simp [becomeIsolated]
@[simp] theorem silencePeriod_frame :
    s.silencePeriod.framer = s.framer ∧ s.silencePeriod.links = s.links ∧ s.silencePeriod.health = s.health ∧ s.silencePeriod.cues = s.cues
    ∧ s.silencePeriod.routes = s.routes ∧ s.silencePeriod.store = s.store ∧ s.silencePeriod.player = s.player ∧ s.silencePeriod.fault = s.fault
    ∧ s.silencePeriod.mgmt = s.mgmt ∧ s.silencePeriod.pending = s.pending ∧ s.silencePeriod.align = s.align ∧ s.silencePeriod.ctl = s.ctl := by
  simp only [silencePeriod]
  split <;> simp
@[simp] theorem followerPeriod_frame :
    s.followerPeriod.links = s.links ∧ s.followerPeriod.health = s.health ∧ s.followerPeriod.cues = s.cues
    ∧ s.followerPeriod.ctl.policies = s.ctl.policies ∧ s.followerPeriod.ctl.stamps = s.ctl.stamps ∧ s.followerPeriod.ctl.journal = s.ctl.journal
    ∧ s.followerPeriod.routes = s.routes ∧ s.followerPeriod.store = s.store ∧ s.followerPeriod.player = s.player ∧ s.followerPeriod.mgmt = s.mgmt
    ∧ s.followerPeriod.pending = s.pending ∧ s.followerPeriod.align = s.align := by
  simp only [followerPeriod]
  (repeat' split) <;> simp
@[simp] theorem gangPeriod_frame :
    s.gangPeriod.links = s.links ∧ s.gangPeriod.health = s.health ∧ s.gangPeriod.cues = s.cues ∧ s.gangPeriod.ctl.policies = s.ctl.policies
    ∧ s.gangPeriod.ctl.stamps = s.ctl.stamps ∧ s.gangPeriod.ctl.journal = s.ctl.journal ∧ s.gangPeriod.routes = s.routes ∧ s.gangPeriod.store = s.store
    ∧ s.gangPeriod.player = s.player ∧ s.gangPeriod.mgmt = s.mgmt ∧ s.gangPeriod.pending = s.pending ∧ s.gangPeriod.align = s.align := by
  simp only [gangPeriod]
  split <;> simp
@[simp] theorem windowEnd_frame :
    s.windowEnd.links = s.links ∧ s.windowEnd.health = s.health ∧ s.windowEnd.cues = s.cues ∧ s.windowEnd.ctl.policies = s.ctl.policies
    ∧ s.windowEnd.ctl.stamps = s.ctl.stamps ∧ s.windowEnd.ctl.journal = s.ctl.journal ∧ s.windowEnd.routes = s.routes ∧ s.windowEnd.store = s.store
    ∧ s.windowEnd.player = s.player ∧ s.windowEnd.mgmt = s.mgmt ∧ s.windowEnd.pending = s.pending ∧ s.windowEnd.align = s.align := by
  simp only [windowEnd]
  (repeat' split) <;> simp
@[simp] theorem presencePeriod_frame :
    s.presencePeriod.links = s.links ∧ s.presencePeriod.health = s.health ∧ s.presencePeriod.cues = s.cues
    ∧ s.presencePeriod.ctl.policies = s.ctl.policies ∧ s.presencePeriod.ctl.stamps = s.ctl.stamps ∧ s.presencePeriod.ctl.journal = s.ctl.journal
    ∧ s.presencePeriod.routes = s.routes ∧ s.presencePeriod.store = s.store ∧ s.presencePeriod.player = s.player ∧ s.presencePeriod.mgmt = s.mgmt
    ∧ s.presencePeriod.pending = s.pending ∧ s.presencePeriod.align = s.align := by
  simp only [presencePeriod]
  (repeat' split) <;> simp
/-! ## Link.lean -/

@[simp] theorem acquire_frame (p : Port) :
    (s.acquire p).framer = s.framer ∧ (s.acquire p).health = s.health ∧ (s.acquire p).cues = s.cues ∧ (s.acquire p).routes = s.routes
    ∧ (s.acquire p).store = s.store ∧ (s.acquire p).player = s.player ∧ (s.acquire p).gang = s.gang ∧ (s.acquire p).fault = s.fault
    ∧ (s.acquire p).mgmt = s.mgmt ∧ (s.acquire p).pending = s.pending ∧ (s.acquire p).align = s.align ∧ (s.acquire p).ctl = s.ctl := by
  simp only [acquire]
  split <;> simp
@[simp] theorem rigUp_frame (r : Rig) :
    (s.rigUp r).framer = s.framer ∧ (s.rigUp r).links = s.links ∧ (s.rigUp r).align.prog = s.align.prog ∧ (s.rigUp r).cues = s.cues
    ∧ (s.rigUp r).ctl.groups = s.ctl.groups ∧ (s.rigUp r).ctl.policies = s.ctl.policies ∧ (s.rigUp r).ctl.journal = s.ctl.journal
    ∧ (s.rigUp r).routes = s.routes ∧ (s.rigUp r).store = s.store ∧ (s.rigUp r).player = s.player ∧ (s.rigUp r).gang = s.gang
    ∧ (s.rigUp r).fault = s.fault ∧ (s.rigUp r).mgmt = s.mgmt ∧ (s.rigUp r).pending = s.pending := by
  simp [rigUp]
@[simp] theorem enterUp_frame (p : Port) :
    (s.enterUp p).framer = s.framer ∧ (s.enterUp p).align.prog = s.align.prog ∧ (s.enterUp p).cues = s.cues ∧ (s.enterUp p).ctl.groups = s.ctl.groups
    ∧ (s.enterUp p).ctl.policies = s.ctl.policies ∧ (s.enterUp p).ctl.journal = s.ctl.journal ∧ (s.enterUp p).routes = s.routes
    ∧ (s.enterUp p).store = s.store ∧ (s.enterUp p).player = s.player ∧ (s.enterUp p).gang = s.gang ∧ (s.enterUp p).fault = s.fault
    ∧ (s.enterUp p).mgmt = s.mgmt ∧ (s.enterUp p).pending = s.pending := by
  simp only [enterUp]
  split <;> simp
@[simp] theorem trainSlot_frame (p : Port) (o : SlotOutcome) :
    (s.trainSlot p o).framer = s.framer ∧ (s.trainSlot p o).align.prog = s.align.prog ∧ (s.trainSlot p o).cues = s.cues
    ∧ (s.trainSlot p o).ctl.groups = s.ctl.groups ∧ (s.trainSlot p o).ctl.policies = s.ctl.policies ∧ (s.trainSlot p o).ctl.journal = s.ctl.journal
    ∧ (s.trainSlot p o).routes = s.routes ∧ (s.trainSlot p o).store = s.store ∧ (s.trainSlot p o).player = s.player ∧ (s.trainSlot p o).gang = s.gang
    ∧ (s.trainSlot p o).fault = s.fault ∧ (s.trainSlot p o).mgmt = s.mgmt ∧ (s.trainSlot p o).pending = s.pending := by
  simp only [trainSlot]
  split <;> simp
@[simp] theorem rigSlot_frame (r : Rig) (o : SlotOutcome) :
    (s.rigSlot r o).framer = s.framer ∧ (s.rigSlot r o).links = s.links ∧ (s.rigSlot r o).cues = s.cues ∧ (s.rigSlot r o).ctl.groups = s.ctl.groups
    ∧ (s.rigSlot r o).ctl.policies = s.ctl.policies ∧ (s.rigSlot r o).ctl.journal = s.ctl.journal ∧ (s.rigSlot r o).routes = s.routes
    ∧ (s.rigSlot r o).store = s.store ∧ (s.rigSlot r o).gang = s.gang ∧ (s.rigSlot r o).mgmt = s.mgmt ∧ (s.rigSlot r o).pending = s.pending := by
  simp only [rigSlot]
  split <;> simp
@[simp] theorem upSlot_frame (p : Port) (o : SlotOutcome) :
    (s.upSlot p o).framer = s.framer ∧ (s.upSlot p o).cues = s.cues ∧ (s.upSlot p o).ctl.groups = s.ctl.groups
    ∧ (s.upSlot p o).ctl.policies = s.ctl.policies ∧ (s.upSlot p o).ctl.journal = s.ctl.journal ∧ (s.upSlot p o).routes = s.routes
    ∧ (s.upSlot p o).store = s.store ∧ (s.upSlot p o).gang = s.gang ∧ (s.upSlot p o).mgmt = s.mgmt ∧ (s.upSlot p o).pending = s.pending := by
  simp only [upSlot]
  split <;> simp
@[simp] theorem slot_frame (p : Port) (f : Option RawFrame) :
    (s.slot p f).framer = s.framer ∧ (s.slot p f).cues = s.cues ∧ (s.slot p f).ctl.groups = s.ctl.groups ∧ (s.slot p f).ctl.policies = s.ctl.policies
    ∧ (s.slot p f).ctl.journal = s.ctl.journal ∧ (s.slot p f).routes = s.routes ∧ (s.slot p f).store = s.store ∧ (s.slot p f).gang = s.gang
    ∧ (s.slot p f).mgmt = s.mgmt ∧ (s.slot p f).pending = s.pending := by
  simp only [slot]
  split <;> simp
@[simp] theorem linkDownFault_frame (r : Rig) (before : HealthState) :
    (s.linkDownFault r before).framer = s.framer ∧ (s.linkDownFault r before).links = s.links ∧ (s.linkDownFault r before).health = s.health
    ∧ (s.linkDownFault r before).cues = s.cues ∧ (s.linkDownFault r before).routes = s.routes ∧ (s.linkDownFault r before).store = s.store
    ∧ (s.linkDownFault r before).player = s.player ∧ (s.linkDownFault r before).gang = s.gang ∧ (s.linkDownFault r before).mgmt = s.mgmt
    ∧ (s.linkDownFault r before).pending = s.pending ∧ (s.linkDownFault r before).align = s.align ∧ (s.linkDownFault r before).ctl = s.ctl := by
  simp [linkDownFault]
@[simp] theorem rigLost_frame (r : Rig) (stepFirst : Bool) :
    (s.rigLost r stepFirst).framer = s.framer ∧ (s.rigLost r stepFirst).links = s.links ∧ (s.rigLost r stepFirst).cues = s.cues
    ∧ (s.rigLost r stepFirst).ctl.groups = s.ctl.groups ∧ (s.rigLost r stepFirst).ctl.policies = s.ctl.policies
    ∧ (s.rigLost r stepFirst).ctl.journal = s.ctl.journal ∧ (s.rigLost r stepFirst).routes = s.routes ∧ (s.rigLost r stepFirst).store = s.store
    ∧ (s.rigLost r stepFirst).gang = s.gang ∧ (s.rigLost r stepFirst).mgmt = s.mgmt ∧ (s.rigLost r stepFirst).pending = s.pending := by
  simp only [rigLost]
  (repeat' split) <;> simp
@[simp] theorem lose_frame (p : Port) (stepFirst : Bool) :
    (s.lose p stepFirst).framer = s.framer ∧ (s.lose p stepFirst).cues = s.cues ∧ (s.lose p stepFirst).ctl.groups = s.ctl.groups
    ∧ (s.lose p stepFirst).ctl.policies = s.ctl.policies ∧ (s.lose p stepFirst).ctl.journal = s.ctl.journal ∧ (s.lose p stepFirst).routes = s.routes
    ∧ (s.lose p stepFirst).store = s.store ∧ (s.lose p stepFirst).gang = s.gang ∧ (s.lose p stepFirst).mgmt = s.mgmt
    ∧ (s.lose p stepFirst).pending = s.pending := by
  simp only [lose]
  split <;> simp

end Sys2Proof.Machine.State
end

