-- ==== Sys2Proof/Laws/FrameUnit.lean ====
section
/-! SUPPORT. What each operation leaves alone: the requests at their owners, and an output period. -/

namespace Sys2Proof.Machine.State

variable {s : State}

@[simp] theorem answer_frame (h : CtlHead) (k : ReqKind) (c : Completion) (d : ReplyData) :
    (s.answer h k c d).links = s.links ∧ (s.answer h k c d).align = s.align ∧ (s.answer h k c d).health = s.health
    ∧ (s.answer h k c d).cues = s.cues ∧ (s.answer h k c d).ctl = s.ctl ∧ (s.answer h k c d).routes = s.routes
    ∧ (s.answer h k c d).store = s.store ∧ (s.answer h k c d).player = s.player ∧ (s.answer h k c d).gang = s.gang
    ∧ (s.answer h k c d).fault = s.fault ∧ (s.answer h k c d).mgmt = s.mgmt ∧ (s.answer h k c d).pending = s.pending :=
  ⟨rfl, rfl, rfl, rfl, rfl, rfl, rfl, rfl, rfl, rfl, rfl, rfl⟩
@[simp] theorem accept_frame (h : CtlHead) (k : ReqKind) :
    (s.accept h k).framer = s.framer ∧ (s.accept h k).links = s.links ∧ (s.accept h k).align = s.align ∧ (s.accept h k).health = s.health
    ∧ (s.accept h k).cues = s.cues ∧ (s.accept h k).ctl = s.ctl ∧ (s.accept h k).routes = s.routes
    ∧ (s.accept h k).store = s.store ∧ (s.accept h k).player = s.player ∧ (s.accept h k).gang = s.gang
    ∧ (s.accept h k).fault = s.fault ∧ (s.accept h k).pending = s.pending :=
  ⟨rfl, rfl, rfl, rfl, rfl, rfl, rfl, rfl, rfl, rfl, rfl, rfl⟩

/-! ## Manage.lean -/

@[simp] theorem ownIdentify_frame (h : CtlHead) :
    (s.ownIdentify h).links = s.links ∧ (s.ownIdentify h).health = s.health ∧ (s.ownIdentify h).cues = s.cues ∧ (s.ownIdentify h).routes = s.routes
    ∧ (s.ownIdentify h).store = s.store ∧ (s.ownIdentify h).player = s.player ∧ (s.ownIdentify h).gang = s.gang ∧ (s.ownIdentify h).fault = s.fault
    ∧ (s.ownIdentify h).mgmt = s.mgmt ∧ (s.ownIdentify h).pending = s.pending ∧ (s.ownIdentify h).align = s.align ∧ (s.ownIdentify h).ctl = s.ctl := by
  simp [ownIdentify]
@[simp] theorem ownReadStatus_frame (h : CtlHead) (part : StatusPart) :
    (s.ownReadStatus h part).links = s.links ∧ (s.ownReadStatus h part).health = s.health ∧ (s.ownReadStatus h part).cues = s.cues
    ∧ (s.ownReadStatus h part).routes = s.routes ∧ (s.ownReadStatus h part).store = s.store ∧ (s.ownReadStatus h part).player = s.player
    ∧ (s.ownReadStatus h part).gang = s.gang ∧ (s.ownReadStatus h part).fault = s.fault ∧ (s.ownReadStatus h part).mgmt = s.mgmt
    ∧ (s.ownReadStatus h part).pending = s.pending ∧ (s.ownReadStatus h part).align = s.align ∧ (s.ownReadStatus h part).ctl = s.ctl := by
  simp only [ownReadStatus]
  split <;> simp
@[simp] theorem ownReadHealth_frame (h : CtlHead) (rig : RigArg) :
    (s.ownReadHealth h rig).links = s.links ∧ (s.ownReadHealth h rig).health = s.health ∧ (s.ownReadHealth h rig).cues = s.cues
    ∧ (s.ownReadHealth h rig).routes = s.routes ∧ (s.ownReadHealth h rig).store = s.store ∧ (s.ownReadHealth h rig).player = s.player
    ∧ (s.ownReadHealth h rig).gang = s.gang ∧ (s.ownReadHealth h rig).fault = s.fault ∧ (s.ownReadHealth h rig).mgmt = s.mgmt
    ∧ (s.ownReadHealth h rig).pending = s.pending ∧ (s.ownReadHealth h rig).align = s.align ∧ (s.ownReadHealth h rig).ctl = s.ctl := by
  simp only [ownReadHealth]
  split <;> simp
@[simp] theorem setLimits_frame (rig : RigArg) (l : HealthLimits) :
    (s.setLimits rig l).framer = s.framer ∧ (s.setLimits rig l).links = s.links ∧ (s.setLimits rig l).cues = s.cues
    ∧ (s.setLimits rig l).routes = s.routes ∧ (s.setLimits rig l).store = s.store ∧ (s.setLimits rig l).player = s.player
    ∧ (s.setLimits rig l).gang = s.gang ∧ (s.setLimits rig l).fault = s.fault ∧ (s.setLimits rig l).mgmt = s.mgmt
    ∧ (s.setLimits rig l).pending = s.pending ∧ (s.setLimits rig l).align = s.align ∧ (s.setLimits rig l).ctl = s.ctl := by
  simp only [setLimits]
  split <;> simp
@[simp] theorem ownSetHealthLimits_frame (h : CtlHead) (rig : RigArg) (l : HealthLimits) :
    (s.ownSetHealthLimits h rig l).links = s.links ∧ (s.ownSetHealthLimits h rig l).cues = s.cues ∧ (s.ownSetHealthLimits h rig l).routes = s.routes
    ∧ (s.ownSetHealthLimits h rig l).store = s.store ∧ (s.ownSetHealthLimits h rig l).player = s.player ∧ (s.ownSetHealthLimits h rig l).gang = s.gang
    ∧ (s.ownSetHealthLimits h rig l).fault = s.fault ∧ (s.ownSetHealthLimits h rig l).mgmt = s.mgmt ∧ (s.ownSetHealthLimits h rig l).pending = s.pending
    ∧ (s.ownSetHealthLimits h rig l).align = s.align ∧ (s.ownSetHealthLimits h rig l).ctl = s.ctl := by
  simp only [ownSetHealthLimits]
  split <;> simp
@[simp] theorem ownRequalify_frame (h : CtlHead) (rig : RigArg) :
    (s.ownRequalify h rig).links = s.links ∧ (s.ownRequalify h rig).cues = s.cues ∧ (s.ownRequalify h rig).ctl.groups = s.ctl.groups
    ∧ (s.ownRequalify h rig).ctl.policies = s.ctl.policies ∧ (s.ownRequalify h rig).ctl.journal = s.ctl.journal
    ∧ (s.ownRequalify h rig).routes = s.routes ∧ (s.ownRequalify h rig).store = s.store ∧ (s.ownRequalify h rig).player = s.player
    ∧ (s.ownRequalify h rig).gang = s.gang ∧ (s.ownRequalify h rig).fault = s.fault ∧ (s.ownRequalify h rig).mgmt = s.mgmt
    ∧ (s.ownRequalify h rig).pending = s.pending ∧ (s.ownRequalify h rig).align = s.align := by
  simp only [ownRequalify]
  (repeat' split) <;> simp
@[simp] theorem unlockCapture_frame (r : Rig) :
    (s.unlockCapture r).framer = s.framer ∧ (s.unlockCapture r).links = s.links ∧ (s.unlockCapture r).cues = s.cues
    ∧ (s.unlockCapture r).routes = s.routes ∧ (s.unlockCapture r).store = s.store ∧ (s.unlockCapture r).player = s.player
    ∧ (s.unlockCapture r).gang = s.gang ∧ (s.unlockCapture r).fault = s.fault ∧ (s.unlockCapture r).mgmt = s.mgmt
    ∧ (s.unlockCapture r).pending = s.pending ∧ (s.unlockCapture r).align = s.align ∧ (s.unlockCapture r).ctl = s.ctl := by
  simp [unlockCapture]
@[simp] theorem ownReadBadFrame_frame (h : CtlHead) (rig : RigArg) :
    (s.ownReadBadFrame h rig).links = s.links ∧ (s.ownReadBadFrame h rig).cues = s.cues ∧ (s.ownReadBadFrame h rig).routes = s.routes
    ∧ (s.ownReadBadFrame h rig).store = s.store ∧ (s.ownReadBadFrame h rig).player = s.player ∧ (s.ownReadBadFrame h rig).gang = s.gang
    ∧ (s.ownReadBadFrame h rig).fault = s.fault ∧ (s.ownReadBadFrame h rig).mgmt = s.mgmt ∧ (s.ownReadBadFrame h rig).pending = s.pending
    ∧ (s.ownReadBadFrame h rig).align = s.align ∧ (s.ownReadBadFrame h rig).ctl = s.ctl := by
  simp only [ownReadBadFrame]
  split <;> simp
@[simp] theorem ownReadFault_frame (h : CtlHead) :
    (s.ownReadFault h).links = s.links ∧ (s.ownReadFault h).health = s.health ∧ (s.ownReadFault h).cues = s.cues ∧ (s.ownReadFault h).routes = s.routes
    ∧ (s.ownReadFault h).store = s.store ∧ (s.ownReadFault h).player = s.player ∧ (s.ownReadFault h).gang = s.gang ∧ (s.ownReadFault h).fault = s.fault
    ∧ (s.ownReadFault h).mgmt = s.mgmt ∧ (s.ownReadFault h).pending = s.pending ∧ (s.ownReadFault h).align = s.align ∧ (s.ownReadFault h).ctl = s.ctl := by
  simp [ownReadFault]
@[simp] theorem ownClearFault_frame (h : CtlHead) :
    (s.ownClearFault h).links = s.links ∧ (s.ownClearFault h).health = s.health ∧ (s.ownClearFault h).cues = s.cues
    ∧ (s.ownClearFault h).routes = s.routes ∧ (s.ownClearFault h).store = s.store ∧ (s.ownClearFault h).player = s.player
    ∧ (s.ownClearFault h).gang = s.gang ∧ (s.ownClearFault h).mgmt = s.mgmt ∧ (s.ownClearFault h).pending = s.pending
    ∧ (s.ownClearFault h).align = s.align ∧ (s.ownClearFault h).ctl = s.ctl := by
  simp [ownClearFault]
@[simp] theorem ownReadJournal_frame (h : CtlHead) (start : Nat) :
    (s.ownReadJournal h start).links = s.links ∧ (s.ownReadJournal h start).health = s.health ∧ (s.ownReadJournal h start).cues = s.cues
    ∧ (s.ownReadJournal h start).routes = s.routes ∧ (s.ownReadJournal h start).store = s.store ∧ (s.ownReadJournal h start).player = s.player
    ∧ (s.ownReadJournal h start).gang = s.gang ∧ (s.ownReadJournal h start).fault = s.fault ∧ (s.ownReadJournal h start).mgmt = s.mgmt
    ∧ (s.ownReadJournal h start).pending = s.pending ∧ (s.ownReadJournal h start).align = s.align ∧ (s.ownReadJournal h start).ctl = s.ctl := by
  simp [ownReadJournal]
@[simp] theorem cueEdited_frame (h : CtlHead) (k : ReqKind) (c : Nat) (x : CueMap.Edited) :
    (s.cueEdited h k c x).links = s.links ∧ (s.cueEdited h k c x).health = s.health ∧ (s.cueEdited h k c x).routes = s.routes
    ∧ (s.cueEdited h k c x).store = s.store ∧ (s.cueEdited h k c x).gang = s.gang ∧ (s.cueEdited h k c x).fault = s.fault
    ∧ (s.cueEdited h k c x).mgmt = s.mgmt ∧ (s.cueEdited h k c x).pending = s.pending ∧ (s.cueEdited h k c x).align = s.align
    ∧ (s.cueEdited h k c x).ctl = s.ctl := by
  simp only [cueEdited]
  split <;> simp
@[simp] theorem ownWriteCue_frame (h : CtlHead) (r : CueRecord) (zoneCount : Nat) :
    (s.ownWriteCue h r zoneCount).links = s.links ∧ (s.ownWriteCue h r zoneCount).health = s.health ∧ (s.ownWriteCue h r zoneCount).routes = s.routes
    ∧ (s.ownWriteCue h r zoneCount).store = s.store ∧ (s.ownWriteCue h r zoneCount).gang = s.gang ∧ (s.ownWriteCue h r zoneCount).fault = s.fault
    ∧ (s.ownWriteCue h r zoneCount).mgmt = s.mgmt ∧ (s.ownWriteCue h r zoneCount).pending = s.pending ∧ (s.ownWriteCue h r zoneCount).align = s.align
    ∧ (s.ownWriteCue h r zoneCount).ctl = s.ctl := by
  simp only [ownWriteCue]
  split <;> simp
@[simp] theorem ownDeleteCue_frame (h : CtlHead) (c : Nat) :
    (s.ownDeleteCue h c).links = s.links ∧ (s.ownDeleteCue h c).health = s.health ∧ (s.ownDeleteCue h c).routes = s.routes
    ∧ (s.ownDeleteCue h c).store = s.store ∧ (s.ownDeleteCue h c).gang = s.gang ∧ (s.ownDeleteCue h c).fault = s.fault
    ∧ (s.ownDeleteCue h c).mgmt = s.mgmt ∧ (s.ownDeleteCue h c).pending = s.pending ∧ (s.ownDeleteCue h c).align = s.align
    ∧ (s.ownDeleteCue h c).ctl = s.ctl := by
  simp [ownDeleteCue]
@[simp] theorem ownReadCue_frame (h : CtlHead) (c : Nat) :
    (s.ownReadCue h c).links = s.links ∧ (s.ownReadCue h c).health = s.health ∧ (s.ownReadCue h c).cues = s.cues ∧ (s.ownReadCue h c).routes = s.routes
    ∧ (s.ownReadCue h c).store = s.store ∧ (s.ownReadCue h c).player = s.player ∧ (s.ownReadCue h c).gang = s.gang ∧ (s.ownReadCue h c).fault = s.fault
    ∧ (s.ownReadCue h c).mgmt = s.mgmt ∧ (s.ownReadCue h c).pending = s.pending ∧ (s.ownReadCue h c).align = s.align ∧ (s.ownReadCue h c).ctl = s.ctl := by
  simp [ownReadCue]
@[simp] theorem ownListCues_frame (h : CtlHead) (start : Nat) :
    (s.ownListCues h start).links = s.links ∧ (s.ownListCues h start).health = s.health ∧ (s.ownListCues h start).cues = s.cues
    ∧ (s.ownListCues h start).routes = s.routes ∧ (s.ownListCues h start).store = s.store ∧ (s.ownListCues h start).player = s.player
    ∧ (s.ownListCues h start).gang = s.gang ∧ (s.ownListCues h start).fault = s.fault ∧ (s.ownListCues h start).mgmt = s.mgmt
    ∧ (s.ownListCues h start).pending = s.pending ∧ (s.ownListCues h start).align = s.align ∧ (s.ownListCues h start).ctl = s.ctl := by
  simp only [ownListCues]
  split <;> simp
@[simp] theorem ownWriteRoute_frame (h : CtlHead) (first count : Nat) (l : List RouteEntry) :
    (s.ownWriteRoute h first count l).links = s.links ∧ (s.ownWriteRoute h first count l).health = s.health
    ∧ (s.ownWriteRoute h first count l).cues = s.cues ∧ (s.ownWriteRoute h first count l).store = s.store
    ∧ (s.ownWriteRoute h first count l).player = s.player ∧ (s.ownWriteRoute h first count l).gang = s.gang
    ∧ (s.ownWriteRoute h first count l).fault = s.fault ∧ (s.ownWriteRoute h first count l).mgmt = s.mgmt
    ∧ (s.ownWriteRoute h first count l).pending = s.pending ∧ (s.ownWriteRoute h first count l).align = s.align
    ∧ (s.ownWriteRoute h first count l).ctl = s.ctl := by
  simp only [ownWriteRoute]
  (repeat' split) <;> simp
@[simp] theorem ownReadRoute_frame (h : CtlHead) (bank : BankArg) (first count : Nat) :
    (s.ownReadRoute h bank first count).links = s.links ∧ (s.ownReadRoute h bank first count).health = s.health
    ∧ (s.ownReadRoute h bank first count).cues = s.cues ∧ (s.ownReadRoute h bank first count).routes = s.routes
    ∧ (s.ownReadRoute h bank first count).store = s.store ∧ (s.ownReadRoute h bank first count).player = s.player
    ∧ (s.ownReadRoute h bank first count).gang = s.gang ∧ (s.ownReadRoute h bank first count).fault = s.fault
    ∧ (s.ownReadRoute h bank first count).mgmt = s.mgmt ∧ (s.ownReadRoute h bank first count).pending = s.pending
    ∧ (s.ownReadRoute h bank first count).align = s.align ∧ (s.ownReadRoute h bank first count).ctl = s.ctl := by
  simp only [ownReadRoute]
  (repeat' split) <;> simp
@[simp] theorem ownCommitRoutes_frame (h : CtlHead) (timing : Option CommitTiming) :
    (s.ownCommitRoutes h timing).links = s.links ∧ (s.ownCommitRoutes h timing).health = s.health ∧ (s.ownCommitRoutes h timing).cues = s.cues
    ∧ (s.ownCommitRoutes h timing).store = s.store ∧ (s.ownCommitRoutes h timing).player = s.player ∧ (s.ownCommitRoutes h timing).gang = s.gang
    ∧ (s.ownCommitRoutes h timing).fault = s.fault ∧ (s.ownCommitRoutes h timing).mgmt = s.mgmt ∧ (s.ownCommitRoutes h timing).pending = s.pending
    ∧ (s.ownCommitRoutes h timing).align = s.align ∧ (s.ownCommitRoutes h timing).ctl = s.ctl := by
  simp only [ownCommitRoutes]
  split <;> simp
@[simp] theorem loadD_frame (g : Nat) :
    (s.loadD g).framer = s.framer ∧ (s.loadD g).links = s.links ∧ (s.loadD g).align.rigs = s.align.rigs ∧ (s.loadD g).health = s.health
    ∧ (s.loadD g).cues = s.cues ∧ (s.loadD g).routes = s.routes ∧ (s.loadD g).store = s.store ∧ (s.loadD g).player = s.player
    ∧ (s.loadD g).gang = s.gang ∧ (s.loadD g).fault = s.fault ∧ (s.loadD g).mgmt = s.mgmt ∧ (s.loadD g).pending = s.pending ∧ (s.loadD g).ctl = s.ctl := by
  simp only [loadD]
  split <;> simp
@[simp] theorem dropRevert_frame (g : Fin 8) :
    (s.dropRevert g).framer = s.framer ∧ (s.dropRevert g).links = s.links ∧ (s.dropRevert g).health = s.health ∧ (s.dropRevert g).cues = s.cues
    ∧ (s.dropRevert g).ctl.policies = s.ctl.policies ∧ (s.dropRevert g).ctl.stamps = s.ctl.stamps ∧ (s.dropRevert g).ctl.journal = s.ctl.journal
    ∧ (s.dropRevert g).routes = s.routes ∧ (s.dropRevert g).store = s.store ∧ (s.dropRevert g).player = s.player ∧ (s.dropRevert g).gang = s.gang
    ∧ (s.dropRevert g).fault = s.fault ∧ (s.dropRevert g).mgmt = s.mgmt ∧ (s.dropRevert g).pending = s.pending ∧ (s.dropRevert g).align = s.align := by
  simp only [dropRevert]
  split <;> simp
@[simp] theorem setPolicy_frame (g : Fin 8) (p : GroupPolicy) :
    (s.setPolicy g p).framer = s.framer ∧ (s.setPolicy g p).links = s.links ∧ (s.setPolicy g p).health = s.health ∧ (s.setPolicy g p).cues = s.cues
    ∧ (s.setPolicy g p).ctl.groups = s.ctl.groups ∧ (s.setPolicy g p).ctl.stamps = s.ctl.stamps ∧ (s.setPolicy g p).ctl.journal = s.ctl.journal
    ∧ (s.setPolicy g p).routes = s.routes ∧ (s.setPolicy g p).store = s.store ∧ (s.setPolicy g p).player = s.player ∧ (s.setPolicy g p).gang = s.gang
    ∧ (s.setPolicy g p).fault = s.fault ∧ (s.setPolicy g p).mgmt = s.mgmt ∧ (s.setPolicy g p).pending = s.pending ∧ (s.setPolicy g p).align = s.align := by
  simp [setPolicy]
@[simp] theorem ownWriteGroup_frame (h : CtlHead) (g : Nat) (p : GroupPolicy) :
    (s.ownWriteGroup h g p).links = s.links ∧ (s.ownWriteGroup h g p).align.rigs = s.align.rigs ∧ (s.ownWriteGroup h g p).health = s.health
    ∧ (s.ownWriteGroup h g p).cues = s.cues ∧ (s.ownWriteGroup h g p).ctl.stamps = s.ctl.stamps ∧ (s.ownWriteGroup h g p).ctl.journal = s.ctl.journal
    ∧ (s.ownWriteGroup h g p).routes = s.routes ∧ (s.ownWriteGroup h g p).store = s.store ∧ (s.ownWriteGroup h g p).player = s.player
    ∧ (s.ownWriteGroup h g p).gang = s.gang ∧ (s.ownWriteGroup h g p).fault = s.fault ∧ (s.ownWriteGroup h g p).mgmt = s.mgmt
    ∧ (s.ownWriteGroup h g p).pending = s.pending := by
  simp only [ownWriteGroup]
  split <;> simp
@[simp] theorem ownReadGroup_frame (h : CtlHead) (g : Nat) :
    (s.ownReadGroup h g).links = s.links ∧ (s.ownReadGroup h g).health = s.health ∧ (s.ownReadGroup h g).cues = s.cues
    ∧ (s.ownReadGroup h g).routes = s.routes ∧ (s.ownReadGroup h g).store = s.store ∧ (s.ownReadGroup h g).player = s.player
    ∧ (s.ownReadGroup h g).gang = s.gang ∧ (s.ownReadGroup h g).fault = s.fault ∧ (s.ownReadGroup h g).mgmt = s.mgmt
    ∧ (s.ownReadGroup h g).pending = s.pending ∧ (s.ownReadGroup h g).align = s.align ∧ (s.ownReadGroup h g).ctl = s.ctl := by
  simp only [ownReadGroup]
  split <;> simp
@[simp] theorem ownStopProgram_frame (h : CtlHead) :
    (s.ownStopProgram h).links = s.links ∧ (s.ownStopProgram h).health = s.health ∧ (s.ownStopProgram h).ctl.policies = s.ctl.policies
    ∧ (s.ownStopProgram h).ctl.stamps = s.ctl.stamps ∧ (s.ownStopProgram h).routes = s.routes ∧ (s.ownStopProgram h).store = s.store
    ∧ (s.ownStopProgram h).fault = s.fault ∧ (s.ownStopProgram h).mgmt = s.mgmt ∧ (s.ownStopProgram h).pending = s.pending := by
  simp [ownStopProgram]
@[simp] theorem ownShowLock_frame (h : CtlHead) :
    (s.ownShowLock h).links = s.links ∧ (s.ownShowLock h).health = s.health ∧ (s.ownShowLock h).cues = s.cues ∧ (s.ownShowLock h).routes = s.routes
    ∧ (s.ownShowLock h).store = s.store ∧ (s.ownShowLock h).player = s.player ∧ (s.ownShowLock h).gang = s.gang ∧ (s.ownShowLock h).fault = s.fault
    ∧ (s.ownShowLock h).pending = s.pending ∧ (s.ownShowLock h).align = s.align ∧ (s.ownShowLock h).ctl = s.ctl := by
  simp [ownShowLock]
@[simp] theorem ownShowUnlock_frame (h : CtlHead) :
    (s.ownShowUnlock h).links = s.links ∧ (s.ownShowUnlock h).health = s.health ∧ (s.ownShowUnlock h).cues = s.cues
    ∧ (s.ownShowUnlock h).routes = s.routes ∧ (s.ownShowUnlock h).store = s.store ∧ (s.ownShowUnlock h).player = s.player
    ∧ (s.ownShowUnlock h).gang = s.gang ∧ (s.ownShowUnlock h).fault = s.fault ∧ (s.ownShowUnlock h).pending = s.pending
    ∧ (s.ownShowUnlock h).align = s.align ∧ (s.ownShowUnlock h).ctl = s.ctl := by
  simp [ownShowUnlock]
@[simp] theorem ownBedOpen_frame (h : CtlHead) (clip length loopStart loopLength : Nat) :
    (s.ownBedOpen h clip length loopStart loopLength).links = s.links ∧ (s.ownBedOpen h clip length loopStart loopLength).health = s.health
    ∧ (s.ownBedOpen h clip length loopStart loopLength).cues = s.cues ∧ (s.ownBedOpen h clip length loopStart loopLength).routes = s.routes
    ∧ (s.ownBedOpen h clip length loopStart loopLength).player = s.player ∧ (s.ownBedOpen h clip length loopStart loopLength).gang = s.gang
    ∧ (s.ownBedOpen h clip length loopStart loopLength).fault = s.fault ∧ (s.ownBedOpen h clip length loopStart loopLength).mgmt = s.mgmt
    ∧ (s.ownBedOpen h clip length loopStart loopLength).pending = s.pending ∧ (s.ownBedOpen h clip length loopStart loopLength).align = s.align
    ∧ (s.ownBedOpen h clip length loopStart loopLength).ctl = s.ctl := by
  simp only [ownBedOpen]
  (repeat' split) <;> simp
@[simp] theorem takeFrames_frame (h : CtlHead) (clip : Nat) (e : DirEntry) (b : PageBuf) :
    (s.takeFrames h clip e b).links = s.links ∧ (s.takeFrames h clip e b).health = s.health ∧ (s.takeFrames h clip e b).cues = s.cues
    ∧ (s.takeFrames h clip e b).routes = s.routes ∧ (s.takeFrames h clip e b).player = s.player ∧ (s.takeFrames h clip e b).gang = s.gang
    ∧ (s.takeFrames h clip e b).fault = s.fault ∧ (s.takeFrames h clip e b).pending = s.pending ∧ (s.takeFrames h clip e b).align = s.align
    ∧ (s.takeFrames h clip e b).ctl = s.ctl := by
  simp only [takeFrames]
  (repeat' split) <;> simp
@[simp] theorem ownBedData_frame (h : CtlHead) (clip offset : Nat) (f0 f1 : BedFrame) :
    (s.ownBedData h clip offset f0 f1).links = s.links ∧ (s.ownBedData h clip offset f0 f1).health = s.health
    ∧ (s.ownBedData h clip offset f0 f1).cues = s.cues ∧ (s.ownBedData h clip offset f0 f1).routes = s.routes
    ∧ (s.ownBedData h clip offset f0 f1).player = s.player ∧ (s.ownBedData h clip offset f0 f1).gang = s.gang
    ∧ (s.ownBedData h clip offset f0 f1).fault = s.fault ∧ (s.ownBedData h clip offset f0 f1).pending = s.pending
    ∧ (s.ownBedData h clip offset f0 f1).align = s.align ∧ (s.ownBedData h clip offset f0 f1).ctl = s.ctl := by
  simp only [ownBedData]
  (repeat' split) <;> simp
@[simp] theorem ownBedSeal_frame (h : CtlHead) (clip : Nat) :
    (s.ownBedSeal h clip).links = s.links ∧ (s.ownBedSeal h clip).health = s.health ∧ (s.ownBedSeal h clip).cues = s.cues
    ∧ (s.ownBedSeal h clip).routes = s.routes ∧ (s.ownBedSeal h clip).player = s.player ∧ (s.ownBedSeal h clip).gang = s.gang
    ∧ (s.ownBedSeal h clip).fault = s.fault ∧ (s.ownBedSeal h clip).pending = s.pending ∧ (s.ownBedSeal h clip).align = s.align
    ∧ (s.ownBedSeal h clip).ctl = s.ctl := by
  simp only [ownBedSeal]
  (repeat' split) <;> simp
@[simp] theorem playerClipGone_frame (e : DirEntry) :
    (s.playerClipGone e).framer = s.framer ∧ (s.playerClipGone e).links = s.links ∧ (s.playerClipGone e).health = s.health ∧ (s.playerClipGone e).cues = s.cues
    ∧ (s.playerClipGone e).routes = s.routes ∧ (s.playerClipGone e).store = s.store ∧ (s.playerClipGone e).gang = s.gang ∧ (s.playerClipGone e).fault = s.fault
    ∧ (s.playerClipGone e).mgmt = s.mgmt ∧ (s.playerClipGone e).pending = s.pending ∧ (s.playerClipGone e).align = s.align ∧ (s.playerClipGone e).ctl = s.ctl := by
  simp [playerClipGone]
@[simp] theorem abortClip_frame (e : DirEntry) :
    (s.abortClip e).links = s.links ∧ (s.abortClip e).health = s.health ∧ (s.abortClip e).cues = s.cues ∧ (s.abortClip e).routes = s.routes
    ∧ (s.abortClip e).gang = s.gang ∧ (s.abortClip e).fault = s.fault ∧ (s.abortClip e).pending = s.pending ∧ (s.abortClip e).align = s.align
    ∧ (s.abortClip e).ctl = s.ctl := by
  simp only [abortClip]
  split <;> simp
@[simp] theorem deleteClip_frame (e : DirEntry) :
    (s.deleteClip e).framer = s.framer ∧ (s.deleteClip e).links = s.links ∧ (s.deleteClip e).health = s.health ∧ (s.deleteClip e).cues = s.cues
    ∧ (s.deleteClip e).routes = s.routes ∧ (s.deleteClip e).gang = s.gang ∧ (s.deleteClip e).fault = s.fault ∧ (s.deleteClip e).mgmt = s.mgmt
    ∧ (s.deleteClip e).pending = s.pending ∧ (s.deleteClip e).align = s.align ∧ (s.deleteClip e).ctl = s.ctl := by
  simp [deleteClip]
@[simp] theorem ownBedAbort_frame (h : CtlHead) (clip : Nat) :
    (s.ownBedAbort h clip).links = s.links ∧ (s.ownBedAbort h clip).health = s.health ∧ (s.ownBedAbort h clip).cues = s.cues
    ∧ (s.ownBedAbort h clip).routes = s.routes ∧ (s.ownBedAbort h clip).gang = s.gang ∧ (s.ownBedAbort h clip).fault = s.fault
    ∧ (s.ownBedAbort h clip).pending = s.pending ∧ (s.ownBedAbort h clip).align = s.align ∧ (s.ownBedAbort h clip).ctl = s.ctl := by
  simp only [ownBedAbort]
  (repeat' split) <;> simp
@[simp] theorem ownBedDelete_frame (h : CtlHead) (clip : Nat) :
    (s.ownBedDelete h clip).links = s.links ∧ (s.ownBedDelete h clip).health = s.health ∧ (s.ownBedDelete h clip).cues = s.cues
    ∧ (s.ownBedDelete h clip).routes = s.routes ∧ (s.ownBedDelete h clip).gang = s.gang ∧ (s.ownBedDelete h clip).fault = s.fault
    ∧ (s.ownBedDelete h clip).pending = s.pending ∧ (s.ownBedDelete h clip).align = s.align ∧ (s.ownBedDelete h clip).ctl = s.ctl := by
  simp only [ownBedDelete]
  (repeat' split) <;> simp
@[simp] theorem ownBedList_frame (h : CtlHead) (start : Nat) :
    (s.ownBedList h start).links = s.links ∧ (s.ownBedList h start).health = s.health ∧ (s.ownBedList h start).cues = s.cues
    ∧ (s.ownBedList h start).routes = s.routes ∧ (s.ownBedList h start).store = s.store ∧ (s.ownBedList h start).player = s.player
    ∧ (s.ownBedList h start).gang = s.gang ∧ (s.ownBedList h start).fault = s.fault ∧ (s.ownBedList h start).mgmt = s.mgmt
    ∧ (s.ownBedList h start).pending = s.pending ∧ (s.ownBedList h start).align = s.align ∧ (s.ownBedList h start).ctl = s.ctl := by
  simp only [ownBedList]
  split <;> simp
@[simp] theorem ownBedStatus_frame (h : CtlHead) :
    (s.ownBedStatus h).links = s.links ∧ (s.ownBedStatus h).health = s.health ∧ (s.ownBedStatus h).cues = s.cues ∧ (s.ownBedStatus h).routes = s.routes
    ∧ (s.ownBedStatus h).store = s.store ∧ (s.ownBedStatus h).player = s.player ∧ (s.ownBedStatus h).gang = s.gang ∧ (s.ownBedStatus h).fault = s.fault
    ∧ (s.ownBedStatus h).mgmt = s.mgmt ∧ (s.ownBedStatus h).pending = s.pending ∧ (s.ownBedStatus h).align = s.align ∧ (s.ownBedStatus h).ctl = s.ctl := by
  simp [ownBedStatus]
@[simp] theorem takeSave_frame (h : CtlHead) :
    (s.takeSave h).framer = s.framer ∧ (s.takeSave h).links = s.links ∧ (s.takeSave h).health = s.health ∧ (s.takeSave h).cues = s.cues
    ∧ (s.takeSave h).routes = s.routes ∧ (s.takeSave h).player = s.player ∧ (s.takeSave h).gang = s.gang ∧ (s.takeSave h).fault = s.fault
    ∧ (s.takeSave h).pending = s.pending ∧ (s.takeSave h).align = s.align ∧ (s.takeSave h).ctl = s.ctl := by
  simp [takeSave]
@[simp] theorem ownSaveSettings_frame (h : CtlHead) :
    (s.ownSaveSettings h).links = s.links ∧ (s.ownSaveSettings h).health = s.health ∧ (s.ownSaveSettings h).cues = s.cues
    ∧ (s.ownSaveSettings h).routes = s.routes ∧ (s.ownSaveSettings h).player = s.player ∧ (s.ownSaveSettings h).gang = s.gang
    ∧ (s.ownSaveSettings h).fault = s.fault ∧ (s.ownSaveSettings h).pending = s.pending ∧ (s.ownSaveSettings h).align = s.align
    ∧ (s.ownSaveSettings h).ctl = s.ctl := by
  simp only [ownSaveSettings]
  split <;> simp
@[simp] theorem ownWriteGrants_frame (h : CtlHead) (g : Four (Option Grant)) :
    (s.ownWriteGrants h g).links = s.links ∧ (s.ownWriteGrants h g).health = s.health ∧ (s.ownWriteGrants h g).cues = s.cues
    ∧ (s.ownWriteGrants h g).routes = s.routes ∧ (s.ownWriteGrants h g).store = s.store ∧ (s.ownWriteGrants h g).player = s.player
    ∧ (s.ownWriteGrants h g).gang = s.gang ∧ (s.ownWriteGrants h g).fault = s.fault ∧ (s.ownWriteGrants h g).pending = s.pending
    ∧ (s.ownWriteGrants h g).align = s.align ∧ (s.ownWriteGrants h g).ctl = s.ctl := by
  simp only [ownWriteGrants]
  split <;> simp
@[simp] theorem ownResetUnit_frame (h : CtlHead) :
    (s.ownResetUnit h).links = s.links ∧ (s.ownResetUnit h).health = s.health ∧ (s.ownResetUnit h).cues = s.cues ∧ (s.ownResetUnit h).routes = s.routes
    ∧ (s.ownResetUnit h).store = s.store ∧ (s.ownResetUnit h).player = s.player ∧ (s.ownResetUnit h).gang = s.gang ∧ (s.ownResetUnit h).fault = s.fault
    ∧ (s.ownResetUnit h).pending = s.pending ∧ (s.ownResetUnit h).align = s.align ∧ (s.ownResetUnit h).ctl = s.ctl := by
  simp only [ownResetUnit]
  split <;> simp
/-! ## Period.lean -/

@[simp] theorem holdEnd_frame :
    s.holdEnd.links = s.links ∧ s.holdEnd.health = s.health ∧ s.holdEnd.cues = s.cues ∧ s.holdEnd.routes = s.routes ∧ s.holdEnd.store = s.store
    ∧ s.holdEnd.player = s.player ∧ s.holdEnd.gang = s.gang ∧ s.holdEnd.fault = s.fault ∧ s.holdEnd.mgmt = s.mgmt ∧ s.holdEnd.pending = s.pending
    ∧ s.holdEnd.align = s.align ∧ s.holdEnd.ctl = s.ctl := by
  simp [holdEnd]
@[simp] theorem runPeriod_frame (whole : Bool) :
    (s.runPeriod whole).links = s.links ∧ (s.runPeriod whole).ctl.stamps = s.ctl.stamps ∧ (s.runPeriod whole).ctl.journal = s.ctl.journal
    ∧ (s.runPeriod whole).player = s.player ∧ (s.runPeriod whole).pending = s.pending := by
  simp only [runPeriod]
  (repeat' split) <;> simp
@[simp] theorem programShare_frame :
    s.programShare.framer = s.framer ∧ s.programShare.links = s.links ∧ s.programShare.ctl.policies = s.ctl.policies ∧ s.programShare.routes = s.routes
    ∧ s.programShare.store = s.store ∧ s.programShare.mgmt = s.mgmt ∧ s.programShare.pending = s.pending := by
  simp only [programShare]
  (repeat' split) <;> simp
@[simp] theorem controllerShare_frame :
    s.controllerShare.framer = s.framer ∧ s.controllerShare.links = s.links ∧ s.controllerShare.health = s.health ∧ s.controllerShare.cues = s.cues
    ∧ s.controllerShare.ctl.policies = s.ctl.policies ∧ s.controllerShare.routes = s.routes ∧ s.controllerShare.store = s.store
    ∧ s.controllerShare.player = s.player ∧ s.controllerShare.mgmt = s.mgmt ∧ s.controllerShare.pending = s.pending := by
  simp only [controllerShare]
  split <;> simp
@[simp] theorem noticeShare_frame (f : Option MainFrame) (from_ : State) :
    (s.noticeShare f from_).framer = s.framer ∧ (s.noticeShare f from_).links = s.links ∧ (s.noticeShare f from_).cues = s.cues
    ∧ (s.noticeShare f from_).routes = s.routes ∧ (s.noticeShare f from_).store = s.store ∧ (s.noticeShare f from_).player = s.player
    ∧ (s.noticeShare f from_).gang = s.gang ∧ (s.noticeShare f from_).fault = s.fault ∧ (s.noticeShare f from_).mgmt = s.mgmt
    ∧ (s.noticeShare f from_).pending = s.pending ∧ (s.noticeShare f from_).align = s.align ∧ (s.noticeShare f from_).ctl = s.ctl := by
  simp only [noticeShare]
  split <;> simp
@[simp] theorem laterShares_frame (i : PeriodInput) :
    (s.laterShares i).links = s.links ∧ (s.laterShares i).health = s.health ∧ (s.laterShares i).cues = s.cues
    ∧ (s.laterShares i).ctl.policies = s.ctl.policies ∧ (s.laterShares i).ctl.stamps = s.ctl.stamps ∧ (s.laterShares i).ctl.journal = s.ctl.journal
    ∧ (s.laterShares i).routes = s.routes ∧ (s.laterShares i).pending = s.pending ∧ (s.laterShares i).align = s.align := by
  simp only [laterShares]
  split <;> simp
@[simp] theorem keepCue_frame :
    s.keepCue.framer = s.framer ∧ s.keepCue.links = s.links ∧ s.keepCue.align.rigs = s.align.rigs ∧ s.keepCue.health = s.health
    ∧ s.keepCue.cues = s.cues ∧ s.keepCue.routes = s.routes ∧ s.keepCue.store = s.store ∧ s.keepCue.player = s.player ∧ s.keepCue.gang = s.gang
    ∧ s.keepCue.fault = s.fault ∧ s.keepCue.mgmt = s.mgmt ∧ s.keepCue.pending = s.pending ∧ s.keepCue.ctl = s.ctl := by
  simp [keepCue]

end Sys2Proof.Machine.State
end

