-- ==== Sys2Proof/Laws/Image.lean ====
section
/-! SUPPORT. The settings image page by page (R132 to R134): a saved image reads back as what was saved, and an image whose save was
cut short is not taken. -/

namespace Sys2Proof.Machine

theorem imagePages_pos (v : Settings) : 0 < imagePages v := by unfold imagePages; omega

theorem imagePages_le (v : Settings) (h : v.cues.length ≤ 256) : imagePages v ≤ 17 := by unfold imagePages; omega

theorem cuePages_slices (n : Nat) (l : List CueRecord) (h : l.length ≤ 16 * n) :
    cuePages ((List.range n).map (fun k => PagePart.cues ((l.drop (16 * k)).take 16))) = some l := by
  induction n generalizing l with
  | zero => simp_all [cuePages]
  | succ n ih =>
    have step : ∀ k, (l.drop (16 * (k + 1))).take 16 = ((l.drop 16).drop (16 * k)).take 16 := by
      intro k; rw [List.drop_drop]; congr 2; omega
    rw [List.range_succ_eq_map, List.map_cons, List.map_map]
    simp only [Function.comp_def, cuePages, Nat.succ_eq_add_one, step]
    rw [ih (l.drop 16) (by simp; omega)]
    simp [List.take_append_drop]

theorem savedImage_parts (v : Settings) : (savedImage v).pages.map (fun y => y.part) = pageParts v := by
  simp [savedImage, pageParts, imagePage, Function.comp_def]

theorem readPages_pageParts (v : Settings) : readPages (pageParts v) = some v := by
  unfold pageParts imagePages
  rw [Nat.add_comm, List.range_succ_eq_map, List.map_cons, List.map_map]
  simp only [Function.comp_def, pagePart, Nat.succ_eq_add_one, readPages]
  rw [cuePages_slices _ _ (by omega)]
  rfl

theorem closeGood_savedImage (v : Settings) (h : v.cues.length ≤ 256) : closeGood (savedImage v).pages = true := by
  have hp := imagePages_pos v
  have last : (savedImage v).pages.getLast? = some (imagePage v (imagePages v - 1)) := by
    obtain ⟨n, hn⟩ : ∃ n, imagePages v = n + 1 := ⟨imagePages v - 1, by omega⟩
    simp [savedImage, hn, List.range_succ]
  unfold closeGood
  rw [last, savedImage_parts]
  simp [imagePage, show imagePages v - 1 + 1 = imagePages v by omega, imagePages_le v h, savedImage]
  omega

/-- A saved image that passes the content checks is taken whole when its pages read as they were programmed. -/
theorem judgeImage_savedImage (v : Settings) (h : contentGood v = true) : judgeImage (savedImage v) true = .ok v := by
  have hl : v.cues.length ≤ 256 := by
    simp only [contentGood, Bool.and_eq_true] at h
    exact of_decide_eq_true h.1.1.1.1.1.1.2
  have hp := imagePages_pos v
  unfold judgeImage
  rw [closeGood_savedImage v hl, savedImage_parts, readPages_pageParts]
  simp [savedImage, h, List.isEmpty_iff]
  omega

/-- R134: the pages of a save that did not reach its last page are no image. -/
theorem judgeImage_cutShort (v : Settings) (whole : Bool) (n : Nat) (h0 : 0 < n) (hn : n < imagePages v) :
    judgeImage { pages := (List.range n).map (imagePage v), disturbed := false } whole = .error .badCrc := by
  obtain ⟨m, rfl⟩ : ∃ m, n = m + 1 := ⟨n - 1, by omega⟩
  have open_ : closeGood ((List.range (m + 1)).map (imagePage v)) = false := by
    simp [closeGood, List.range_succ, imagePage, show m + 1 ≠ imagePages v by omega]
  unfold judgeImage
  simp [open_, List.isEmpty_iff]

end Sys2Proof.Machine
end

