-- ==== Sys2Proof/Laws/KeepRigs.lean ====
section
/-! SUPPORT. The health monitors, the bed player, the alignment buffer: each operation keeps Inv. -/

namespace Sys2Proof.Machine

namespace State

variable {s : State}

/-! ## Health.lean -/

@[simp] theorem clearStamp_inv (r : Rig) (hs : Inv s) : Inv (s.clearStamp r) := by
  simp only [clearStamp]
  simp (maxDischargeDepth := 9) [hs]
@[simp] theorem healthChange_inv (r : Rig) (after : HealthState) (reason : HealthReason) (hs : Inv s) (ha : HardOk after (s.monitor r).hard) :
    Inv (s.healthChange r after reason) := by
  simp only [healthChange]
  (repeat' split) <;> simp (maxDischargeDepth := 9) [hs, ha]
@[simp] theorem setHard_inv (r : Rig) (c : HardCond) (d : FaultDetail) (hs : Inv s) : Inv (s.setHard r c d) := by
  simp only [setHard]
  split
  · exact hs
  · rename_i h
    have hn : ∀ x, HardOk (s.monitor r).state x := fun x => HardOk.of_ne (fun e => h (Or.inl e))
    split <;> simp (maxDischargeDepth := 9) [hs, hn]
@[simp] theorem clearHard_inv (r : Rig) (c : HardCond) (hs : Inv s) : Inv (s.clearHard r c) := by
  simp only [clearHard]
  simp (maxDischargeDepth := 9) [hs]
@[simp] theorem startRecovery_inv (r : Rig) (before : Bool) (hs : Inv s) : Inv (s.startRecovery r before) := by
  simp only [startRecovery]
  split <;> simp (maxDischargeDepth := 9) [hs]
@[simp] theorem regrade_inv (r : Rig) (k : FrameKind) (hs : Inv s) : Inv (s.regrade r k) := by
  simp only [regrade]
  (repeat' split) <;> simp (maxDischargeDepth := 9) [hs]
@[simp] theorem stallReached_inv (r : Rig) (hs : Inv s) : Inv (s.stallReached r) := by
  simp only [stallReached]
  (repeat' split) <;> simp (maxDischargeDepth := 9) [hs]
@[simp] theorem gapSlot_inv (r : Rig) (live : Bool) (hs : Inv s) : Inv (s.gapSlot r live) := by
  simp only [gapSlot]
  (repeat' split) <;> simp (maxDischargeDepth := 9) [hs, Nat.min_le_left]
@[simp] theorem bucketSlot_inv (r : Rig) (valid : Bool) (hs : Inv s) : Inv (s.bucketSlot r valid) := by
  have hb := Nat.le_trans (Nat.sub_le _ 1) (hs.bucket r)
  simp only [bucketSlot]
  (repeat' split) <;> simp (maxDischargeDepth := 9) [hs, hb, Nat.min_le_left]
@[simp] theorem pilotReached_inv (r : Rig) (hs : Inv s) : Inv (s.pilotReached r) := by
  simp only [pilotReached]
  simp (maxDischargeDepth := 9) [hs]
@[simp] theorem pilotSlot_inv (r : Rig) (f : InFrame) (hs : Inv s) : Inv (s.pilotSlot r f) := by
  simp only [pilotSlot]
  (repeat' split) <;> simp (maxDischargeDepth := 9) [hs, Nat.min_le_left]
@[simp] theorem jumped_inv (r : Rig) (p : ShowPos) (hs : Inv s) : Inv (s.jumped r p) := by
  simp only [jumped]
  split <;> simp (maxDischargeDepth := 9) [hs, Config.softJump]
@[simp] theorem continuitySlot_inv (r : Rig) (f : InFrame) (slot : Word) (hs : Inv s) : Inv (s.continuitySlot r f slot) := by
  simp only [continuitySlot]
  (repeat' split) <;> simp (maxDischargeDepth := 9) [hs]
@[simp] theorem declaredSlot_inv (r : Rig) (f : InFrame) (hs : Inv s) : Inv (s.declaredSlot r f) := by
  simp only [declaredSlot]
  split <;> simp (maxDischargeDepth := 9) [hs]
@[simp] theorem noStartSlot_inv (r : Rig) (f : InFrame) (hs : Inv s) : Inv (s.noStartSlot r f) := by
  simp only [noStartSlot]
  split <;> simp (maxDischargeDepth := 9) [hs]
@[simp] theorem qualified_inv (r : Rig) (k : FrameKind) (hs : Inv s) : Inv (s.qualified r k) := by
  simp only [qualified]
  (repeat' split) <;> simp (maxDischargeDepth := 9) [hs]
@[simp] theorem qualifySlot_inv (r : Rig) (k : FrameKind) (inRun : Bool) (hs : Inv s) : Inv (s.qualifySlot r k inRun) := by
  simp only [qualifySlot]
  (repeat' split) <;> simp (maxDischargeDepth := 9) [hs]
@[simp] theorem captureValid_inv (r : Rig) (f : InFrame) (slot : Word) (hs : Inv s) : Inv (s.captureValid r f slot) := by
  simp only [captureValid]
  split <;> simp (maxDischargeDepth := 9) [hs]
@[simp] theorem captureDiscard_inv (r : Rig) (d : Discard) (slot : Word) (hs : Inv s) : Inv (s.captureDiscard r d slot) := by
  simp only [captureDiscard]
  split <;> simp (maxDischargeDepth := 9) [hs]
@[simp] theorem validSlot_inv (r : Rig) (f : InFrame) (slot : Word) (hs : Inv s) : Inv (s.validSlot r f slot) := by
  have h1 := captureValid_inv r f slot hs
  simp only [validSlot]
  generalize s.captureValid r f slot = s1 at h1
  have h2 : Inv (s1.setRigHealth r { s1.monitor r with playing := playingAfter (s.monitor r) f, lastSeq := some f.seq }) := by
    simp (maxDischargeDepth := 9) [h1]
  simp (maxDischargeDepth := 30) [h2]
@[simp] theorem discardSlot_inv (r : Rig) (d : Discard) (slot : Word) (hs : Inv s) : Inv (s.discardSlot r d slot) := by
  have h1 := bucketSlot_inv r false (gapSlot_inv r false (captureDiscard_inv r d slot hs))
  simp only [discardSlot]
  have h2 := regrade_inv r .audio (startRecovery_inv r (!(s.monitor r).hard.isEmpty) h1)
  generalize State.regrade _ r _ = s2 at h2 ⊢
  split <;> simp (maxDischargeDepth := 9) [h2]
@[simp] theorem healthLinkDown_inv (r : Rig) (hs : Inv s) : Inv (s.healthLinkDown r) := by
  simp only [healthLinkDown]
  refine healthChange_inv _ _ _ (setRigHealth_inv hs ?_) ?_
  · simp [hs, HardOk, Reset.hard, HardSet.isEmpty]
  · simp [HardOk, Reset.hard, HardSet.isEmpty]
@[simp] theorem healthLinkUp_inv (r : Rig) (hs : Inv s) : Inv (s.healthLinkUp r) := by
  simp only [healthLinkUp]
  simp (maxDischargeDepth := 9) [hs]
@[simp] theorem recoveryReached_inv (r : Rig) (hs : Inv s) : Inv (s.recoveryReached r) := by
  simp only [recoveryReached]
  split <;> simp (maxDischargeDepth := 9) [hs]
@[simp] theorem softJumpReached_inv (r : Rig) (hs : Inv s) : Inv (s.softJumpReached r) := by
  simp only [softJumpReached]
  simp (maxDischargeDepth := 9) [hs]
@[simp] theorem recoveryTick_inv (r : Rig) (hs : Inv s) : Inv (s.recoveryTick r) := by
  simp only [recoveryTick]
  split
  · exact hs
  · rename_i n hn
    have h1 : n ≤ (s.monitor r).limits.recovery := by simpa [hn] using hs.recovery r
    have h2 := Nat.le_trans (Nat.sub_le n 1) h1
    split <;> simp (maxDischargeDepth := 9) [hs, h2]
@[simp] theorem softJumpTick_inv (r : Rig) (hs : Inv s) : Inv (s.softJumpTick r) := by
  simp only [softJumpTick]
  split
  · exact hs
  · rename_i n hn
    have h1 : n ≤ 4000 := by simpa [hn] using hs.softJump r
    have h2 := Nat.le_trans (Nat.sub_le n 1) h1
    split <;> simp (maxDischargeDepth := 9) [hs, h2]
@[simp] theorem readyTick_inv (r : Rig) (hs : Inv s) : Inv (s.readyTick r) := by
  simp only [readyTick]
  split <;> simp (maxDischargeDepth := 9) [hs]
@[simp] theorem healthPeriod_inv (r : Rig) (hs : Inv s) : Inv (s.healthPeriod r) := by
  simp only [healthPeriod]
  simp (maxDischargeDepth := 30) [hs]
@[simp] theorem noStart_inv (r : Rig) (hs : Inv s) : Inv (s.noStart r) := by
  simp only [noStart]
  split <;> simp (maxDischargeDepth := 9) [hs]
@[simp] theorem applyLimits_inv (r : Rig) (l : HealthLimits) (hl : limitsValid l = true) (hs : Inv s) : Inv (s.applyLimits r l) := by
  have h1 : ((s.monitor r).recovery.map (fun n => min n l.recovery)).getD 0 ≤ l.recovery := by
    cases (s.monitor r).recovery <;> simp [Nat.min_le_right]
  simp only [applyLimits]
  split <;> simp (maxDischargeDepth := 9) [hs, hl, h1]
@[simp] theorem requalifyTaken_inv (r : Rig) (hs : Inv s) : Inv (s.requalifyTaken r) := by
  simp only [requalifyTaken]
  (repeat' split) <;> simp (maxDischargeDepth := 9) [hs]
@[simp] theorem patchNotice_inv (r : Rig) (hs : Inv s) : Inv (s.patchNotice r) := by
  simp only [patchNotice]
  simp (maxDischargeDepth := 9) [hs, Nat.min_le_left]
/-! ## Player.lean -/

@[simp] theorem playerRetrack_inv (hs : Inv s) : Inv s.playerRetrack := by
  simp only [playerRetrack]
  split <;> simp (maxDischargeDepth := 9) [hs]
@[simp] theorem playerCueChange_inv (hs : Inv s) : Inv s.playerCueChange := by
  simp only [playerCueChange]
  simp (maxDischargeDepth := 9) [hs]
@[simp] theorem clearPrime_inv (hs : Inv s) : Inv s.clearPrime := by
  simp only [clearPrime]
  simp (maxDischargeDepth := 9) [hs]
@[simp] theorem primeUpdate_inv (hs : Inv s) : Inv s.primeUpdate := by
  simp only [primeUpdate]
  (repeat' split) <;> simp (maxDischargeDepth := 9) [hs]
@[simp] theorem recordChanged_inv (c : Nat) (hs : Inv s) : Inv (s.recordChanged c) := by
  simp only [recordChanged]
  (repeat' split) <;> simp (maxDischargeDepth := 9) [hs]
@[simp] theorem windowTrim_inv (hs : Inv s) : Inv s.windowTrim := by
  simp only [windowTrim]
  split <;> simp (maxDischargeDepth := 9) [hs]
@[simp] theorem windowDiscard_inv (hs : Inv s) : Inv s.windowDiscard := by
  simp only [windowDiscard]
  (repeat' split) <;> simp (maxDischargeDepth := 9) [hs]
@[simp] theorem windowRequest_inv (hs : Inv s) : Inv s.windowRequest := by
  simp only [windowRequest]
  split <;> simp (maxDischargeDepth := 9) [hs]
@[simp] theorem playerPeriod_inv (hs : Inv s) : Inv s.playerPeriod := by
  simp only [playerPeriod]
  simp (maxDischargeDepth := 30) [hs]
@[simp] theorem playerDeliver_inv (x : PageSlot) (hs : Inv s) : Inv (s.playerDeliver x) := by
  simp only [playerDeliver]
  (repeat' split) <;> simp (maxDischargeDepth := 9) [hs]
end State

/-! ## The alignment buffer's records -/

theorem ringAppend_length {l : List RingEntry} (h : l.length ≤ 64) (e : RingEntry) : (ringAppend l e).length ≤ 64 := by
  unfold ringAppend
  split <;> simp_all [Config.ringSize] <;> omega

theorem AlignRig.arrive_ok {a : AlignRig} (h : RigOk a) (f : InFrame) (slot : Word) : RigOk (a.arrive f slot) := by
  unfold AlignRig.arrive
  (repeat' split)
  · exact h
  · exact ⟨ringAppend_length h.1 _, h.2⟩
  · exact h
  · exact h

@[simp] theorem Reset.step_ok : StepOk Reset.step := ⟨rfl, rfl, rfl⟩
@[simp] theorem inStepAt_ok (k : Int) : StepOk (inStepAt k) := ⟨rfl, Nat.zero_le _, rfl⟩

theorem StepRec.matched_ok {x : StepRec} (h : StepOk x) (k : Int) : StepOk (x.matched k) := by
  unfold StepRec.matched
  split
  · by_cases h32 : 32 ≤ x.streak + 1
    · simp only [h32, if_true, StepOk]
      exact ⟨by omega, Nat.zero_le _, rfl⟩
    · simp only [h32, if_false, StepOk]
      exact ⟨by omega, by omega, Nat.zero_le _, rfl⟩
  · simp [StepOk]

theorem StepRec.miss_ok {x : StepRec} (h : StepOk x) (hm : ¬3 ≤ x.miss + 1) (ho : x.state ≠ .outOfStep) :
    StepOk { x with miss := x.miss + 1 } := by
  unfold StepOk at h ⊢
  cases hs : x.state <;> simp_all <;> omega

namespace State

variable {s : State}

@[simp] theorem stepLostEvent_inv (r : Rig) (skew : Option Int) (h : Inv s) : Inv (s.stepLostEvent r skew) := by
  simp only [stepLostEvent]
  split <;> simp (maxDischargeDepth := 9) [h]

@[simp] theorem stepLostNow_inv (r : Rig) (h : Inv s) : Inv (s.stepLostNow r) := stepLostEvent_inv _ _ (setStep_inv h Reset.step_ok)

@[simp] theorem stepMiss_inv (r : Rig) (h : Inv s) : Inv (s.stepMiss r) := by
  simp only [stepMiss]
  split
  · exact h
  · split
    · exact stepLostNow_inv r h
    · rename_i h1 h2
      exact setStep_inv h (StepRec.miss_ok (h.stepRec r) h2 h1)

@[simp] theorem stepEvaluate_inv (r : Rig) (h : Inv s) : Inv (s.stepEvaluate r) := by
  simp only [stepEvaluate]
  split
  · exact setStep_inv h (StepRec.matched_ok (h.stepRec r) _)
  · exact stepMiss_inv r h

@[simp] theorem stepRig_inv (r : Rig) (h : Inv s) : Inv (s.stepRig r) := by
  simp only [stepRig]
  split <;> simp (maxDischargeDepth := 9) [h]

@[simp] theorem stepPeriod_inv (h : Inv s) : Inv s.stepPeriod := stepRig_inv .b (stepRig_inv .a h)

theorem stopped_prog (h : Inv s) (hs : s.prog.state = .stopped) :
    s.prog.pos = { cue := 0, pos := 0 } ∧ s.prog.due = none ∧ s.prog.anchorPending = false := by
  have hp := h.prog
  simp only [ProgOk, hs] at hp
  exact hp

theorem playing_prog (h : Inv s) (hs : s.playing = true) : s.prog.due.isSome = true ∧ s.prog.held = none := by
  have hp := h.prog
  unfold playing at hs
  cases hst : s.prog.state <;> simp_all [ProgOk]

@[simp] theorem alignArrive_inv (r : Rig) (f : InFrame) (slot : Word) (h : Inv s) : Inv (s.alignArrive r f slot) := by
  simp only [alignArrive]
  have h1 : Inv (s.setAlignRig r ((s.rig r).arrive f slot)) := setAlignRig_inv h (AlignRig.arrive_ok (h.rig r) f slot)
  split
  · rename_i ht
    refine setProg_inv h1 ?_
    have hs : s.prog.state = .stopped := by
      simp only [takesAnchor, Bool.and_eq_true, beq_iff_eq] at ht
      exact ht.1.1.1.1.1.2
    have hp := stopped_prog h hs
    simp only [setAlignRig_prog, ProgOk, hs]
    exact hp
  · exact h1

theorem prog_held_none (h : ProgOk p) : ProgOk { p with held := none } := by
  unfold ProgOk at h ⊢
  cases hs : p.state <;> simp_all

@[simp] theorem alignLinkLost_inv (r : Rig) (h : Inv s) : Inv (s.alignLinkLost r) := by
  simp only [alignLinkLost]
  have h1 : Inv (s.setAlignRig r { s.rig r with ring := [], stopMark := none, newestAudio := none, step := Reset.step }) :=
    setAlignRig_inv h ⟨Nat.zero_le _, Reset.step_ok⟩
  split
  · split
    · exact setProg_inv h1 (prog_held_none h1.prog)
    · exact h1
  · exact h1

@[simp] theorem leaveTiming_inv (old : Source) (x : StepRec) (hx : StepOk x) (h : Inv s) : Inv (s.leaveTiming old x) := by
  simp only [leaveTiming]
  split
  · exact h
  · split
    · exact setStep_inv h hx
    · exact setStep_inv h Reset.step_ok

@[simp] theorem leaveTiming_prog (old : Source) (x : StepRec) : (s.leaveTiming old x).prog = s.prog := by
  simp only [leaveTiming]
  split
  · rfl
  · rfl

theorem timingStopped_inv (old : Source) (h : Inv s) (hs : s.playing = false) : Inv (s.timingStopped old) := by
  simp only [timingStopped]
  refine setProg_inv (leaveTiming_inv old _ Reset.step_ok h) ?_
  have hst : s.prog.state = .stopped := by
    unfold playing at hs
    cases hst : s.prog.state <;> simp_all
  have hp := stopped_prog h hst
  simp only [ProgOk, hst]
  exact hp

theorem timingChange_inv (old new : Source) (hard : Bool) (h : Inv s) : Inv (s.timingChange old new hard) := by
  simp only [timingChange]
  split
  · exact h
  · split
    · rename_i hs
      exact timingStopped_inv old h hs
    · rename_i hs
      have hp := playing_prog h (by simpa using hs)
      split
      · simp only [timingFree]
        exact setProg_inv (leaveTiming_inv old _ (inStepAt_ok 0) h) (by simpa [ProgOk] using hp)
      · split
        · simp only [timingHard]
          exact setProg_inv (leaveTiming_inv old _ Reset.step_ok h) (by simpa [ProgOk] using hp.2)
        · simp only [timingSeamless]
          refine setProg_inv (leaveTiming_inv old _ (inStepAt_ok _) h) ?_
          cases hd : s.prog.due with
          | none => simp [hd] at hp
          | some d => simpa [ProgOk, hd] using hp.2

end State

end Sys2Proof.Machine
end

