-- ==== Sys2Proof/Laws/KeepSwitch.lean ====
section
/-! SUPPORT. The switch controller: each operation keeps Inv. -/

namespace Sys2Proof.Machine

/-! ## The journal (R96) -/

theorem Journal.push_ok {j : Journal} (h : JournalOk j) {e : JournalEntry} (he : e.number = j.next) : JournalOk (j.push e) := by
  obtain ⟨hl, hn⟩ := h
  have back (n : Nat) : j.next + 1 - BitVec.ofNat 16 (n + 1) = j.next - BitVec.ofNat 16 n := by
    have h1 : BitVec.ofNat 16 (n + 1) = BitVec.ofNat 16 n + 1 := by rw [BitVec.ofNat_add]; rfl
    rw [h1]
    bv_omega
  have key (l : List JournalEntry) (h63 : l.length ≤ 63)
      (hk : ∀ i (hi : i < l.length), (l[i]).number = j.next - BitVec.ofNat 16 (l.length - i)) :
      JournalOk { entries := l ++ [e], next := j.next + 1 } := by
    refine ⟨by simp only [List.length_append, List.length_singleton]; omega, ?_⟩
    intro i hi
    simp only [List.length_append, List.length_singleton] at hi ⊢
    by_cases hi2 : i < l.length
    · rw [List.getElem_append_left hi2, hk i hi2, show l.length + 1 - i = l.length - i + 1 by omega, back]
    · have hi3 : i = l.length := by omega
      subst hi3
      rw [List.getElem_append_right (by omega)]
      simp only [Nat.sub_self, List.getElem_singleton, he, Nat.add_sub_cancel_left]
      exact (by simpa using (back 0).symm)
  unfold Journal.push
  split
  · rename_i hf
    simp only [Config.journalSize] at hf
    refine key _ (by simp only [List.length_drop]; omega) ?_
    intro i hi
    simp only [List.length_drop] at hi ⊢
    rw [List.getElem_drop, hn, show j.entries.length - (1 + i) = j.entries.length - 1 - i by omega]
  · rename_i hf
    simp only [Config.journalSize] at hf
    exact key _ (by omega) hn

namespace State

variable {s : State}

@[simp] theorem journalAdd_inv (g : Fin 8) (o t : Source) (w : SwitchInfo) (hs : Inv s) : Inv (s.journalAdd g o t w) :=
  setCtl_inv hs (Journal.push_ok hs.journal rfl)

@[simp] theorem timingChange_keeps (old new : Source) (hard : Bool) (h : Inv s) : Inv (s.timingChange old new hard) :=
  timingChange_inv old new hard h
/-! ## Switch.lean -/

@[simp] theorem stampPeriod_inv (hs : Inv s) : Inv s.stampPeriod := by
  simp only [stampPeriod]
  simp [hs]
@[simp] theorem changeVector_inv (g : Fin 8) (src : Source) (eff : ShowPos) (fade : Nat) (u : Urgency) (hs : Inv s) : Inv (s.changeVector g src eff fade u) := by
  simp only [changeVector]
  split <;> simp [hs]
@[simp] theorem vectorNow_inv (g : Fin 8) (fade : Nat) (hs : Inv s) : Inv (s.vectorNow g fade) := by
  simp only [vectorNow]
  simp [hs]
@[simp] theorem place_inv (g : Fin 8) (st : GroupState) (hard : Bool) (hs : Inv s) : Inv (s.place g st hard) := by
  simp only [place]
  split <;> simp [hs]
@[simp] theorem carry_inv (g : Fin 8) (o : Source) (st : GroupState) (hard : Bool) (h : Nat) (w : SwitchInfo) (tell : Bool) (hs : Inv s) : Inv (s.carry g o st hard h w tell) := by
  simp only [carry]
  (repeat' split) <;> simp (maxDischargeDepth := 30) [hs]
@[simp] theorem mutedFault_inv (g : Fin 8) (left t : Source) (hs : Inv s) : Inv (s.mutedFault g left t) := by
  simp only [mutedFault]
  split <;> simp [hs]
@[simp] theorem carryRequest_inv (g : Fin 8) (c : Cause) (q : SwitchReq) (t : Source) (atLimit : Bool) (hs : Inv s) : Inv (s.carryRequest g c q t atLimit) := by
  simp only [carryRequest]
  split <;> simp [hs]
@[simp] theorem fadeDone_inv (g : Fin 8) (hs : Inv s) : Inv (s.fadeDone g) := by
  simp only [fadeDone]
  split <;> simp [hs]
@[simp] theorem fadeProgress_inv (g : Fin 8) (hs : Inv s) : Inv (s.fadeProgress g) := by
  simp only [fadeProgress]
  (repeat' split) <;> simp [hs]
@[simp] theorem fadeToThird_inv (g : Fin 8) (o d : Source) (n : Nat) (start : Word) (c : Cause) (q : SwitchReq) (t : Source) (hs : Inv s) : Inv (s.fadeToThird g o d n start c q t) := by
  simp only [fadeToThird]
  simp [hs]
@[simp] theorem fadeFailed_inv (g : Fin 8) (o d : Source) (c : Cause) (hs : Inv s) : Inv (s.fadeFailed g o d c) := by
  simp only [fadeFailed]
  simp [hs]
@[simp] theorem fadeReturn_inv (g : Fin 8) (o d : Source) (n : Nat) (start : Word) (c : Cause) (hs : Inv s) : Inv (s.fadeReturn g o d n start c) := by
  simp only [fadeReturn]
  simp [hs]
@[simp] theorem cutShort_inv (g : Fin 8) (o d : Source) (c : Cause) (hs : Inv s) : Inv (s.cutShort g o d c) := by
  simp only [cutShort]
  simp [hs]

@[simp] theorem destinationFailed_inv (g : Fin 8) (o d : Source) (n : Nat) (start : Word) (ret : Bool) (c : Cause) (hs : Inv s) : Inv (s.destinationFailed g o d n start ret c) := by
  simp only [destinationFailed]
  (repeat' split) <;> simp [hs]
@[simp] theorem fadeWatch_inv (g : Fin 8) (hs : Inv s) : Inv (s.fadeWatch g).1 := by
  simp only [fadeWatch]
  (repeat' split) <;> simp_all (maxDischargeDepth := 30)
@[simp] theorem latchHealth_inv (g : Fin 8) (u : Urgency) (hs : Inv s) : Inv (s.latchHealth g u) := by
  simp only [latchHealth]
  split <;> simp [hs]
@[simp] theorem needNow_inv (g : Fin 8) (hs : Inv s) : Inv (s.needNow g) := by
  simp only [needNow]
  split <;> simp [hs]
@[simp] theorem dropCause_inv (g : Fin 8) (c : Cause) (hs : Inv s) : Inv (s.dropCause g c) := by
  simp only [dropCause]
  simp [hs]
@[simp] theorem latchNow_inv (g : Fin 8) (hs : Inv s) : Inv (s.latchNow g) := by
  simp only [latchNow]
  split <;> simp [hs]
@[simp] theorem needsSuspect_inv (g : Fin 8) (hs : Inv s) : Inv (s.needsSuspect g) := by
  simp only [needsSuspect]
  split <;> simp [hs]
@[simp] theorem dropMoved_inv (g : Fin 8) (hs : Inv s) : Inv (s.dropMoved g) := by
  simp only [dropMoved]
  split <;> simp [hs]
@[simp] theorem needsMute_inv (g : Fin 8) (hs : Inv s) : Inv (s.needsMute g) := by
  simp only [needsMute]
  (repeat' split) <;> simp [hs]
@[simp] theorem needsPlaying_inv (g : Fin 8) (src : Source) (hs : Inv s) : Inv (s.needsPlaying g src) := by
  simp only [needsPlaying]
  (repeat' split) <;> simp [hs]
@[simp] theorem needsRevert_inv (g : Fin 8) (src : Source) (hs : Inv s) : Inv (s.needsRevert g src) := by
  simp only [needsRevert]
  (repeat' split) <;> simp [hs]
@[simp] theorem needsStopped_inv (g : Fin 8) (src : Source) (candidate : Bool) (hs : Inv s) : Inv (s.needsStopped g src candidate) := by
  simp only [needsStopped]
  (repeat' split) <;> simp (maxDischargeDepth := 30) [hs]
@[simp] theorem needs_inv (g : Fin 8) (candidate : Bool) (hs : Inv s) : Inv (s.needs g candidate).1 := by
  simp only [needs]
  (repeat' split) <;> simp_all (maxDischargeDepth := 30)
@[simp] theorem limitHit_inv (g : Fin 8) (hs : Inv s) : Inv (s.limitHit g) := by
  simp only [limitHit]
  split <;> simp [hs]
@[simp] theorem deferral_inv (g : Fin 8) (fresh : Bool) (hs : Inv s) : Inv (s.deferral g fresh) := by
  simp only [deferral]
  (repeat' split) <;> simp [hs]
@[simp] theorem satisfied_inv (g : Fin 8) (c : Cause) (q : SwitchReq) (hs : Inv s) : Inv (s.satisfied g c q) := by
  simp only [satisfied]
  simp [hs]
@[simp] theorem serve_inv (g : Fin 8) (b w : Bool) (l : List (Cause × SwitchReq)) (hs : Inv s) : Inv (s.serve g b w l) := by
  induction l generalizing s with
  | nil => exact hs
  | cons x m ih =>
    simp only [serve]
    (repeat' split) <;> simp_all (maxDischargeDepth := 30)
@[simp] theorem serveFading_inv (g : Fin 8) (o d : Source) (n : Nat) (start : Word) (b w : Bool) (l : List (Cause × SwitchReq)) (hs : Inv s) :
    Inv (s.serveFading g o d n start b w l) := by
  induction l generalizing s with
  | nil => exact hs
  | cons x m ih =>
    simp only [serveFading]
    (repeat' split) <;> simp_all (maxDischargeDepth := 30)
@[simp] theorem service_inv (g : Fin 8) (b w : Bool) (hs : Inv s) : Inv (s.service g b w) := by
  simp only [service]
  (repeat' split) <;> simp_all (maxDischargeDepth := 30)
@[simp] theorem dropPlaced_inv (g : Fin 8) (p : Placed) (hs : Inv s) : Inv (s.dropPlaced g p) := by
  simp only [dropPlaced]
  simp [hs]
@[simp] theorem satisfyPlaced_inv (g : Fin 8) (hs : Inv s) : Inv (s.satisfyPlaced g) := by
  simp only [satisfyPlaced]
  (repeat' split) <;> simp [hs]
@[simp] theorem placedCarry_inv (g : Fin 8) (p : Placed) (outcome : Option SwitchOutcome) (tell : Bool) (hs : Inv s) : Inv (s.placedCarry g p outcome tell) := by
  simp only [placedCarry]
  simp [hs]
@[simp] theorem placedWithdraw_inv (g : Fin 8) (p : Placed) (hs : Inv s) : Inv (s.placedWithdraw g p) := by
  simp only [placedWithdraw]
  simp [hs]
@[simp] theorem placedReopen_inv (g : Fin 8) (p : Placed) (cueChanged : Bool) (hs : Inv s) : Inv (s.placedReopen g p cueChanged) := by
  simp only [placedReopen]
  (repeat' split) <;> simp [hs]
@[simp] theorem placedMove_inv (g : Fin 8) (p : Placed) (hs : Inv s) : Inv (s.placedMove g p) := by
  simp only [placedMove]
  split <;> simp [hs]
@[simp] theorem placedJudge_inv (g : Fin 8) (p : Placed) (hs : Inv s) : Inv (s.placedJudge g p) := by
  simp only [placedJudge]
  (repeat' split) <;> simp [hs]
@[simp] theorem placedStep_inv (g : Fin 8) (p : Placed) (cueChanged : Bool) (hs : Inv s) : Inv (s.placedStep g p cueChanged) := by
  simp only [placedStep]
  (repeat' split) <;> simp [hs]
@[simp] theorem placeRequest_inv (g : Fin 8) (c : Cause) (q : SwitchReq) (t : Source) (hs : Inv s) : Inv (s.placeRequest g c q t) := by
  simp only [placeRequest]
  split <;> simp [hs]
@[simp] theorem placeFirst_inv (g : Fin 8) (l : List (Cause × SwitchReq)) (hs : Inv s) : Inv (s.placeFirst g l) := by
  induction l generalizing s with
  | nil => exact hs
  | cons x m ih =>
    simp only [placeFirst]
    (repeat' split) <;> simp_all (maxDischargeDepth := 30)
@[simp] theorem placement_inv (g : Fin 8) (b : Bool) (hs : Inv s) : Inv (s.placement g b) := by
  simp only [placement]
  (repeat' split) <;> simp_all (maxDischargeDepth := 30)
@[simp] theorem flagEmergency_inv (g : Fin 8) (hs : Inv s) : Inv (s.flagEmergency g) := by
  simp only [flagEmergency]
  simp [hs]
@[simp] theorem emergency_inv (g : Fin 8) (src : Source) (hs : Inv s) : Inv (s.emergency g src) := by
  simp only [emergency]
  (repeat' split) <;> simp (maxDischargeDepth := 30) [hs]
@[simp] theorem joinedWatch_inv (g : Fin 8) (hs : Inv s) : Inv (s.joinedWatch g) := by
  simp only [joinedWatch]
  (repeat' split) <;> simp [hs]
@[simp] theorem applied_inv (g : Fin 8) (w : Waiting) (hs : Inv s) : Inv (s.applied g w) := by
  simp only [applied]
  simp [hs]
@[simp] theorem gangSwitch_inv (g : Fin 8) (w : Waiting) (late : Bool) (hs : Inv s) : Inv (s.gangSwitch g w late) := by
  simp only [gangSwitch]
  (repeat' split) <;> simp [hs]
@[simp] theorem gangApply_inv (g : Fin 8) (w : Waiting) (passed : Bool) (hs : Inv s) : Inv (s.gangApply g w passed) := by
  simp only [gangApply]
  (repeat' split) <;> simp (maxDischargeDepth := 30) [hs]
@[simp] theorem waitingPoint_inv (g : Fin 8) (cueChanged : Bool) (hs : Inv s) : Inv (s.waitingPoint g cueChanged) := by
  simp only [waitingPoint]
  (repeat' split) <;> simp [hs]
@[simp] theorem joinedService_inv (g : Fin 8) (hs : Inv s) : Inv (s.joinedService g) := by
  simp only [joinedService]
  (repeat' split) <;> simp [hs]
@[simp] theorem joinedGroup_inv (g : Fin 8) (cueChanged : Bool) (hs : Inv s) : Inv (s.joinedGroup g cueChanged) := by
  simp only [joinedGroup]
  simp (maxDischargeDepth := 30) [hs]
@[simp] theorem ownGroup_inv (g : Fin 8) (b c : Bool) (hs : Inv s) : Inv (s.ownGroup g b c) := by
  simp only [ownGroup]
  simp (maxDischargeDepth := 30) [hs]
@[simp] theorem groupStep_inv (b c : Bool) (g : Fin 8) (hs : Inv s) : Inv (groupStep b c s g) := by
  simp only [groupStep]
  (repeat' split) <;> simp_all (maxDischargeDepth := 30)

/-- A fold of an operation that keeps Inv keeps it. -/
theorem foldl_inv {α : Type} (f : State → α → State) (hf : ∀ s x, Inv s → Inv (f s x)) (l : List α) (hs : Inv s) : Inv (l.foldl f s) := by
  induction l generalizing s with
  | nil => exact hs
  | cons x m ih => exact ih (hf s x hs)

@[simp] theorem controllerPeriod_inv (b c : Bool) (hs : Inv s) : Inv (s.controllerPeriod b c) :=
  foldl_inv _ (fun _ g => groupStep_inv b c g) _ (stampPeriod_inv hs)
@[simp] theorem forceGroup_inv (t : Source) (u : Urgency) (hard : Bool) (g : Fin 8) (hs : Inv s) : Inv (s.forceGroup t u hard g) := by
  simp only [forceGroup]
  split <;> simp [hs]
@[simp] theorem releaseGroup_inv (g : Fin 8) (hs : Inv s) : Inv (s.releaseGroup g) := by
  simp only [releaseGroup]
  simp [hs]
@[simp] theorem stopGroup_inv (g : Fin 8) (hs : Inv s) : Inv (s.stopGroup g) := by
  simp only [stopGroup]
  split <;> simp [hs]
@[simp] theorem stopGroups_inv (hs : Inv s) : Inv s.stopGroups := foldl_inv _ (fun _ g => stopGroup_inv g) _ hs
@[simp] theorem clearTables_inv (hs : Inv s) : Inv s.clearTables := setCtl_inv hs hs.journal
end State

end Sys2Proof.Machine
end

