-- ==== Sys2Proof/Laws/KeepProgram.lean ====
section
/-! SUPPORT. The cue map, the program, output assembly and the framer: each operation keeps Inv. -/

namespace Sys2Proof.Machine

/-! ## The cue map (R46, R49 to R52) -/

theorem CueMap.hasRecord_iff (m : CueMap) (c : Nat) : m.hasRecord c = true ↔ ∃ r ∈ m.records, r.cue = c := by
  simp [CueMap.hasRecord, CueMap.record, List.find?_isSome]

theorem mem_putRecord {r x : CueRecord} {l : List CueRecord} (h : x ∈ putRecord r l) : x = r ∨ x ∈ l := by
  induction l with
  | nil => simpa [putRecord] using h
  | cons y m ih =>
    simp only [putRecord] at h
    split at h
    · simpa using h
    · split at h
      · rcases List.mem_cons.mp h with h | h
        · exact Or.inl h
        · exact Or.inr (by simp [h])
      · rcases List.mem_cons.mp h with h | h
        · exact Or.inr (by simp [h])
        · rcases ih h with h | h
          · exact Or.inl h
          · exact Or.inr (by simp [h])

/-- R46: the records stay sorted. -/
theorem putRecord_sorted (r : CueRecord) {l : List CueRecord} (h : l.Pairwise (fun x y => x.cue < y.cue)) :
    (putRecord r l).Pairwise (fun x y => x.cue < y.cue) := by
  induction l with
  | nil => simp [putRecord]
  | cons y m ih =>
    have hy := List.pairwise_cons.mp h
    simp only [putRecord]
    split
    · rename_i hr
      refine List.pairwise_cons.mpr ⟨?_, h⟩
      intro z hz
      rcases List.mem_cons.mp hz with hz | hz
      · exact hz ▸ hr
      · exact Nat.lt_trans hr (hy.1 z hz)
    · split
      · rename_i hr
        exact List.pairwise_cons.mpr ⟨fun z hz => hr ▸ hy.1 z hz, hy.2⟩
      · refine List.pairwise_cons.mpr ⟨?_, ih hy.2⟩
        intro z hz
        rcases mem_putRecord hz with hz | hz
        · subst hz; omega
        · exact hy.1 z hz

theorem putRecord_length_le (r : CueRecord) (l : List CueRecord) : (putRecord r l).length ≤ l.length + 1 := by
  induction l with
  | nil => simp [putRecord]
  | cons y m ih =>
    simp only [putRecord]
    split
    · simp
    · split
      · simp
      · simpa using ih

/-- Putting a record over an old one of its cue leaves as many. -/
theorem putRecord_length_same (r : CueRecord) {l : List CueRecord} (h : l.Pairwise (fun x y => x.cue < y.cue)) (hm : ∃ x ∈ l, x.cue = r.cue) :
    (putRecord r l).length = l.length := by
  induction l with
  | nil => obtain ⟨x, hx, _⟩ := hm; cases hx
  | cons y m ih =>
    have hy := List.pairwise_cons.mp h
    simp only [putRecord]
    obtain ⟨x, hx, hc⟩ := hm
    rcases List.mem_cons.mp hx with hx | hx
    · subst hx
      have h1 : ¬r.cue < x.cue := by omega
      rw [if_neg h1, if_pos hc.symm]
      rfl
    · have hlt := hy.1 x hx
      have h1 : ¬r.cue < y.cue := by omega
      have h2 : ¬r.cue = y.cue := by omega
      simp only [h1, if_false, h2, List.length_cons]
      rw [ih hy.2 ⟨x, hx, hc⟩]

theorem putRecords_ok {l : List CueRecord} (h : l.Pairwise (fun x y => x.cue < y.cue)) (hv : ∀ r ∈ l, CueRecordValid r = true) {r : CueRecord}
    (hr : CueRecordValid r = true) : (putRecord r l).Pairwise (fun x y => x.cue < y.cue) ∧ ∀ x ∈ putRecord r l, CueRecordValid x = true :=
  ⟨putRecord_sorted r h, fun _ hx => (mem_putRecord hx).elim (fun e => e ▸ hr) (hv _)⟩

theorem dropRecord_ok (c : Nat) {l : List CueRecord} (h : l.Pairwise (fun x y => x.cue < y.cue)) (hv : ∀ r ∈ l, CueRecordValid r = true) :
    (dropRecord c l).Pairwise (fun x y => x.cue < y.cue) ∧ (∀ x ∈ dropRecord c l, CueRecordValid x = true) ∧ (dropRecord c l).length ≤ l.length :=
  ⟨h.sublist List.filter_sublist, fun x hx => hv x (List.mem_filter.mp hx).1, List.length_filter_le _ _⟩

@[simp] theorem CueMap.applyStaged_staged (m : CueMap) : m.applyStaged.staged = none := by
  unfold CueMap.applyStaged
  split
  · assumption
  · split <;> rfl

/-- The map with the staged slot empty, whatever cue is in use. -/
theorem CueMap.applyStaged_ok {m : CueMap} (h : CuesOk m) (c : Option Nat) : CuesOk { m.applyStaged with inUse := c } := by
  obtain ⟨hs, hv, ho, hst⟩ := h
  have key (l : List CueRecord) (h1 : l.Pairwise (fun x y => x.cue < y.cue)) (h2 : ∀ r ∈ l, CueRecordValid r = true) (h3 : l.length ≤ 256) :
      CuesOk { records := l, staged := none, inUse := c } :=
    ⟨h1, h2, by simpa [CueMap.occupancy] using h3, fun x hx => by simp at hx⟩
  cases hx : m.staged with
  | none =>
    have e : ({ m.applyStaged with inUse := c } : CueMap) = { records := m.records, staged := none, inUse := c } := by
      simp [CueMap.applyStaged, hx]
    rw [e]
    exact key _ hs hv (by simpa [CueMap.occupancy, hx] using ho)
  | some x =>
    obtain ⟨_, hn, ha⟩ := hst x hx
    simp only [CueMap.occupancy, hx] at ho
    cases hact : x.action with
    | write p =>
      rw [hact] at ha
      have e : ({ m.applyStaged with inUse := c } : CueMap)
          = { records := putRecord { cue := x.cue, policy := p } m.records, staged := none, inUse := c } := by
        simp [CueMap.applyStaged, hx, hact]
      have hp := putRecords_ok hs hv ha
      rw [e]
      refine key _ hp.1 hp.2 ?_
      cases hnew : x.isNew with
      | true =>
        have hl := putRecord_length_le { cue := x.cue, policy := p } m.records
        simp only [hnew, if_true] at ho
        omega
      | false =>
        have hr : m.hasRecord x.cue = true := by simpa [hnew] using hn
        have hl := putRecord_length_same { cue := x.cue, policy := p } hs ((CueMap.hasRecord_iff _ _).mp hr)
        omega
    | delete =>
      have e : ({ m.applyStaged with inUse := c } : CueMap) = { records := dropRecord x.cue m.records, staged := none, inUse := c } := by
        simp [CueMap.applyStaged, hx, hact]
      have hd := dropRecord_ok x.cue hs hv
      rw [e]
      exact key _ hd.1 hd.2.1 (by omega)

/-- A change of the staged slot alone. -/
theorem CuesOk.setStaged {m : CueMap} (h : CuesOk m) {x : Option Staged} (ho : ({ m with staged := x } : CueMap).occupancy ≤ 256)
    (hx : ∀ y, x = some y → StagedOk m y) : CuesOk { m with staged := x } :=
  ⟨h.1, h.2.1, ho, fun y hy => hx y hy⟩

theorem firstBadField_none {r : CueRecord} (h : firstBadField r = none) : CueRecordValid r = true := by simp [CueRecordValid, h]

/-- A record put or dropped away from the cue in use leaves what the staged slot says true. -/
theorem CuesOk.setRecords {m : CueMap} (h : CuesOk m) {l : List CueRecord} {c : Nat} (hu : m.inUse ≠ some c)
    (hs : l.Pairwise (fun x y => x.cue < y.cue)) (hv : ∀ r ∈ l, CueRecordValid r = true)
    (ho : ({ m with records := l } : CueMap).occupancy ≤ 256) (hk : ∀ d, d ≠ c → ({ m with records := l } : CueMap).hasRecord d = m.hasRecord d) :
    CuesOk { m with records := l } := by
  refine ⟨hs, hv, ho, ?_⟩
  intro x hx
  obtain ⟨h1, h2, h3⟩ := h.2.2.2 x hx
  refine ⟨h1, ?_, h3⟩
  rw [hk x.cue (by intro e; exact hu (e ▸ h1))]
  exact h2

theorem mem_putRecord_of_ne {r x : CueRecord} {l : List CueRecord} (h : x ∈ l) (hc : x.cue ≠ r.cue) : x ∈ putRecord r l := by
  induction l with
  | nil => cases h
  | cons y m ih =>
    simp only [putRecord]
    split
    · simp [h]
    · split
      · rename_i hr
        rcases List.mem_cons.mp h with h | h
        · exact absurd (h ▸ hr.symm) hc
        · simp [h]
      · rcases List.mem_cons.mp h with h | h
        · simp [h]
        · simp [ih h]

theorem putRecord_hasRecord (m : CueMap) (r : CueRecord) (d : Nat) (h : d ≠ r.cue) :
    ({ m with records := putRecord r m.records } : CueMap).hasRecord d = m.hasRecord d := by
  rw [Bool.eq_iff_iff, CueMap.hasRecord_iff, CueMap.hasRecord_iff]
  constructor
  · rintro ⟨x, hx, hc⟩
    rcases mem_putRecord hx with hx | hx
    · exact absurd (hx ▸ hc).symm h
    · exact ⟨x, hx, hc⟩
  · rintro ⟨x, hx, hc⟩
    exact ⟨x, mem_putRecord_of_ne hx (hc ▸ h), hc⟩

theorem dropRecord_hasRecord (m : CueMap) (c d : Nat) (h : d ≠ c) :
    ({ m with records := dropRecord c m.records } : CueMap).hasRecord d = m.hasRecord d := by
  rw [Bool.eq_iff_iff, CueMap.hasRecord_iff, CueMap.hasRecord_iff]
  constructor
  · rintro ⟨x, hx, hc⟩
    exact ⟨x, (List.mem_filter.mp hx).1, hc⟩
  · rintro ⟨x, hx, hc⟩
    exact ⟨x, List.mem_filter.mpr ⟨hx, by simpa using hc ▸ h⟩, hc⟩

theorem CueMap.write_ok {m : CueMap} (h : CuesOk m) (r : CueRecord) : CuesOk (m.write r).map := by
  unfold CueMap.write
  split
  · exact h
  · rename_i hb
    have hv := firstBadField_none hb
    split
    · rename_i hu
      split
      · rename_i hr
        refine h.setStaged ?_ ?_
        · have := h.2.2.1
          simp only [CueMap.occupancy] at this ⊢
          simp only [Bool.false_eq_true, if_false]
          omega
        · intro y hy
          cases hy
          exact ⟨hu, by simp [hr], hv⟩
      · rename_i hr
        have hr' : m.hasRecord r.cue = false := by simpa using hr
        split
        · rename_i ho
          refine h.setStaged ?_ ?_
          · have h1 := h.2.2.1
            simp only [CueMap.occupancy, CueMap.stagedNew, Config.cueRecords, if_true] at ho h1 ⊢
            cases hx : m.staged with
            | none => simp [hx] at ho h1 ⊢; omega
            | some x =>
              cases hn : x.isNew with
              | true => simp [hx, hn] at ho h1 ⊢; omega
              | false => simp [hx, hn] at ho h1 ⊢; omega
          · intro y hy
            cases hy
            exact ⟨hu, by simp [hr'], hv⟩
        · exact h
    · rename_i hu
      split
      · rename_i ho
        have hp := putRecords_ok h.1 h.2.1 hv
        refine h.setRecords hu hp.1 hp.2 ?_ (putRecord_hasRecord m r)
        have h1 := h.2.2.1
        rcases Bool.eq_false_or_eq_true (m.hasRecord r.cue) with hr | hr
        · have hl := putRecord_length_same r h.1 ((CueMap.hasRecord_iff _ _).mp hr)
          simp only [CueMap.occupancy, hl] at h1 ⊢
          exact h1
        · have hl := putRecord_length_le r m.records
          simp only [hr, Bool.false_eq_true, false_or, CueMap.occupancy, Config.cueRecords] at ho ⊢
          omega
      · exact h

theorem CueMap.delete_ok {m : CueMap} (h : CuesOk m) (c : Nat) : CuesOk (m.delete c).map := by
  unfold CueMap.delete
  split
  · rename_i hu
    split
    · rename_i hr
      refine h.setStaged ?_ ?_
      · have := h.2.2.1
        simp only [CueMap.occupancy] at this ⊢
        simp only [Bool.false_eq_true, if_false]
        omega
      · intro y hy
        cases hy
        exact ⟨hu, by simp [hr], rfl⟩
    · split
      · refine h.setStaged ?_ (fun y hy => by simp at hy)
        have := h.2.2.1
        simp only [CueMap.occupancy] at this ⊢
        omega
      · exact h
  · rename_i hu
    split
    · have hd := dropRecord_ok c h.1 h.2.1
      refine h.setRecords hu hd.1 hd.2.1 ?_ (fun d hd => dropRecord_hasRecord m c d hd)
      have := h.2.2.1
      have hl := hd.2.2
      simp only [CueMap.occupancy] at this ⊢
      omega
    · exact h

/-! ## The program (R7 to R15) -/

theorem ProgOk.same {p q : Program} (h : ProgOk p) (h1 : q.state = p.state) (h2 : q.pos = p.pos) (h3 : q.due = p.due)
    (h4 : q.anchorPending = p.anchorPending) (h5 : q.held = p.held) : ProgOk q := by
  simpa [ProgOk, h1, h2, h3, h4, h5] using h

theorem ProgOk.playing {p : Program} (h1 : p.state ≠ .stopped) (h2 : p.due.isSome = true) (h3 : p.held = none) : ProgOk p := by
  unfold ProgOk
  cases hs : p.state <;> simp_all

namespace State

variable {s : State}

@[simp] theorem recordChanged_cues (c : Nat) : (s.recordChanged c).cues = s.cues := by
  simp only [recordChanged]
  (repeat' split) <;> rfl

@[simp] theorem applyEdit_inv (hs : Inv s) : Inv s.applyEdit := by
  unfold applyEdit
  split
  · exact hs
  · exact recordChanged_inv _ (setCues_inv hs (CueMap.applyStaged_ok hs.cues s.cues.applyStaged.inUse))

/-- The staged slot is empty, whatever cue is put in use. -/
theorem applyEdit_cues (hs : Inv s) (c : Option Nat) : CuesOk { s.applyEdit.cues with inUse := c } := by
  unfold applyEdit
  split
  · rename_i h
    exact ⟨hs.cues.1, hs.cues.2.1, hs.cues.2.2.1, fun x hx => by simp [h] at hx⟩
  · rw [recordChanged_cues]
    exact CueMap.applyStaged_ok hs.cues c

@[simp] theorem cueChange_inv (hs : Inv s) : Inv s.cueChange :=
  playerCueChange_inv (setCues_inv (applyEdit_inv hs) (applyEdit_cues hs _))

@[simp] theorem enterStopped_inv (hs : Inv s) : Inv s.enterStopped := by
  have h1 : Inv (s.setProg (stoppedProgram s.prog s.ctl.policies.g0.dSet)) := setProg_inv hs ⟨rfl, rfl, rfl⟩
  exact playerRetrack_inv (stopGroups_inv (setCues_inv (applyEdit_inv h1) (applyEdit_cues h1 none)))

@[simp] theorem stopProgram_inv (hs : Inv s) : Inv s.stopProgram := by
  have h1 : Inv (if s.playing then s.enterStopped else s.setProg { s.prog with held := none, grace := none }) := by
    split
    · exact enterStopped_inv hs
    · exact setProg_inv hs ((prog_held_none hs.prog).same rfl rfl rfl rfl rfl)
  exact setProg_inv h1 (h1.prog.same rfl rfl rfl rfl rfl)

@[simp] theorem holdClear_inv (hs : Inv s) : Inv s.holdClear := by
  unfold holdClear
  split
  · exact setProg_inv hs (hs.prog.same rfl rfl rfl rfl rfl)
  · exact hs

@[simp] theorem graceExpire_inv (r : Rig) (hs : Inv s) : Inv (s.graceExpire r) := by
  have h1 := noStart_inv r hs
  have h2 : Inv ((s.noStart r).setProg { (s.noStart r).prog with grace := none, graceSpent := true }) :=
    setProg_inv h1 (h1.prog.same rfl rfl rfl rfl rfl)
  unfold graceExpire
  dsimp only
  split
  · exact h2
  · exact latchHealth_inv _ _ h2

@[simp] theorem gracePeriod_inv (hs : Inv s) : Inv s.gracePeriod := by
  unfold gracePeriod
  (repeat' split)
  all_goals first | exact hs | exact graceExpire_inv _ hs | exact setProg_inv hs (hs.prog.same rfl rfl rfl rfl rfl)

@[simp] theorem anchorStart_inv (a : HeldAnchor) (hs : Inv s) : Inv (s.anchorStart a) := setProg_inv hs ⟨rfl, rfl⟩

@[simp] theorem anchorPeriod_inv (k : Word) (hs : Inv s) : Inv (s.anchorPeriod k) := by
  unfold anchorPeriod
  (repeat' split)
  all_goals first | exact hs | exact anchorStart_inv _ hs | exact setProg_inv hs (prog_held_none hs.prog)

@[simp] theorem stoppedPeriod_inv (k : Word) (hs : Inv s) : Inv (s.stoppedPeriod k) := by
  have h1 := anchorPeriod_inv k hs
  unfold stoppedPeriod
  dsimp only
  split
  · exact setProg_inv h1 (h1.prog.same rfl rfl rfl rfl rfl)
  · exact gracePeriod_inv h1

theorem playing_iff : s.playing = true ↔ s.prog.state ≠ .stopped := by
  unfold playing
  cases s.prog.state <;> simp

theorem dueLookup_inv (r : Rig) (hs : Inv s) (hp : s.prog.state ≠ .stopped) : Inv (s.dueLookup r) := by
  have h1 := playing_prog hs (playing_iff.mpr hp)
  exact setProg_inv hs (ProgOk.playing hp h1.1 h1.2)

theorem dueAdvance_inv (hs : Inv s) (hp : s.prog.state ≠ .stopped) : Inv s.dueAdvance := by
  have h1 := playing_prog hs (playing_iff.mpr hp)
  exact setProg_inv hs (ProgOk.playing hp (by simpa using h1.1) h1.2)

theorem runningPeriod_inv (hs : Inv s) (hp : s.prog.state ≠ .stopped) : Inv s.runningPeriod := by
  have h1 := dueAdvance_inv hs hp
  unfold runningPeriod
  split
  · exact setProg_inv hs (hs.prog.same rfl rfl rfl rfl rfl)
  · dsimp only
    split
    · exact h1
    · split
      · exact enterStopped_inv h1
      · exact dueLookup_inv _ h1 hp

theorem freePeriod_inv (hs : Inv s) (hp : s.prog.state ≠ .stopped) : Inv s.freePeriod := by
  have h1 := dueAdvance_inv hs hp
  have h2 : Inv (s.dueAdvance.setProg { s.dueAdvance.prog with pos := ShowPos.succ s.dueAdvance.prog.pos }) := by
    have h3 := playing_prog h1 (playing_iff.mpr hp)
    exact setProg_inv h1 (ProgOk.playing hp h3.1 h3.2)
  unfold freePeriod
  dsimp only
  split
  · split
    · exact enterStopped_inv h2
    · exact h2
  · exact h2

@[simp] theorem cueEvent_inv (hs : Inv s) : Inv s.cueEvent := by
  unfold cueEvent
  split
  · exact cueChange_inv hs
  · exact hs

@[simp] theorem dropAnchorSlot_inv (hs : Inv s) : Inv s.dropAnchorSlot := setProg_inv hs (hs.prog.same rfl rfl rfl rfl rfl)

@[simp] theorem programPeriod_inv (k : Word) (hs : Inv s) : Inv (s.programPeriod k) := by
  have h1 := holdClear_inv (dropAnchorSlot_inv hs)
  unfold programPeriod
  dsimp only
  refine cueEvent_inv ?_
  split
  · exact stoppedPeriod_inv k h1
  · rename_i h; exact runningPeriod_inv h1 (by simp [h])
  · rename_i h; exact freePeriod_inv h1 (by simp [h])

end State

namespace State
variable {s : State}
/-! ## Assembly.lean -/

@[simp] theorem commitPeriod_inv (stopped : Bool) (hs : Inv s) : Inv (s.commitPeriod stopped) := by
  simp only [commitPeriod]
  split <;> simp [hs, RouteTable.commitNow]
/-! ## Framer.lean -/

@[simp] theorem sendFrame_inv (p : Port) (f : MainFrame) (side : Option OutSide) (hs : Inv s) : Inv (s.sendFrame p f side) := by
  simp only [sendFrame]
  simp [hs]
@[simp] theorem sendRelay_inv (p : Port) (hs : Inv s) : Inv (s.sendRelay p) := by
  simp only [sendRelay]
  simp [hs]
@[simp] theorem sendRig_inv (r : Rig) (p : CtlPort) (hs : Inv s) : Inv (s.sendRig r p) := by
  simp only [sendRig]
  simp [hs]
@[simp] theorem sendOutput_inv (p : CtlPort) (f : Option MainFrame) (hs : Inv s) : Inv (s.sendOutput p f) := by
  simp only [sendOutput]
  split <;> simp [hs]
@[simp] theorem sendDown_inv (hs : Inv s) : Inv s.sendDown := by
  simp only [sendDown]
  simp [hs]
@[simp] theorem sendUp_inv (hs : Inv s) : Inv s.sendUp := by
  simp only [sendUp]
  simp [hs]
@[simp] theorem resetSent_inv (hs : Inv s) : Inv s.resetSent := by
  simp only [resetSent]
  simp [hs]
@[simp] theorem sendSlots_inv (f : Option MainFrame) (hs : Inv s) : Inv (s.sendSlots f) := by
  simp only [sendSlots]
  simp (maxDischargeDepth := 30) [hs]
@[simp] theorem clockPeriod_inv (hs : Inv s) : Inv s.clockPeriod := by
  simp only [clockPeriod]
  simp [hs]
@[simp] theorem bypassPeriod_inv (hs : Inv s) : Inv s.bypassPeriod := by
  simp only [bypassPeriod]
  split <;> simp [hs]

end State

end Sys2Proof.Machine
end

