-- ==== Sys2Proof/Laws/KeepStore.lean ====
section
/-! SUPPORT. The store controller: each operation keeps Inv. -/

namespace Sys2Proof.Machine

/-! ## The store's records -/

@[simp] theorem Inv.flash_wf {s : State} (h : Inv s) : Memory.wf s.store.flash = true := h.store.1
@[simp] theorem Inv.scrub_le {s : State} (h : Inv s) : s.store.scrubQueue.length ≤ 8 := h.store.2.1
@[simp] theorem Inv.dir {s : State} (h : Inv s) : DirOk s.store.dir := h.store.2.2

theorem StoreOk.setSector {t : Store} (h : StoreOk t) (p : Nat) (v : FlashSector) : StoreOk (t.setSector p v) :=
  ⟨Memory.write_wf h.1 p v, h.2⟩

/-! ## The directory (R119) -/

/-- An update of an entry that leaves its numbers and does not make it WRITING. -/
def KeepsEntry (f : DirEntry → DirEntry) : Prop :=
  ∀ e, (f e).id = e.id ∧ (EntryOk e → EntryOk (f e)) ∧ ((f e).state = .writing → e.state = .writing)

theorem KeepsEntry.guarded {f : DirEntry → DirEntry} (hf : KeepsEntry f) (c : DirEntry → Prop) [DecidablePred c] :
    KeepsEntry (fun e => if c e then f e else e) := by
  intro e
  dsimp only
  split
  · exact hf e
  · exact ⟨rfl, id, id⟩

@[simp] theorem keepsEntry_next (n : Nat) : KeepsEntry (fun e => { e with next := e.next + n }) := fun _ => ⟨rfl, id, id⟩
@[simp] theorem keepsEntry_fault (b : Bool) : KeepsEntry (fun e => { e with storeFault := b }) := fun _ => ⟨rfl, id, id⟩
@[simp] theorem keepsEntry_sealed : KeepsEntry (fun e => { e with state := if e.damageSeen then .damaged else .sealed }) :=
  fun e => ⟨rfl, id, fun h => by dsimp only at h; split at h <;> cases h⟩
@[simp] theorem keepsEntry_damaged : KeepsEntry State.damaged := by
  intro e
  unfold State.damaged
  split
  · exact ⟨rfl, id, fun h => by cases h⟩
  · exact ⟨rfl, id, id⟩
  · exact ⟨rfl, id, id⟩

/-- Such an update keeps the directory. -/
theorem DirOk.map {d : List DirEntry} (h : DirOk d) {f : DirEntry → DirEntry} (hf : KeepsEntry f) : DirOk (d.map f) := by
  obtain ⟨h1, h2, h3, h4⟩ := h
  refine ⟨?_, by simpa using h2, ?_, ?_⟩
  · rw [List.pairwise_map]
    exact h1.imp (fun {x y} hxy => by rw [(hf x).1, (hf y).1]; exact hxy)
  · intro e he
    obtain ⟨x, hx, rfl⟩ := List.mem_map.mp he
    exact (hf x).2.1 (h3 x hx)
  · have hm : ∀ l : List DirEntry, ((l.map f).filter (fun e => e.state == .writing)).length
        ≤ (l.filter (fun e => e.state == .writing)).length := by
      intro l
      induction l with
      | nil => exact Nat.le_refl _
      | cons x m ih =>
        have hx := (hf x).2.2
        simp only [List.map_cons, List.filter_cons, beq_iff_eq]
        by_cases hw : (f x).state = .writing
        · simpa [hw, hx hw] using ih
        · by_cases hx2 : x.state = .writing <;> simp [hw, hx2] <;> omega
    exact Nat.le_trans (hm d) h4

theorem DirOk.filter {d : List DirEntry} (h : DirOk d) (p : DirEntry → Bool) : DirOk (d.filter p) := by
  obtain ⟨h1, h2, h3, h4⟩ := h
  refine ⟨h1.filter p, Nat.le_trans (List.length_filter_le _ _) h2, fun e he => h3 e (List.mem_filter.mp he).1, ?_⟩
  rw [List.filter_filter]
  refine Nat.le_trans ?_ h4
  simp only [← List.countP_eq_length_filter]
  exact List.countP_mono_left (fun x _ hx => by simp only [Bool.and_eq_true] at hx; first | exact hx.1 | exact hx.2)


namespace Store

@[simp] theorem updateClip_dir {t : Store} (h : DirOk t.dir) (id : Nat) {f : DirEntry → DirEntry} (hf : KeepsEntry f) :
    DirOk (t.updateClip id f).dir := h.map (hf.guarded _)
@[simp] theorem updateWriting_dir {t : Store} (h : DirOk t.dir) {f : DirEntry → DirEntry} (hf : KeepsEntry f) :
    DirOk (t.updateWriting f).dir := h.map (hf.guarded _)
@[simp] theorem mapTo_flash (t : Store) (l p : Nat) : (t.mapTo l p).flash = t.flash := rfl
@[simp] theorem mapTo_dir (t : Store) (l p : Nat) : (t.mapTo l p).dir = t.dir := rfl
@[simp] theorem mapTo_queue (t : Store) (l p : Nat) : (t.mapTo l p).scrubQueue = t.scrubQueue := rfl
@[simp] theorem setState_flash (t : Store) (l : Nat) (v : LogicalState) : (t.setState l v).flash = t.flash := rfl
@[simp] theorem setState_dir (t : Store) (l : Nat) (v : LogicalState) : (t.setState l v).dir = t.dir := rfl
@[simp] theorem setState_queue (t : Store) (l : Nat) (v : LogicalState) : (t.setState l v).scrubQueue = t.scrubQueue := rfl
@[simp] theorem setCount_flash (t : Store) (l n : Nat) : (t.setCount l n).flash = t.flash := rfl
@[simp] theorem setCount_dir (t : Store) (l n : Nat) : (t.setCount l n).dir = t.dir := rfl
@[simp] theorem setCount_queue (t : Store) (l n : Nat) : (t.setCount l n).scrubQueue = t.scrubQueue := rfl
@[simp] theorem addSpare_flash (t : Store) (p : Nat) (e : Bool) : (t.addSpare p e).flash = t.flash := rfl
@[simp] theorem addSpare_dir (t : Store) (p : Nat) (e : Bool) : (t.addSpare p e).dir = t.dir := rfl
@[simp] theorem addSpare_queue (t : Store) (p : Nat) (e : Bool) : (t.addSpare p e).scrubQueue = t.scrubQueue := rfl
@[simp] theorem dropSpare_flash (t : Store) (p : Nat) : (t.dropSpare p).flash = t.flash := rfl
@[simp] theorem dropSpare_dir (t : Store) (p : Nat) : (t.dropSpare p).dir = t.dir := rfl
@[simp] theorem dropSpare_queue (t : Store) (p : Nat) : (t.dropSpare p).scrubQueue = t.scrubQueue := rfl
@[simp] theorem retire_flash (t : Store) (p : Nat) : (t.retire p).flash = t.flash := rfl
@[simp] theorem retire_dir (t : Store) (p : Nat) : (t.retire p).dir = t.dir := rfl
@[simp] theorem retire_queue (t : Store) (p : Nat) : (t.retire p).scrubQueue = t.scrubQueue := rfl
@[simp] theorem takeSpare_flash (t : Store) (p : Nat) : (t.takeSpare p).flash = t.flash := rfl
@[simp] theorem takeSpare_dir (t : Store) (p : Nat) : (t.takeSpare p).dir = t.dir := rfl
@[simp] theorem takeSpare_queue (t : Store) (p : Nat) : (t.takeSpare p).scrubQueue = t.scrubQueue := rfl
@[simp] theorem dropRelocating_flash (t : Store) (p : Nat) : (t.dropRelocating p).flash = t.flash := rfl
@[simp] theorem dropRelocating_dir (t : Store) (p : Nat) : (t.dropRelocating p).dir = t.dir := rfl
@[simp] theorem dropRelocating_queue (t : Store) (p : Nat) : (t.dropRelocating p).scrubQueue = t.scrubQueue := rfl
@[simp] theorem updateClip_flash (t : Store) (id : Nat) (f : DirEntry → DirEntry) : (t.updateClip id f).flash = t.flash := rfl
@[simp] theorem updateClip_queue (t : Store) (id : Nat) (f : DirEntry → DirEntry) : (t.updateClip id f).scrubQueue = t.scrubQueue := rfl
@[simp] theorem updateWriting_flash (t : Store) (f : DirEntry → DirEntry) : (t.updateWriting f).flash = t.flash := rfl
@[simp] theorem updateWriting_queue (t : Store) (f : DirEntry → DirEntry) : (t.updateWriting f).scrubQueue = t.scrubQueue := rfl
@[simp] theorem leaveBacklog_flash (t : Store) (l : Nat) : (t.leaveBacklog l).flash = t.flash := rfl
@[simp] theorem leaveBacklog_dir (t : Store) (l : Nat) : (t.leaveBacklog l).dir = t.dir := rfl
@[simp] theorem leaveBacklog_queue (t : Store) (l : Nat) : (t.leaveBacklog l).scrubQueue = t.scrubQueue := rfl

end Store

namespace State

theorem startTrace_ok {t : Store} (h : StoreOk t) (op : FlashOp) : StoreOk (startTrace t op) := by
  unfold startTrace
  (repeat' split) <;> first | exact h | exact h.setSector _ _

theorem programTrace_ok {t : Store} (h : StoreOk t) (op : FlashOp) (ok : Bool) : StoreOk (programTrace t op ok) := by
  unfold programTrace
  (repeat' split) <;> first | exact h | exact h.setSector _ _

@[simp] theorem scrubDone_flash (t : Store) (p : Nat) : (scrubDone t p).flash = t.flash := by unfold scrubDone; split <;> rfl
@[simp] theorem scrubDone_queue (t : Store) (p : Nat) : (scrubDone t p).scrubQueue = t.scrubQueue := by unfold scrubDone; split <;> rfl
@[simp] theorem scrubDone_dir (t : Store) (p : Nat) : (scrubDone t p).dir = t.dir := by unfold scrubDone; split <;> rfl
@[simp] theorem spareErased_flash (t : Store) (p : Nat) : (spareErased t p).flash = t.flash := by
  unfold spareErased; split <;> simp [Store.addSpare]
@[simp] theorem spareErased_queue (t : Store) (p : Nat) : (spareErased t p).scrubQueue = t.scrubQueue := by
  unfold spareErased; split <;> simp [Store.addSpare]
@[simp] theorem spareErased_dir (t : Store) (p : Nat) : (spareErased t p).dir = t.dir := by
  unfold spareErased; split <;> simp [Store.addSpare]
@[simp] theorem addMark_flash (t : Store) (j : Job) (p : Nat) : (addMark t j p).flash = t.flash := by cases j <;> rfl
@[simp] theorem addMark_queue (t : Store) (j : Job) (p : Nat) : (addMark t j p).scrubQueue = t.scrubQueue := by cases j <;> rfl
@[simp] theorem addMark_dir (t : Store) (j : Job) (p : Nat) : (addMark t j p).dir = t.dir := by cases j <;> rfl
@[simp] theorem retireMarked_flash (t : Store) (j : Job) (p : Nat) : (retireMarked t j p).flash = t.flash := addMark_flash _ j p
@[simp] theorem retireMarked_queue (t : Store) (j : Job) (p : Nat) : (retireMarked t j p).scrubQueue = t.scrubQueue := addMark_queue _ j p
@[simp] theorem retireMarked_dir (t : Store) (j : Job) (p : Nat) : (retireMarked t j p).dir = t.dir := addMark_dir _ j p
@[simp] theorem dropMark_flash (t : Store) (j : Job) : (dropMark t j).flash = t.flash := by cases j <;> rfl
@[simp] theorem dropMark_queue (t : Store) (j : Job) : (dropMark t j).scrubQueue = t.scrubQueue := by cases j <;> rfl
@[simp] theorem dropMark_dir (t : Store) (j : Job) : (dropMark t j).dir = t.dir := by cases j <;> rfl
@[simp] theorem orphanMark_flash (t : Store) (x : EngineStep) : (orphanMark t x).flash = t.flash := by unfold orphanMark; split <;> simp
@[simp] theorem orphanMark_queue (t : Store) (x : EngineStep) : (orphanMark t x).scrubQueue = t.scrubQueue := by unfold orphanMark; split <;> simp
@[simp] theorem orphanMark_dir (t : Store) (x : EngineStep) : (orphanMark t x).dir = t.dir := by unfold orphanMark; split <;> simp
@[simp] theorem replaceSector_flash (t : Store) (l p q : Nat) : (replaceSector t l p q).flash = t.flash := rfl
@[simp] theorem replaceSector_dir (t : Store) (l p q : Nat) : (replaceSector t l p q).dir = t.dir := rfl
@[simp] theorem replaceSector_queue (t : Store) (l p q : Nat) : (replaceSector t l p q).scrubQueue = t.scrubQueue := rfl
@[simp] theorem suspendErase_flash (t : Store) (p : Nat) : (suspendErase t p).flash = t.flash := by
  unfold suspendErase; (repeat' split) <;> rfl
@[simp] theorem suspendErase_queue (t : Store) (p : Nat) : (suspendErase t p).scrubQueue = t.scrubQueue := by
  unfold suspendErase; (repeat' split) <;> rfl
@[simp] theorem markRead_flash (t : Store) (p : Nat) : (markRead t p).flash = t.flash := rfl
@[simp] theorem markRead_queue (t : Store) (p : Nat) : (markRead t p).scrubQueue = t.scrubQueue := rfl
@[simp] theorem markRead_dir (t : Store) (p : Nat) : (markRead t p).dir = t.dir := rfl
@[simp] theorem suspendErase_dir (t : Store) (p : Nat) : (suspendErase t p).dir = t.dir := by
  unfold suspendErase; (repeat' split) <;> rfl

variable {s : State}

/-- An update of the store that leaves the flash, the scrub queue and the directory as they are. -/
theorem setStore_keeps {v : Store} (hs : Inv s) (h1 : v.flash = s.store.flash) (h2 : v.scrubQueue = s.store.scrubQueue)
    (h3 : v.dir = s.store.dir) : Inv (s.setStore v) := setStore_inv hs ⟨h1 ▸ hs.store.1, h2 ▸ hs.store.2.1, h3 ▸ hs.store.2.2⟩

@[simp] theorem scrubOffer_inv (l : Nat) (hs : Inv s) : Inv (s.scrubOffer l) := by
  simp only [scrubOffer]
  split
  · exact hs
  · rename_i h
    refine setStore_inv hs ⟨hs.store.1, ?_, hs.store.2.2⟩
    have := hs.scrub_le
    simp only [not_or, Config.scrubQueueSize] at h
    simp only [List.length_append, List.length_singleton]
    omega

theorem setStore_iff {v : Store} (hs : Inv s) : Inv (s.setStore v) ↔ Memory.wf v.flash = true ∧ v.scrubQueue.length ≤ 8 ∧ DirOk v.dir :=
  ⟨fun h => h.store, fun h => setStore_inv hs h⟩

@[simp] theorem readCorrected_inv (l : Nat) (hs : Inv s) : Inv (s.readCorrected l) := by
  simp only [readCorrected]
  split <;> simp [hs, setStore_iff]
@[simp] theorem readUncorrectable_inv (l k : Nat) (hs : Inv s) : Inv (s.readUncorrectable l k) := by
  simp only [readUncorrectable]
  split <;> simp [hs, setStore_iff]
@[simp] theorem eccOutcome_inv (l k : Nat) (ecc : Ecc) (hs : Inv s) : Inv (s.eccOutcome l k ecc) := by
  simp only [eccOutcome]
  split <;> simp [hs]

@[simp] theorem startOp_inv (op : FlashOp) (j : Job) (hs : Inv s) : Inv (s.startOp op j) :=
  setStore_inv hs (startTrace_ok hs.store op)

theorem copyStart_inv {j : CopyJob} {target : Nat} {job : Job} {ecc : Ecc} {t : State} (hs : Inv s)
    (h : s.copyStart j target job ecc = some t) : Inv t := by
  simp only [copyStart] at h
  split at h
  · cases h
  · split at h
    · injection h with h; subst h; exact startOp_inv _ _ hs
    · cases h
  · split at h
    · injection h with h; subst h
      exact startOp_inv _ _ (eccOutcome_inv _ _ _ (setStore_keeps hs rfl rfl rfl))
    · cases h

theorem eraseSpare_inv {j : Job} {t : State} (hs : Inv s) (h : s.eraseSpare j = some t) : Inv t := by
  simp only [eraseSpare, Option.map_eq_some_iff] at h
  obtain ⟨_, _, h⟩ := h
  subst h
  exact startOp_inv _ _ hs

@[simp] theorem handedStart_inv (e : DirEntry) (b : PageBuf) (hs : Inv s) : Inv (s.handedStart e b) := by
  simp only [handedStart]
  simp [hs]

theorem clipStart_inv {ecc : Ecc} {t : State} (hs : Inv s) (h : s.clipStart ecc = some t) : Inv t := by
  simp only [clipStart] at h
  (repeat' split at h)
  all_goals first
    | exact copyStart_inv hs h
    | exact eraseSpare_inv hs h
    | (injection h with h; subst h; first | exact startOp_inv _ _ hs | exact handedStart_inv _ _ hs)
    | cases h

theorem saveStart_inv {t : State} (hs : Inv s) (h : s.saveStart = some t) : Inv t := by
  simp only [saveStart] at h
  split at h
  · cases h
  · injection h with h; subst h; exact startOp_inv _ _ hs

theorem dropWhile_length_le {α : Type} (p : α → Bool) (l : List α) : (l.dropWhile p).length ≤ l.length := by
  induction l with
  | nil => simp
  | cons x m ih =>
    simp only [List.dropWhile_cons]
    split
    · simp only [List.length_cons]; omega
    · simp

@[simp] theorem scrubClean_inv (hs : Inv s) : Inv s.scrubClean := by
  simp only [scrubClean]
  split
  · exact hs
  · exact setStore_inv hs ⟨hs.store.1, Nat.le_trans (dropWhile_length_le _ _) hs.store.2.1, hs.store.2.2⟩

theorem scrubTake_inv {j : CopyJob} {p : Nat} {ecc : Ecc} {t : State} (hs : Inv s) (h : s.scrubTake j p ecc = some t) : Inv t := by
  simp only [scrubTake] at h
  split at h
  · exact copyStart_inv (by simp [setStore_iff, hs]) h
  · cases h

theorem scrubSpare_inv {t : State} (hs : Inv s) (h : s.scrubSpare = some t) : Inv t := by
  simp only [scrubSpare] at h
  split at h
  · cases h
  · exact eraseSpare_inv hs h

theorem scrubStart_inv {ecc : Ecc} {t : State} (hs : Inv s) (h : s.scrubStart ecc = some t) : Inv t := by
  simp only [scrubStart] at h
  (repeat' split at h)
  all_goals first
    | exact copyStart_inv hs h
    | exact scrubTake_inv hs h
    | exact scrubSpare_inv hs h
    | (injection h with h; subst h; exact startOp_inv _ _ hs)
    | cases h

theorem backlogStart_inv {t : State} (hs : Inv s) (h : s.backlogStart = some t) : Inv t := by
  simp only [backlogStart] at h
  (repeat' split at h)
  · injection h with h; subst h; exact startOp_inv _ _ hs
  · exact eraseSpare_inv hs h
  · simp only [Option.map_eq_some_iff] at h
    obtain ⟨_, _, h⟩ := h
    subst h
    exact startOp_inv _ _ hs

@[simp] theorem engineStart_inv (ecc : Ecc) (hs : Inv s) : Inv (s.engineStart ecc) := by
  simp only [engineStart]
  split
  · exact hs
  · split
    · rename_i h; exact clipStart_inv hs h
    · split
      · rename_i h; exact saveStart_inv hs h
      · split
        · rename_i h; exact scrubStart_inv hs h
        · cases h : s.backlogStart with
          | none => exact hs
          | some t => exact backlogStart_inv hs h

@[simp] theorem answerWriter_inv (code : Completion) (hs : Inv s) : Inv (s.answerWriter code) := by
  simp only [answerWriter]
  split <;> simp [hs]
@[simp] theorem clipExhausted_inv (l : Nat) (hs : Inv s) : Inv (s.clipExhausted l) := by
  have hd : DirOk ((s.store.setState l .damaged).updateWriting (fun e => { e with storeFault := true })).dir :=
    Store.updateWriting_dir hs.dir (keepsEntry_fault true)
  unfold clipExhausted
  dsimp only
  have h2 := fun (v : Store) (h : StoreOk v) =>
    setStore_inv (v := v) (raise_inv (k := .sparesExhausted) (o := .store) (d := .logical l) hs) h
  split
  · exact answerWriter_inv _ (h2 _ ⟨hs.store.1, hs.store.2.1, hd⟩)
  · exact h2 _ ⟨hs.store.1, hs.store.2.1, hd⟩
@[simp] theorem relocateStep1_inv (j : CopyJob) (hs : Inv s) : Inv (s.relocateStep1 j) := by
  simp only [relocateStep1]
  (repeat' split) <;> simp [hs, setStore_iff]
@[simp] theorem relocate_inv (l p k : Nat) (kind : CopyKind) (hs : Inv s) : Inv (s.relocate l p k kind) := by
  simp only [relocate]
  simp [hs]
@[simp] theorem targetFailed_inv (j : Job) (p k : Nat) (hs : Inv s) : Inv (s.targetFailed j p k) := by
  simp only [targetFailed]
  simp [hs, setStore_iff]
@[simp] theorem bufferEmptied_inv (hs : Inv s) : Inv s.bufferEmptied := by
  simp only [bufferEmptied]
  (repeat' split) <;> simp_all (maxDischargeDepth := 30) [setStore_iff]
@[simp] theorem sealDone_inv (hs : Inv s) : Inv s.sealDone := by
  simp only [sealDone]
  simp (maxDischargeDepth := 9) [hs, setStore_iff]
@[simp] theorem clipSwitch_inv (j : CopyJob) (target : Nat) (hs : Inv s) : Inv (s.clipSwitch j target) := by
  simp only [clipSwitch]
  split <;> simp [hs, setStore_iff]
@[simp] theorem scrubSwitch_inv (j : CopyJob) (target : Nat) (hs : Inv s) : Inv (s.scrubSwitch j target) :=
  setStore_inv hs ⟨hs.store.1, Nat.le_trans (List.length_filter_le _ _) hs.store.2.1, hs.store.2.2⟩
@[simp] theorem clipPageDone_inv (p k : Nat) (ok : Bool) (hs : Inv s) : Inv (s.clipPageDone p k ok) := by
  simp only [clipPageDone]
  (repeat' split) <;> simp [hs, setStore_iff]
@[simp] theorem scrubPageDone_inv (p k : Nat) (ok : Bool) (hs : Inv s) : Inv (s.scrubPageDone p k ok) := by
  simp only [scrubPageDone]
  (repeat' split) <;> simp [hs, setStore_iff]
@[simp] theorem saveEnd_inv (v : SaveJob) (code : Completion) (hs : Inv s) : Inv (s.saveEnd v code) :=
  complete_inv (setMgmt_inv (setStore_keeps hs rfl rfl rfl) hs.grants)
@[simp] theorem pageProgrammed_inv (k : Nat) (hs : Inv s) : Inv (s.pageProgrammed k) := by
  simp only [pageProgrammed]
  split <;> simp [hs, setStore_iff]
@[simp] theorem settingsPageDone_inv (k : Nat) (ok : Bool) (hs : Inv s) : Inv (s.settingsPageDone k ok) := by
  simp only [settingsPageDone]
  (repeat' split) <;> simp [hs, setStore_iff]
@[simp] theorem sealMarkDone_inv (p : Nat) (ok : Bool) (hs : Inv s) : Inv (s.sealMarkDone p ok) := by
  simp only [sealMarkDone]
  (repeat' split) <;> simp [hs]
@[simp] theorem retireMarkDone_inv (j : Job) (hs : Inv s) : Inv (s.retireMarkDone j) := by
  simp only [retireMarkDone]
  (repeat' split) <;> simp [hs, setStore_iff]
@[simp] theorem orphanDone_inv (hs : Inv s) : Inv s.orphanDone := by
  simp only [orphanDone]
  split <;> simp [hs, setStore_iff]
@[simp] theorem programDone_inv (x : EngineStep) (ok : Bool) (hs : Inv s) : Inv (s.programDone x ok) := by
  have h1 : Inv (s.setStore { programTrace s.store x.op ok with engine := none }) := setStore_inv hs (programTrace_ok hs.store x.op ok)
  unfold programDone
  dsimp only
  generalize s.setStore { programTrace s.store x.op ok with engine := none } = s1 at h1
  (repeat' split) <;> simp (maxDischargeDepth := 30) [h1, setStore_iff]
@[simp] theorem backlogExhausted_inv (l : Nat) (hs : Inv s) : Inv (s.backlogExhausted l) := by
  simp only [backlogExhausted]
  simp [hs, setStore_iff]
@[simp] theorem backlogReplace_inv (l p : Nat) (hs : Inv s) : Inv (s.backlogReplace l p) := by
  simp only [backlogReplace]
  (repeat' split) <;> simp [hs, setStore_iff]
@[simp] theorem backlogErased_inv (p : Nat) (hs : Inv s) : Inv (s.backlogErased p) := by
  simp only [backlogErased]
  (repeat' split) <;> simp [hs, setStore_iff]
@[simp] theorem clipErased_inv (p : Nat) (hs : Inv s) : Inv (s.clipErased p) := by
  simp only [clipErased]
  split <;> simp [hs, setStore_iff]
@[simp] theorem saveErased_inv (hs : Inv s) : Inv s.saveErased := by
  simp only [saveErased]
  simp [hs, setStore_iff]
@[simp] theorem scrubErased_inv (p : Nat) (hs : Inv s) : Inv (s.scrubErased p) := by
  simp only [scrubErased]
  simp [hs, setStore_iff]
@[simp] theorem eraseDone_inv (x : EngineStep) (hs : Inv s) : Inv (s.eraseDone x) := by
  have h1 : Inv (s.setStore { (if x.op.phys = Config.settingsSector then s.store else s.store.setSector x.op.phys blankSector) with engine := none }) := by
    split
    · exact setStore_keeps hs rfl rfl rfl
    · exact setStore_inv hs ⟨(hs.store.setSector x.op.phys blankSector).1, (hs.store.setSector x.op.phys blankSector).2⟩
  simp only [eraseDone]
  (repeat' split) <;> simp_all (maxDischargeDepth := 30) [setStore_iff]
@[simp] theorem spareTimedOut_inv (j : Job) (p : Nat) (hs : Inv s) : Inv (s.spareTimedOut j p) := by
  simp only [spareTimedOut]
  simp [hs, setStore_iff]
@[simp] theorem clipTimedOut_inv (p : Nat) (orphan : Bool) (hs : Inv s) : Inv (s.clipTimedOut p orphan) := by
  simp only [clipTimedOut]
  (repeat' split) <;> simp [hs]
@[simp] theorem scrubTimedOut_inv (p : Nat) (hs : Inv s) : Inv (s.scrubTimedOut p) := by
  simp only [scrubTimedOut]
  simp [hs]
@[simp] theorem backlogTimedOut_inv (p : Nat) (hs : Inv s) : Inv (s.backlogTimedOut p) := by
  simp only [backlogTimedOut]
  (repeat' split) <;> simp [hs]
@[simp] theorem saveTimedOut_inv (hs : Inv s) : Inv s.saveTimedOut := by
  simp only [saveTimedOut]
  split <;> simp [hs]
@[simp] theorem eraseTimedOut_inv (x : EngineStep) (hs : Inv s) : Inv (s.eraseTimedOut x) := by
  simp only [eraseTimedOut]
  split <;> simp [hs, setStore_iff]
@[simp] theorem serveRead_inv (e : DirEntry) (page : Nat) (ecc : Ecc) (hs : Inv s) : Inv (s.serveRead e page ecc) := by
  simp only [serveRead]
  simp (maxDischargeDepth := 30) [hs, setStore_iff]
@[simp] theorem serveLost_inv (x : LostRead) (ecc : Ecc) (hs : Inv s) : Inv (s.serveLost x ecc) := by
  simp only [serveLost]
  split <;> simp (maxDischargeDepth := 30) [hs, setStore_iff]
@[simp] theorem playerRead_inv (ecc : Ecc) (hs : Inv s) : Inv (s.playerRead ecc) := by
  unfold playerRead
  (repeat' split) <;> simp [hs]
@[simp] theorem programPeriodDone_inv (ok : Bool) (hs : Inv s) : Inv (s.programPeriodDone ok) := by
  simp only [programPeriodDone]
  (repeat' split) <;> simp [hs]
@[simp] theorem resumeErase_inv (hs : Inv s) : Inv s.resumeErase := by
  simp only [resumeErase]
  split <;> simp [hs, setStore_iff]
@[simp] theorem erasePeriod_inv (hs : Inv s) : Inv s.erasePeriod := by
  simp only [erasePeriod]
  (repeat' split) <;> simp [hs, setStore_iff]
@[simp] theorem clipRetry_inv (hs : Inv s) : Inv s.clipRetry := by
  simp only [clipRetry]
  (repeat' split) <;> simp [hs]
@[simp] theorem backlogRetry_inv (hs : Inv s) : Inv s.backlogRetry := by
  simp only [backlogRetry]
  (repeat' split) <;> simp [hs]

@[simp] theorem storePeriod_inv (i : PeriodInput) (hs : Inv s) : Inv (s.storePeriod i) := by
  have h1 := erasePeriod_inv (playerRead_inv i.playerEcc (programPeriodDone_inv i.verified (resumeErase_inv hs)))
  exact setStore_keeps (engineStart_inv i.copyEcc (scrubClean_inv (backlogRetry_inv (clipRetry_inv h1)))) rfl rfl rfl

end State

end Sys2Proof.Machine
end

