-- ==== Sys2Proof/Laws/KeepRecords.lean ====
section
/-! SUPPORT. The records of Inv by themselves: the clip directory, the links, the report table, the route banks. Each operation on one
of them keeps its part. -/

namespace Sys2Proof.Machine

namespace State

/-! ## The clip directory (R118, R119) -/

theorem insertClip_perm (e : DirEntry) (d : List DirEntry) : (insertClip e d).Perm (e :: d) := by
  induction d with
  | nil => exact List.Perm.refl _
  | cons f m ih =>
    simp only [insertClip]
    split
    · exact List.Perm.refl _
    · exact (ih.cons f).trans (List.Perm.swap e f m)

theorem insertClip_ascending {e : DirEntry} {d : List DirEntry} (h : d.Pairwise (fun x y => x.id < y.id)) (hn : ∀ x ∈ d, x.id ≠ e.id) :
    (insertClip e d).Pairwise (fun x y => x.id < y.id) := by
  induction d with
  | nil => simp [insertClip]
  | cons f m ih =>
    have hc := List.pairwise_cons.mp h
    simp only [insertClip]
    split
    · rename_i hl
      refine List.pairwise_cons.mpr ⟨?_, h⟩
      intro y hy
      rcases List.mem_cons.mp hy with hy | hy
      · exact hy ▸ hl
      · exact Nat.lt_trans hl (hc.1 y hy)
    · rename_i hl
      refine List.pairwise_cons.mpr ⟨?_, ih hc.2 (fun x hx => hn x (by simp [hx]))⟩
      intro y hy
      have hf : f.id ≠ e.id := hn f (by simp)
      rcases List.mem_cons.mp ((insertClip_perm e m).mem_iff.mp hy) with hy | hy
      · subst hy; omega
      · exact hc.1 y hy

/-- A new entry joins the directory. -/
theorem insertClip_ok {e : DirEntry} {d : List DirEntry} (h : DirOk d) (he : EntryOk e) (hn : ∀ x ∈ d, x.id ≠ e.id) (hl : d.length < 128)
    (hw : e.state = .writing → ∀ x ∈ d, x.state ≠ .writing) : DirOk (insertClip e d) := by
  have hp := insertClip_perm e d
  refine ⟨insertClip_ascending h.1 hn, by rw [hp.length_eq, List.length_cons]; omega, ?_, ?_⟩
  · intro x hx
    rcases List.mem_cons.mp (hp.mem_iff.mp hx) with hx | hx
    · exact hx ▸ he
    · exact h.2.2.1 x hx
  · rw [(hp.filter _).length_eq, List.filter_cons]
    split
    · rename_i hs
      have : d.filter (fun x => x.state == .writing) = [] :=
        List.filter_eq_nil_iff.mpr (fun x hx => by simpa using hw (by simpa using hs) x hx)
      simp [this]
    · exact h.2.2.2

theorem sectorsFor_eq (n : Nat) : sectorsFor n = (n + 1023) / 1024 := rfl

/-- What the clips kept so far satisfy (R118). -/
def KeptOk (l : List DirEntry) : Prop :=
  l.length ≤ 128 ∧ (∀ e ∈ l, EntryOk e ∧ e.state = .sealed) ∧ (l.map (fun e => e.id)).Nodup

theorem keepClip_ok (w : List Claim) {l : List DirEntry} (h : KeptOk l) (c : Claim) : KeptOk (keepClip w l c) := by
  unfold keepClip
  split
  · exact h
  · dsimp only
    split
    · rename_i p _ hc
      obtain ⟨h1, h2, h3, h4, _, h5, h6⟩ := hc
      simp only [Config.clips] at h6
      simp only [Config.logicalSectors] at h2
      refine ⟨by simp only [List.length_append, List.length_singleton]; omega, ?_, ?_⟩
      · intro e he
        rcases List.mem_append.mp he with he | he
        · exact h.2.1 e he
        · rw [List.mem_singleton.mp he]
          exact ⟨⟨h3, h4, h1, rfl, h2⟩, rfl⟩
      · rw [List.map_append, List.nodup_append]
        refine ⟨h.2.2, by simp, ?_⟩
        intro x hx y hy
        obtain ⟨f, hf, rfl⟩ := List.mem_map.mp hx
        simp only [List.map_cons, List.map_nil, List.mem_singleton] at hy
        have := List.all_eq_true.mp h5 f hf
        simp only [Bool.and_eq_true, bne_iff_ne] at this
        rw [hy]
        exact this.1
    · exact h

theorem keptClips_ok (w : List Claim) (l : List Claim) {k : List DirEntry} (h : KeptOk k) : KeptOk (l.foldl (keepClip w) k) := by
  induction l generalizing k with
  | nil => exact h
  | cons c m ih => exact ih (keepClip_ok w h c)

theorem sortClips_ok {l : List DirEntry} (h : KeptOk l) : DirOk (l.foldr insertClip []) ∧ (l.foldr insertClip []).Perm l := by
  induction l with
  | nil => exact ⟨⟨List.Pairwise.nil, Nat.zero_le _, by simp, by simp⟩, List.Perm.refl _⟩
  | cons e m ih =>
    obtain ⟨h1, h2, h3⟩ := h
    simp only [List.length_cons] at h1
    simp only [List.map_cons, List.nodup_cons] at h3
    have hm := ih ⟨by omega, fun x hx => h2 x (by simp [hx]), h3.2⟩
    have he := h2 e (by simp)
    refine ⟨insertClip_ok hm.1 he.1 ?_ (by rw [hm.2.length_eq]; omega) (fun hs => by rw [he.2] at hs; cases hs),
      (insertClip_perm e _).trans (hm.2.cons e)⟩
    intro x hx hid
    exact h3.1 (hid ▸ List.mem_map_of_mem (hm.2.mem_iff.mp hx))

/-- The directory that the scan rebuilds. -/
@[simp] theorem scanDir_ok (w : List Claim) : DirOk (scanDir w) :=
  (sortClips_ok (keptClips_ok w _ ⟨Nat.zero_le _, by simp, by simp⟩)).1

/-! ## The links (R166, R167) -/

theorem train_ok {l : PortLink} (h : LinkOk l) (ht : l.state = .training) (o : SlotOutcome) :
    (l.train o).run ≤ 8 ∧ (0 < (l.train o).run → (l.train o).expected.isSome = true) ∧ (l.train o).breaks ≤ 65535
      ∧ (l.train o).state = .training := by
  simp only [LinkOk, ht] at h
  cases o with
  | valid f =>
    simp only [PortLink.train]
    refine ⟨?_, fun _ => rfl, h.2.2, ht⟩
    split <;> omega
  | discarded d => exact ⟨Nat.zero_le _, by simp [PortLink.train], h.2.2, ht⟩

theorem follow_ok {l : PortLink} (h : LinkOk l) (hu : l.state = .up) (o : SlotOutcome) : LinkOk (l.follow o) := by
  simp only [LinkOk, hu] at h
  have he : l.expected.isSome = true := h.2.1 (by omega)
  cases o with
  | valid f =>
    simp only [PortLink.follow]
    split
    · simp only [LinkOk, hu]; exact ⟨h.1, fun _ => rfl, h.2.2⟩
    · simp only [LinkOk, hu]; exact ⟨h.1, fun _ => rfl, Nat.min_le_left _ _⟩
  | discarded d =>
    simp only [PortLink.follow, LinkOk, hu]
    exact ⟨h.1, fun _ => by simpa using he, h.2.2⟩

/-- A TRAINING link whose run has come to 8 is UP. -/
theorem up_ok {l : PortLink} (he : l.expected.isSome = true) (hb : l.breaks ≤ 65535) : LinkOk { l with state := .up, run := 8 } :=
  ⟨rfl, fun _ => he, hb⟩

/-! ## The report table (R145, R148) -/

theorem threeSet_ok {P : ReportRow → Prop} {r : Three ReportRow} (h : P r.u1 ∧ P r.u2 ∧ P r.u3) (n : Fin 3) {v : ReportRow} (hv : P v) :
    P (r.set n v).u1 ∧ P (r.set n v).u2 ∧ P (r.set n v).u3 := by
  obtain ⟨h1, h2, h3⟩ := h
  unfold Three.set
  split
  · exact ⟨hv, h2, h3⟩
  · exact ⟨h1, hv, h3⟩
  · exact ⟨h1, h2, hv⟩

theorem gangRows {g : Gang} (h : GangOk g) : RowOk g.rows.u1 ∧ RowOk g.rows.u2 ∧ RowOk g.rows.u3 := ⟨h.1, h.2.1, h.2.2.1⟩

theorem gangRow {g : Gang} (h : GangOk g) (n : Fin 3) : RowOk (g.rows.get n) := by
  unfold Three.get
  split
  · exact h.1
  · exact h.2.1
  · exact h.2.2.1

/-- New rows, with the size counted anew. -/
theorem gangSized {g : Gang} (h : GangOk g) (hl : g.role = .leader) {r : Three ReportRow} (hr : RowOk r.u1 ∧ RowOk r.u2 ∧ RowOk r.u3) :
    GangOk (Gang.withSize { g with rows := r }) := by
  obtain ⟨_, _, _, h4, h5, h6⟩ := h
  simp only [hl] at h6
  simp only [GangOk, Gang.withSize, hl]
  exact ⟨hr.1, hr.2.1, hr.2.2, h4, h5, h6.1, h6.2.1, rfl⟩

theorem rowEntry_ok {x : Three ReportRow × List Nat} (h : RowOk x.1.u1 ∧ RowOk x.1.u2 ∧ RowOk x.1.u3) (e : UnitEntry) :
    RowOk (rowEntry x e).1.u1 ∧ RowOk (rowEntry x e).1.u2 ∧ RowOk (rowEntry x e).1.u3 := by
  unfold rowEntry
  split
  · exact threeSet_ok h _ ⟨Nat.zero_le _, fun _ => ⟨Nat.zero_lt_succ _, rfl⟩, fun _ => rfl⟩
  · exact h

theorem rowEntries_ok (es : List UnitEntry) {x : Three ReportRow × List Nat} (h : RowOk x.1.u1 ∧ RowOk x.1.u2 ∧ RowOk x.1.u3) :
    RowOk (es.foldl rowEntry x).1.u1 ∧ RowOk (es.foldl rowEntry x).1.u2 ∧ RowOk (es.foldl rowEntry x).1.u3 := by
  induction es generalizing x with
  | nil => exact h
  | cons e m ih => exact ih (rowEntry_ok h e)

@[simp] theorem reportGang_ok {g : Gang} (h : GangOk g) (es : List UnitEntry) : GangOk (reportGang g es) := by
  unfold reportGang
  split
  · rename_i hl; exact gangSized h hl (rowEntries_ok es (gangRows h))
  · exact h

theorem vectorEntry_ok {t : Tick} {g : Gang} (h : GangOk g) (n : Fin 8) : GangOk (vectorEntry t g n) := by
  unfold vectorEntry
  dsimp only
  split
  · exact h.same rfl rfl rfl rfl rfl rfl rfl
  · exact h

/-- A follower takes a tick with a hop of at most 3. -/
theorem tickGang_ok {g : Gang} (h : GangOk g) (hf : g.role = .follower) {t : Tick} (ht : t.hop ≤ 3) : GangOk (tickGang g t) := by
  have key (l : List (Fin 8)) {k : Gang} (hk : GangOk k) : GangOk (l.foldl (vectorEntry t) k) := by
    induction l generalizing k with
    | nil => exact hk
    | cons n m ih => exact ih (vectorEntry_ok hk n)
  refine key _ ?_
  obtain ⟨h1, h2, h3, _, _, h6⟩ := h
  simp only [hf] at h6
  simp only [GangOk, hf, Config.gangCount]
  exact ⟨h1, h2, h3, by decide, Nat.min_le_left _ _, h6.1, ht⟩

/-- Rows whose presence is unchanged leave the size. -/
theorem presentCount_set {r : Three ReportRow} (n : Fin 3) {v : ReportRow} (hv : v.present = (r.get n).present) :
    ([(r.set n v).u1, (r.set n v).u2, (r.set n v).u3].filter (fun x => x.present)).length
      = ([r.u1, r.u2, r.u3].filter (fun x => x.present)).length := by
  match n with
  | 0 => simp only [Three.get] at hv; simp only [Three.set, List.filter_cons, hv]; (repeat' split) <;> rfl
  | 1 => simp only [Three.get] at hv; simp only [Three.set, List.filter_cons, hv]; (repeat' split) <;> rfl
  | 2 => simp only [Three.get] at hv; simp only [Three.set, List.filter_cons, hv]; (repeat' split) <;> rfl

theorem gangSetRow {g : Gang} (h : GangOk g) (n : Fin 3) {v : ReportRow} (hv : RowOk v) (hp : v.present = (g.rows.get n).present) :
    GangOk { g with rows := g.rows.set n v } := by
  have hr := threeSet_ok (gangRows h) n hv
  have hc := presentCount_set n hp
  obtain ⟨_, _, _, h4, h5, h6⟩ := h
  refine ⟨hr.1, hr.2.1, hr.2.2, h4, h5, ?_⟩
  cases hl : g.role with
  | leader =>
    simp only [hl] at h6
    exact ⟨h6.1, h6.2.1, by rw [h6.2.2]; simp only [Gang.presentCount]; rw [hc]⟩
  | follower => simpa only [hl] using h6

/-! ## The route banks (R99, R100) -/

theorem firstBadRoute_none {l : List RouteEntry} (h : firstBadRoute l = none) : ∀ e ∈ l, routeValid e = true := by
  intro e he
  have := List.findIdx?_eq_none_iff.mp h e he
  simpa using this

theorem writeEntries_ok {b l : List RouteEntry} (hb : BankOk b) (hl : ∀ e ∈ l, routeValid e = true) {first : Nat}
    (hn : first + l.length ≤ 64) : BankOk (writeEntries b first l) := by
  obtain ⟨h1, h2⟩ := hb
  refine ⟨?_, ?_⟩
  · simp only [writeEntries, List.length_append, List.length_take, List.length_drop, h1]; omega
  · intro e he
    simp only [writeEntries, List.mem_append] at he
    rcases he with (he | he) | he
    · exact h2 e (List.mem_of_mem_take he)
    · exact hl e he
    · exact h2 e (List.mem_of_mem_drop he)

end State

end Sys2Proof.Machine
end

