-- ==== Sys2Proof/Laws/KeepUnit.lean ====
section
/-! SUPPORT. Start-up, the gang agent, the link receivers, the management agent and the unit: each operation keeps Inv. -/

namespace Sys2Proof.Machine

namespace State

variable {s : State}

/-! ## Scan.lean -/

@[simp] theorem settleAnew_inv (g : Fin 8) (hs : Inv s) : Inv (s.settleAnew g) := by
  simp only [settleAnew]
  (repeat' split) <;> simp [hs]
theorem loadCues_ok {l : List CueRecord} (h : ∀ r ∈ l, CueRecordValid r = true) :
    (loadCues l).Pairwise (fun x y => x.cue < y.cue) ∧ (∀ r ∈ loadCues l, CueRecordValid r = true) ∧ (loadCues l).length ≤ l.length := by
  induction l with
  | nil => simp [loadCues]
  | cons x m ih =>
    have hm := ih (fun r hr => h r (by simp [hr]))
    have hp := putRecords_ok hm.1 hm.2.1 (h x (by simp))
    have hl := putRecord_length_le x (loadCues m)
    refine ⟨hp.1, hp.2, ?_⟩
    have := hm.2.2
    simp only [loadCues, List.foldr_cons, List.length_cons] at hl this ⊢
    omega

theorem loadImage_inv {v : Settings} (hs : Inv s) (hv : contentGood v = true) : Inv (s.loadImage v) := by
  simp only [contentGood, Bool.and_eq_true, decide_eq_true_eq, List.all_eq_true] at hv
  obtain ⟨⟨⟨⟨⟨⟨⟨⟨hc, _⟩, hn⟩, hrl⟩, hrv⟩, _⟩, hla⟩, hlb⟩, hg⟩ := hv
  have hl := loadCues_ok hc
  have h1 : Inv (s.setCues { records := loadCues v.cues, staged := none, inUse := none }) := by
    refine setCues_inv hs ⟨hl.1, hl.2.1, ?_, fun x hx => by simp at hx⟩
    simp only [CueMap.occupancy, Config.cueRecords] at hn ⊢
    omega
  have h2 := setRoutes_inv (v := { active := v.routes, shadow := v.routes, commit := none }) h1 ⟨hrl, hrv⟩ ⟨hrl, hrv⟩
  refine applyLimits_inv _ _ hlb (applyLimits_inv _ _ hla (setMgmt_inv (foldl_inv _ (fun _ g => settleAnew_inv g) _ ?_) hg))
  exact setCtl_inv h2 h1.journal

@[simp] theorem imageEnd_inv (whole : Bool) (hs : Inv s) : Inv (s.imageEnd whole) := by
  simp only [imageEnd]
  split
  · rename_i v h
    refine loadImage_inv hs ?_
    unfold judgeImage at h
    (repeat' split at h) <;> simp_all
  · exact raise_inv hs

@[simp] theorem fillVector_inv (hs : Inv s) : Inv s.fillVector := by
  simp only [fillVector]
  split
  · exact setGang_inv hs ((GangOk.vector _).mpr hs.gang)
  · exact hs
@[simp] theorem loadEnd_inv (whole : Bool) (hs : Inv s) : Inv (s.loadEnd whole) := by
  have h1 : Inv ((s.setStore (scanStore s.store)).imageEnd whole) := by
    refine imageEnd_inv whole (setStore_inv hs ⟨hs.store.1, ?_, ?_⟩) <;> simp [scanStore, Reset.store]
  have h2 := setProg_inv h1 (v := { ((s.setStore (scanStore s.store)).imageEnd whole).prog with
    dInForce := ((s.setStore (scanStore s.store)).imageEnd whole).ctl.policies.g0.dSet }) (h1.prog.same rfl rfl rfl rfl rfl)
  exact fillVector_inv (by simpa using h2)

/-! ## Gang.lean -/

@[simp] theorem takeTick_inv (p : Port) (t : Tick) (hs : Inv s) : Inv (s.takeTick p t) := by
  simp only [takeTick]
  split
  · rename_i h
    simp only [takesTick, Bool.and_eq_true, beq_iff_eq, decide_eq_true_eq] at h
    exact setGang_inv hs (tickGang_ok hs.gang h.1.1.2 h.2)
  · exact hs
@[simp] theorem takeReport_inv (p : Port) (es : List UnitEntry) (hs : Inv s) : Inv (s.takeReport p es) := by
  simp only [takeReport]
  split
  · exact setGang_inv hs (reportGang_ok hs.gang es)
  · exact hs
@[simp] theorem rowLost_inv (n : Fin 3) (hl : s.gang.role = .leader) (hs : Inv s) : Inv (s.rowLost n) := by
  have hr := threeSet_ok (gangRows hs.gang) n (v := { s.gang.rows.get n with present := false, silence := Config.gangCount, taken := false })
    ⟨Nat.le_refl _, by simp, by simp⟩
  simp only [rowLost]
  exact raise_inv (setGang_inv hs (gangSized hs.gang hl hr))
theorem rowPeriod_role (n : Fin 3) : (s.rowPeriod n).gang.role = s.gang.role := by
  simp only [rowPeriod, rowLost]
  (repeat' split) <;> rfl
@[simp] theorem rowPeriod_inv (n : Fin 3) (hl : s.gang.role = .leader) (hs : Inv s) : Inv (s.rowPeriod n) := by
  have hr := gangRow hs.gang n
  simp only [rowPeriod]
  split
  · exact setGang_inv hs (gangSetRow hs.gang n ⟨hr.1, hr.2.1, by simp⟩ rfl)
  · rename_i ht
    split
    · exact rowLost_inv n hl hs
    · rename_i hp
      refine setGang_inv hs (gangSetRow hs.gang n ⟨Nat.min_le_left _ _, fun h => ⟨?_, (hr.2.1 h).2⟩, fun h => absurd h ht⟩ rfl)
      have h40 : ¬(40 ≤ (s.gang.rows.get n).silence + 1) := fun h40 => hp ⟨h, h40⟩
      simp only [Config.gangCount]
      omega
@[simp] theorem adoptGroup_inv (g : Fin 8) (hs : Inv s) : Inv (s.adoptGroup g) := by
  simp only [adoptGroup]
  (repeat' split) <;> simp [hs]
@[simp] theorem leaveWait_inv (hs : Inv s) : Inv s.leaveWait := by
  simp only [leaveWait]
  split <;> simp [hs]
/-- A follower's change of gang state, its flags and waiting entries cleared. -/
theorem followerState_ok {g : Gang} (h : GangOk g) (hf : g.role = .follower) {st : GangState} (hst : st ≠ .leader) (e : Oct Bool)
    (w : Oct (Option Waiting)) : GangOk { g with state := st, emergency := e, waiting := w } := by
  obtain ⟨h1, h2, h3, h4, h5, h6⟩ := h
  simp only [hf] at h6
  simp only [GangOk, hf]
  exact ⟨h1, h2, h3, h4, h5, hst, h6.2⟩
@[simp] theorem becomeJoined_inv (hf : s.gang.role = .follower) (hs : Inv s) : Inv s.becomeJoined :=
  leaveWait_inv (foldl_inv _ (fun _ g => adoptGroup_inv g) _
    (clearTables_inv (setGang_inv hs (followerState_ok hs.gang hf (by decide) _ _))))
@[simp] theorem becomeIsolated_inv (hf : s.gang.role = .follower) (hs : Inv s) : Inv s.becomeIsolated := by
  simp only [becomeIsolated]
  exact raise_inv (clearTables_inv (setGang_inv hs (followerState_ok hs.gang hf (by decide) _ _)))
@[simp] theorem silencePeriod_inv (hs : Inv s) : Inv s.silencePeriod := by
  simp only [silencePeriod]
  split
  · exact setGang_inv hs ((GangOk.tickTaken _).mpr hs.gang)
  · obtain ⟨h1, h2, h3, _, _, h6⟩ := hs.gang
    exact setGang_inv hs ⟨h1, h2, h3, Nat.min_le_left _ _, Nat.zero_le _, h6⟩
@[simp] theorem followerPeriod_inv (hf : s.gang.role = .follower) (hs : Inv s) : Inv s.followerPeriod := by
  have h1 := silencePeriod_inv hs
  have hf1 : s.silencePeriod.gang.role = .follower := by
    simp only [silencePeriod]
    split <;> exact hf
  simp only [followerPeriod]
  split
  · exact becomeJoined_inv hf1 h1
  · split
    · exact becomeIsolated_inv hf1 h1
    · exact h1
@[simp] theorem gangPeriod_inv (hs : Inv s) : Inv s.gangPeriod := by
  simp only [gangPeriod]
  split
  · rename_i hl
    have h1 := rowPeriod_inv 0 hl hs
    have h2 := rowPeriod_inv 1 ((rowPeriod_role 0).trans hl) h1
    exact rowPeriod_inv 2 ((rowPeriod_role 1).trans ((rowPeriod_role 0).trans hl)) h2
  · rename_i hf; exact followerPeriod_inv hf hs
@[simp] theorem windowEnd_inv (hs : Inv s) : Inv s.windowEnd := by
  simp only [windowEnd]
  split
  · exact leaveWait_inv hs
  · rename_i hf
    split
    · exact leaveWait_inv (becomeIsolated_inv hf hs)
    · exact leaveWait_inv hs
@[simp] theorem presencePeriod_inv (hs : Inv s) : Inv s.presencePeriod := by
  simp only [presencePeriod]
  (repeat' split) <;> simp [hs]
/-! ## Link.lean -/

@[simp] theorem acquire_inv (p : Port) (hs : Inv s) : Inv (s.acquire p) := by
  simp only [acquire]
  split
  · exact setLink_inv hs ⟨Nat.zero_lt_succ _, by simp, (hs.links p).2.2⟩
  · exact hs
@[simp] theorem rigUp_inv (r : Rig) (hs : Inv s) : Inv (s.rigUp r) := healthLinkUp_inv r (setAlignRig_inv hs (hs.rig r))
theorem healthChange_setLink (p : Port) (v : PortLink) (r : Rig) (after : HealthState) (reason : HealthReason) :
    (s.setLink p v).healthChange r after reason = (s.healthChange r after reason).setLink p v := by
  simp only [healthChange, show (s.setLink p v).monitor r = s.monitor r from rfl]
  (repeat' split) <;> rfl

theorem rigUp_setLink (r : Rig) (v : PortLink) : (s.setLink (Rig.port r) v).rigUp r = (s.rigUp r).setLink (Rig.port r) v := by
  have h : (s.setLink (Rig.port r) v).slotLoad r = s.slotLoad r := by cases r <;> rfl
  unfold rigUp healthLinkUp
  rw [h]
  exact healthChange_setLink (s := (s.setAlignRig r { s.rig r with slotCount := s.slotLoad r, newestAudio := none }).setRigHealth r
    { s.monitor r with qual := 0 }) (Rig.port r) v r .qualifying .linkUp

/-- A link enters UP from any record whose run, number and breaks are those of an UP link. -/
theorem enterUp_inv (p : Port) {l : PortLink} (he : l.expected.isSome = true) (hb : l.breaks ≤ 65535) (hs : Inv s) :
    Inv ((s.setLink p l).enterUp p) := by
  have key (t : State) (ht : Inv t) : Inv ((t.setLink p l).setLink p { (t.setLink p l).links.get p with state := .up, run := 8 }) := by
    have h1 : (t.setLink p l).links.get p = l := Six.get_set_same _ _ _
    have h2 : (t.setLink p l).setLink p { l with state := .up, run := 8 } = t.setLink p { l with state := .up, run := 8 } := by
      cases p <;> rfl
    rw [h1, h2]
    exact setLink_inv ht (up_ok he hb)
  unfold enterUp
  cases p with
  | ra =>
    have h := key _ (rigUp_inv .a hs)
    have hr : (s.setLink .ra l).rigUp .a = (s.rigUp .a).setLink .ra l := rigUp_setLink .a l
    rw [← hr] at h
    exact h
  | rb =>
    have h := key _ (rigUp_inv .b hs)
    have hr : (s.setLink .rb l).rigUp .b = (s.rigUp .b).setLink .rb l := rigUp_setLink .b l
    rw [← hr] at h
    exact h
  | o1 => exact key s hs
  | o2 => exact key s hs
  | gu => exact key s hs
  | gd => exact key s hs
/-- LINK_UP's share of the slot (log 1). -/
theorem linkUp_inv (p : Port) (ht : (s.links.get p).state = .training) (h7 : Config.goodSlots ≤ (s.links.get p).run + 1) (hs : Inv s) :
    Inv ((s.setLink p (s.links.get p).eighth).enterUp p) := by
  have hl := hs.links p
  simp only [LinkOk, ht] at hl
  have he : (s.links.get p).expected.isSome = true := hl.2.1 (by simp only [Config.goodSlots] at h7; omega)
  refine enterUp_inv p ?_ ?_ hs
  · unfold PortLink.eighth
    split
    · simpa using he
    · exact he
  · unfold PortLink.eighth
    split <;> exact hl.2.2
@[simp] theorem trainSlot_inv (p : Port) (o : SlotOutcome) (ht : (s.links.get p).state = .training) (hs : Inv s) : Inv (s.trainSlot p o) := by
  obtain ⟨h1, h2, h3, h4⟩ := train_ok (hs.links p) ht o
  simp only [trainSlot]
  split
  · rename_i h8
    exact enterUp_inv p (h2 (Nat.lt_of_lt_of_le (by decide) h8)) h3 hs
  · rename_i h8
    simp only [Config.goodSlots] at h8
    refine setLink_inv hs ?_
    simp only [LinkOk, h4]
    exact ⟨by omega, h2, h3⟩
@[simp] theorem rigSlot_inv (r : Rig) (o : SlotOutcome) (hs : Inv s) : Inv (s.rigSlot r o) := by
  have h1 : Inv (s.setAlignRig r { s.rig r with slotCount := (s.rig r).slotCount + 1 }) := setAlignRig_inv hs (hs.rig r)
  simp only [rigSlot]
  split
  · exact primeUpdate_inv (alignArrive_inv _ _ _ (validSlot_inv _ _ _ h1))
  · exact discardSlot_inv _ _ _ h1
@[simp] theorem upSlot_inv (p : Port) (o : SlotOutcome) (hu : (s.links.get p).state = .up) (hs : Inv s) : Inv (s.upSlot p o) := by
  have h1 := setLink_inv (p := p) hs (follow_ok (hs.links p) hu o)
  simp only [upSlot]
  split
  · exact rigSlot_inv _ o h1
  · exact h1
@[simp] theorem slot_inv (p : Port) (f : Option RawFrame) (hs : Inv s) : Inv (s.slot p f) := by
  simp only [slot]
  split
  · exact hs
  · rename_i h; exact trainSlot_inv p _ h hs
  · rename_i h; exact upSlot_inv p _ h hs
@[simp] theorem linkDownFault_inv (r : Rig) (before : HealthState) (hs : Inv s) : Inv (s.linkDownFault r before) := by
  simp only [linkDownFault]
  simp [hs]
@[simp] theorem rigLost_inv (r : Rig) (stepFirst : Bool) (hs : Inv s) : Inv (s.rigLost r stepFirst) := by
  simp only [rigLost]
  (repeat' split) <;> simp (maxDischargeDepth := 30) [hs]
@[simp] theorem lose_inv (p : Port) (stepFirst : Bool) (hs : Inv s) : Inv (s.lose p stepFirst) := by
  have h1 := setLink_inv (p := p) hs (v := { s.links.get p with state := .down, run := 0, expected := none })
    ⟨⟨rfl, rfl⟩, by simp, (hs.links p).2.2⟩
  simp only [lose]
  split
  · exact hs
  · exact rigLost_inv _ _ h1
  · exact h1
end State

namespace State

variable {s : State}

/-! ## Manage.lean -/

theorem control_inv {h : CtlHead} {k : ReqKind} {o : State} (hs : Inv s) (ho : Inv o) : Inv (s.control h k o) := by
  simp only [control]
  (repeat' split) <;> simp [hs, ho]
@[simp] theorem unknownKind_inv (h : CtlHead) (kind : Byte) (hs : Inv s) : Inv (s.unknownKind h kind) := by
  simp only [unknownKind]
  (repeat' split) <;> simp [hs]
@[simp] theorem ownIdentify_inv (h : CtlHead) (hs : Inv s) : Inv (s.ownIdentify h) := by
  simp only [ownIdentify]
  simp [hs]
@[simp] theorem ownReadStatus_inv (h : CtlHead) (part : StatusPart) (hs : Inv s) : Inv (s.ownReadStatus h part) := by
  simp only [ownReadStatus]
  split <;> simp [hs]
@[simp] theorem ownReadHealth_inv (h : CtlHead) (rig : RigArg) (hs : Inv s) : Inv (s.ownReadHealth h rig) := by
  simp only [ownReadHealth]
  split <;> simp [hs]
@[simp] theorem setLimits_inv (rig : RigArg) (l : HealthLimits) (hl : limitsValid l = true) (hs : Inv s) : Inv (s.setLimits rig l) := by
  simp only [setLimits]
  split
  · exact applyLimits_inv _ _ hl hs
  · exact applyLimits_inv _ _ hl hs
  · exact applyLimits_inv _ _ hl (applyLimits_inv _ _ hl hs)
  · exact hs
@[simp] theorem ownSetHealthLimits_inv (h : CtlHead) (rig : RigArg) (l : HealthLimits) (hs : Inv s) : Inv (s.ownSetHealthLimits h rig l) := by
  simp only [ownSetHealthLimits]
  split
  · simp [hs]
  · rename_i hv
    rw [answer_inv]
    exact setLimits_inv _ _ (by simpa using (not_or.mp hv).2) hs
@[simp] theorem ownRequalify_inv (h : CtlHead) (rig : RigArg) (hs : Inv s) : Inv (s.ownRequalify h rig) := by
  simp only [ownRequalify]
  (repeat' split) <;> simp [hs]
@[simp] theorem unlockCapture_inv (r : Rig) (hs : Inv s) : Inv (s.unlockCapture r) := by
  exact setRigHealth_inv hs (hs.health r)
@[simp] theorem ownReadBadFrame_inv (h : CtlHead) (rig : RigArg) (hs : Inv s) : Inv (s.ownReadBadFrame h rig) := by
  simp only [ownReadBadFrame]
  split <;> simp [hs]
@[simp] theorem ownReadFault_inv (h : CtlHead) (hs : Inv s) : Inv (s.ownReadFault h) := by
  simp only [ownReadFault]
  simp [hs]
@[simp] theorem ownClearFault_inv (h : CtlHead) (hs : Inv s) : Inv (s.ownClearFault h) := by
  simp only [ownClearFault, answer_inv]
  exact setFault_inv hs ⟨fun _ => rfl, List.Pairwise.nil⟩
@[simp] theorem ownReadJournal_inv (h : CtlHead) (start : Nat) (hs : Inv s) : Inv (s.ownReadJournal h start) := by
  simp only [ownReadJournal]
  simp [hs]
theorem cueEdited_inv {h : CtlHead} {k : ReqKind} {c : Nat} {x : CueMap.Edited} (hs : Inv s) (hx : CuesOk x.map) : Inv (s.cueEdited h k c x) := by
  have h1 := setCues_inv hs hx
  simp only [cueEdited, answer_inv]
  split
  · exact recordChanged_inv c h1
  · exact h1
@[simp] theorem ownWriteCue_inv (h : CtlHead) (r : CueRecord) (n : Nat) (hs : Inv s) : Inv (s.ownWriteCue h r n) := by
  simp only [ownWriteCue]
  split
  · simp [hs]
  · exact cueEdited_inv hs (CueMap.write_ok hs.cues r)
@[simp] theorem ownDeleteCue_inv (h : CtlHead) (c : Nat) (hs : Inv s) : Inv (s.ownDeleteCue h c) :=
  cueEdited_inv hs (CueMap.delete_ok hs.cues c)
@[simp] theorem ownReadCue_inv (h : CtlHead) (c : Nat) (hs : Inv s) : Inv (s.ownReadCue h c) := by
  simp only [ownReadCue]
  simp [hs]
@[simp] theorem ownListCues_inv (h : CtlHead) (start : Nat) (hs : Inv s) : Inv (s.ownListCues h start) := by
  simp only [ownListCues]
  split <;> simp [hs]
@[simp] theorem ownWriteRoute_inv (h : CtlHead) (first count : Nat) (l : List RouteEntry) (hs : Inv s) : Inv (s.ownWriteRoute h first count l) := by
  simp only [ownWriteRoute]
  split
  · simp [hs]
  · split
    · simp [hs]
    · rename_i hc hn
      split
      · simp [hs]
      · rename_i hb
        rw [answer_inv]
        have hc2 : count = l.length := by simpa using hc
        refine setRoutes_inv hs hs.routes.1 (writeEntries_ok hs.routes.2 (firstBadRoute_none hb) ?_)
        simp only [not_or, Nat.not_lt] at hn
        omega
@[simp] theorem ownReadRoute_inv (h : CtlHead) (bank : BankArg) (first count : Nat) (hs : Inv s) : Inv (s.ownReadRoute h bank first count) := by
  simp only [ownReadRoute]
  (repeat' split) <;> simp [hs]
@[simp] theorem ownCommitRoutes_inv (h : CtlHead) (timing : Option CommitTiming) (hs : Inv s) : Inv (s.ownCommitRoutes h timing) := by
  simp only [ownCommitRoutes]
  split <;> simp [hs]
@[simp] theorem loadD_inv (g : Nat) (hs : Inv s) : Inv (s.loadD g) := by
  simp only [loadD]
  split
  · exact setProg_inv hs (hs.prog.same rfl rfl rfl rfl rfl)
  · exact hs
@[simp] theorem setPolicy_inv (g : Fin 8) (p : GroupPolicy) (hs : Inv s) : Inv (s.setPolicy g p) := setCtl_inv hs hs.journal
@[simp] theorem dropRevert_inv (g : Fin 8) (hs : Inv s) : Inv (s.dropRevert g) := by
  simp only [dropRevert]
  split <;> simp [hs]
@[simp] theorem ownWriteGroup_inv (h : CtlHead) (g : Nat) (p : GroupPolicy) (hs : Inv s) : Inv (s.ownWriteGroup h g p) := by
  simp only [ownWriteGroup]
  split
  · simp [hs]
  · rw [answer_inv]
    exact loadD_inv _ (dropRevert_inv _ (setPolicy_inv _ _ hs))
@[simp] theorem ownReadGroup_inv (h : CtlHead) (g : Nat) (hs : Inv s) : Inv (s.ownReadGroup h g) := by
  simp only [ownReadGroup]
  split <;> simp [hs]
@[simp] theorem ownForceSource_inv (h : CtlHead) (gs : List (Fin 8)) (t : Option Source) (u : Option Urgency) (hard : Bool) (hs : Inv s) :
    Inv (s.ownForceSource h gs t u hard) := by
  simp only [ownForceSource]
  (repeat' split)
  · simp [hs]
  · rw [answer_inv]
    exact foldl_inv _ (fun _ k => forceGroup_inv _ _ _ k) _ hs
  · simp [hs]
@[simp] theorem ownReleaseForce_inv (h : CtlHead) (gs : List (Fin 8)) (hs : Inv s) : Inv (s.ownReleaseForce h gs) := by
  simp only [ownReleaseForce]
  (repeat' split)
  · simp [hs]
  · simp [hs]
  · rw [answer_inv]
    exact foldl_inv _ (fun _ k => releaseGroup_inv k) _ hs
@[simp] theorem ownStopProgram_inv (h : CtlHead) (hs : Inv s) : Inv (s.ownStopProgram h) := by
  simp only [ownStopProgram]
  simp [hs]
@[simp] theorem ownShowLock_inv (h : CtlHead) (hs : Inv s) : Inv (s.ownShowLock h) := by
  simp only [ownShowLock, answer_inv]
  exact setMgmt_inv hs hs.grants
@[simp] theorem ownShowUnlock_inv (h : CtlHead) (hs : Inv s) : Inv (s.ownShowUnlock h) := by
  simp only [ownShowUnlock, answer_inv]
  exact setMgmt_inv hs hs.grants

theorem markRange_keeps (t : Store) (first n : Nat) (v : LogicalState) :
    (markRange t first n v).flash = t.flash ∧ (markRange t first n v).scrubQueue = t.scrubQueue ∧ (markRange t first n v).dir = t.dir := by
  unfold markRange
  generalize List.range n = l
  induction l generalizing t with
  | nil => exact ⟨rfl, rfl, rfl⟩
  | cons x m ih => exact ih _
@[simp] theorem openClip_flash (t : Store) (e : DirEntry) : (openClip t e).flash = t.flash := (markRange_keeps t _ _ _).1
@[simp] theorem openClip_queue (t : Store) (e : DirEntry) : (openClip t e).scrubQueue = t.scrubQueue := (markRange_keeps t _ _ _).2.1
@[simp] theorem takeSeal_flash (t : Store) : (takeSeal t).flash = t.flash := by unfold takeSeal; (repeat' split) <;> rfl
@[simp] theorem takeSeal_queue (t : Store) : (takeSeal t).scrubQueue = t.scrubQueue := by unfold takeSeal; (repeat' split) <;> rfl
@[simp] theorem takeSeal_dir (t : Store) : (takeSeal t).dir = t.dir := by unfold takeSeal; (repeat' split) <;> rfl
@[simp] theorem dirtyClip_flash (t : Store) (e : DirEntry) : (dirtyClip t e).flash = t.flash := (markRange_keeps t _ _ _).1
@[simp] theorem dirtyClip_queue (t : Store) (e : DirEntry) : (dirtyClip t e).scrubQueue = t.scrubQueue := (markRange_keeps t _ _ _).2.1
@[simp] theorem orphanStep_flash (t : Store) : (orphanStep t).flash = t.flash := by unfold orphanStep; (repeat' split) <;> rfl
@[simp] theorem orphanStep_queue (t : Store) : (orphanStep t).scrubQueue = t.scrubQueue := by unfold orphanStep; (repeat' split) <;> rfl
@[simp] theorem orphanStep_dir (t : Store) : (orphanStep t).dir = t.dir := by unfold orphanStep; (repeat' split) <;> rfl
@[simp] theorem releaseTarget_flash (t : Store) : (releaseTarget t).flash = t.flash := by unfold releaseTarget; (repeat' split) <;> rfl
@[simp] theorem releaseTarget_queue (t : Store) : (releaseTarget t).scrubQueue = t.scrubQueue := by unfold releaseTarget; (repeat' split) <;> rfl
@[simp] theorem releaseTarget_dir (t : Store) : (releaseTarget t).dir = t.dir := by unfold releaseTarget; (repeat' split) <;> rfl
@[simp] theorem clearClipJob_flash (t : Store) : (clearClipJob t).flash = t.flash := rfl
@[simp] theorem clearClipJob_queue (t : Store) : (clearClipJob t).scrubQueue = t.scrubQueue := rfl
@[simp] theorem clearClipJob_dir (t : Store) : (clearClipJob t).dir = t.dir := rfl
theorem dirtyClip_dir (t : Store) (e : DirEntry) (h : DirOk t.dir) : DirOk (dirtyClip t e).dir := h.filter _

theorem firstRun_fits {t : Store} {n l : Nat} (h : firstRun t n = some l) : l + n ≤ 4096 := by
  have := List.mem_of_find?_eq_some h
  simp only [List.mem_range, Config.logicalSectors] at this
  omega

/-- A clip that BED OPEN accepts joins the directory. -/
theorem openClip_ok {t : State} {h : CtlHead} {clip length loopStart loopLength l : Nat} (hd : DirOk t.store.dir)
    (hr : t.openRefusal h clip length loopStart loopLength = none) (hf : firstRun t.store (sectorsFor length) = some l) (w : CtlPort) :
    DirOk (openClip t.store
      { id := clip, first := l, count := sectorsFor length, length := length, loopStart := loopStart, loopLength := loopLength,
        state := .writing, writer := w, next := 0, damageSeen := false, storeFault := false }).dir := by
  unfold openRefusal at hr
  split at hr
  · cases hr
  split at hr
  · cases hr
  split at hr
  · cases hr
  split at hr
  · cases hr
  split at hr
  · cases hr
  split at hr
  · cases hr
  split at hr
  · cases hr
  rename_i h1 h2 h3 h4 _ _ h7
  simp only [not_or, Nat.not_lt, Config.clips, Nat.not_le] at h1 h2 h3 h7
  refine insertClip_ok hd ⟨by dsimp only; omega, by dsimp only; omega, ?_, rfl, firstRun_fits hf⟩ ?_ h7 ?_
  · simp only [paramsValid, Bool.and_eq_true, Bool.or_eq_true, decide_eq_true_eq, beq_iff_eq]
    omega
  · intro x hx hid
    have := h1.2.2
    simp only [Store.clip, Bool.not_eq_true, List.find?_isSome] at this
    simp only [← Bool.not_eq_true, List.find?_isSome, not_exists, not_and, beq_iff_eq] at this
    exact this x hx hid
  · intro _ x hx hw
    simp only [Store.writing, ← Bool.not_eq_true, List.find?_isSome, not_exists, not_and, beq_iff_eq] at h4
    exact h4 x hx hw

@[simp] theorem ownBedOpen_inv (h : CtlHead) (clip length loopStart loopLength : Nat) (hs : Inv s) : Inv (s.ownBedOpen h clip length loopStart loopLength) := by
  simp only [ownBedOpen]
  split
  · simp [hs]
  · rename_i hr
    split
    · simp [hs]
    · rename_i hf
      rw [answer_inv]
      exact setStore_inv hs ⟨by simp [hs], by simp [hs], openClip_ok hs.dir hr hf _⟩
@[simp] theorem takeFrames_inv (h : CtlHead) (clip : Nat) (e : DirEntry) (b : PageBuf) (hs : Inv s) : Inv (s.takeFrames h clip e b) := by
  simp only [takeFrames]
  (repeat' split) <;> simp (maxDischargeDepth := 9) [hs, setStore_iff]
@[simp] theorem ownBedData_inv (h : CtlHead) (clip offset : Nat) (f0 f1 : BedFrame) (hs : Inv s) : Inv (s.ownBedData h clip offset f0 f1) := by
  simp only [ownBedData]
  (repeat' split) <;> simp [hs]
@[simp] theorem ownBedSeal_inv (h : CtlHead) (clip : Nat) (hs : Inv s) : Inv (s.ownBedSeal h clip) := by
  simp only [ownBedSeal]
  (repeat' split) <;> simp (maxDischargeDepth := 9) [hs, setStore_iff]
@[simp] theorem playerClipGone_inv (e : DirEntry) (hs : Inv s) : Inv (s.playerClipGone e) := by
  simp [playerClipGone, hs]
@[simp] theorem abortClip_inv (e : DirEntry) (hs : Inv s) : Inv (s.abortClip e) := by
  have hd : ∀ t : State, Inv t → Inv (t.setStore (dirtyClip (clearClipJob (orphanStep (releaseTarget t.store))) e)) := fun t ht =>
    setStore_inv ht ⟨by simp [ht], by simp [ht], dirtyClip_dir _ e (by simp [ht])⟩
  simp only [abortClip]
  split
  · exact playerClipGone_inv e (hd _ (complete_inv hs))
  · exact playerClipGone_inv e (hd _ hs)
@[simp] theorem deleteClip_inv (e : DirEntry) (hs : Inv s) : Inv (s.deleteClip e) := by
  simp only [deleteClip]
  refine playerClipGone_inv e (setStore_inv hs ⟨by simp [hs], ?_, dirtyClip_dir _ e hs.dir⟩)
  exact Nat.le_trans (List.length_filter_le _ _) (by simp [hs])
@[simp] theorem ownBedAbort_inv (h : CtlHead) (clip : Nat) (hs : Inv s) : Inv (s.ownBedAbort h clip) := by
  simp only [ownBedAbort]
  (repeat' split) <;> simp [hs]
@[simp] theorem ownBedDelete_inv (h : CtlHead) (clip : Nat) (hs : Inv s) : Inv (s.ownBedDelete h clip) := by
  simp only [ownBedDelete]
  (repeat' split) <;> simp [hs]
@[simp] theorem ownBedList_inv (h : CtlHead) (start : Nat) (hs : Inv s) : Inv (s.ownBedList h start) := by
  simp only [ownBedList]
  split <;> simp [hs]
@[simp] theorem ownBedStatus_inv (h : CtlHead) (hs : Inv s) : Inv (s.ownBedStatus h) := by
  simp only [ownBedStatus]
  simp [hs]
@[simp] theorem takeSave_inv (h : CtlHead) (hs : Inv s) : Inv (s.takeSave h) := by
  have h1 : Inv (s.setMgmt { s.mgmt with saveBuffer := some s.snapshot }) := setMgmt_inv hs hs.grants
  simp only [takeSave, accept_inv]
  exact setStore_keeps h1 rfl rfl rfl
@[simp] theorem ownSaveSettings_inv (h : CtlHead) (hs : Inv s) : Inv (s.ownSaveSettings h) := by
  simp only [ownSaveSettings]
  split <;> simp [hs]
@[simp] theorem ownWriteGrants_inv (h : CtlHead) (g : Four (Option Grant)) (hs : Inv s) : Inv (s.ownWriteGrants h g) := by
  simp only [ownWriteGrants]
  split
  · rename_i v hv
    rw [answer_inv]
    refine setMgmt_inv hs ?_
    unfold grantsOf at hv
    split at hv
    · dsimp only at hv
      split at hv
      · rename_i hf
        cases hv
        exact hf
      · cases hv
    · cases hv
  · simp [hs]
@[simp] theorem ownResetUnit_inv (h : CtlHead) (hs : Inv s) : Inv (s.ownResetUnit h) := by
  simp only [ownResetUnit]
  split <;> simp [hs]
@[simp] theorem owner_inv (h : CtlHead) (q : Request) (hs : Inv s) : Inv (s.owner h q) := by
  cases q <;> simp [owner, hs]
@[simp] theorem perform_inv (h : CtlHead) (q : Request) (hs : Inv s) : Inv (s.perform h q) := control_inv hs (owner_inv h q hs)
@[simp] theorem takeControl_inv (p : CtlPort) (body : List Byte) (params : Option Request) (hs : Inv s) : Inv (s.takeControl p body params) := by
  simp only [takeControl]
  (repeat' split) <;> simp [hs, control_inv]
@[simp] theorem routeSide_inv (p : Port) (f : InSide) (body : SideBody) (hs : Inv s) : Inv (s.routeSide p f body) := by
  simp only [routeSide]
  (repeat' split) <;> simp [hs]
@[simp] theorem takeSide_inv (p : Port) (raw : RawFrame) (body : SideBody) (hs : Inv s) : Inv (s.takeSide p raw body) := by
  simp only [takeSide]
  (repeat' split) <;> simp [hs]
/-! ## Period.lean -/

theorem resetHealth_ok : MonitorOk Reset.health :=
  ⟨rfl, Nat.zero_le _, Nat.zero_le _, Nat.zero_le _, Nat.zero_le _, Nat.zero_le _, Nat.zero_le _, HardOk.offline_clear⟩

theorem resetBank_ok : BankOk Reset.bank := by
  refine ⟨by simp [Reset.bank], fun e he => ?_⟩
  obtain ⟨n, hn, rfl⟩ := List.mem_map.mp he
  have := List.mem_range.mp hn
  have h : n ≤ 63 := by omega
  simp [Reset.route, routeValid, h]

theorem resetGang_ok (strap : Strap) : GangOk (Reset.gang strap) := by
  have hr : RowOk Reset.row := by simp [RowOk, Reset.row]
  cases strap with
  | low => exact ⟨hr, hr, hr, Nat.zero_le _, Nat.zero_le _, rfl, rfl, rfl⟩
  | high => exact ⟨hr, hr, hr, Nat.zero_le _, Nat.zero_le _, by decide, Nat.zero_le _⟩

theorem volatileReset_inv {run : RunState} {pin : Bool} {strap : Strap} {flash : List (Nat × FlashSector)} {settings : SettingsSector}
    {j : Journal} {f : FaultRecord} {q : List Instr} (hm : Memory.wf flash = true) (hj : JournalOk j) (hf : RecordOk f) :
    Inv (volatileReset run pin strap flash settings j f q) where
  align := ⟨⟨Nat.zero_le _, rfl, rfl, rfl⟩, ⟨Nat.zero_le _, rfl, rfl, rfl⟩, rfl, rfl, rfl⟩
  journal := hj
  record := hf
  cues := by refine ⟨List.Pairwise.nil, ?_, ?_, ?_⟩ <;> simp [volatileReset, CueMap.occupancy]
  store := ⟨hm, Nat.zero_le _, List.Pairwise.nil, Nat.zero_le _, by simp [volatileReset, Reset.store], Nat.zero_le _⟩
  grants := rfl
  links := fun p => by cases p <;> exact ⟨⟨rfl, rfl⟩, fun h => absurd h (Nat.lt_irrefl 0), Nat.zero_le _⟩
  health := fun r => by cases r <;> exact resetHealth_ok
  routes := ⟨resetBank_ok, resetBank_ok⟩
  gang := resetGang_ok strap

theorem Reset.journal_ok : JournalOk Reset.journal := ⟨Nat.zero_le _, fun i h => by cases h⟩
theorem Reset.fault_ok : RecordOk Reset.fault := ⟨fun _ => rfl, List.Pairwise.nil⟩

@[simp] theorem powerLost_inv (hs : Inv s) : Inv s.powerLost := volatileReset_inv hs.store.1 Reset.journal_ok Reset.fault_ok
@[simp] theorem poweredOn_inv (strap : Strap) (hs : Inv s) : Inv (s.poweredOn strap) := volatileReset_inv hs.store.1 Reset.journal_ok Reset.fault_ok
@[simp] theorem unitReset_inv (pin : Bool) (strap : Strap) (o : FaultOrigin) (d : FaultDetail) (hs : Inv s) : Inv (s.unitReset pin strap o d) :=
  volatileReset_inv hs.store.1 hs.journal (raise_inv (k := .unitReset) (o := o) (d := d) hs).record
@[simp] theorem pinReset_inv (strap : Strap) (hs : Inv s) : Inv (s.pinReset strap) := unitReset_inv _ _ _ _ hs
@[simp] theorem requestedReset_inv (strap : Strap) (hs : Inv s) : Inv (s.requestedReset strap) := by
  simp only [requestedReset]
  (repeat' split) <;> simp [hs]
@[simp] theorem holdEnd_inv (hs : Inv s) : Inv s.holdEnd := by
  simp only [holdEnd]
  simp [hs]
@[simp] theorem runPeriod_inv (whole : Bool) (hs : Inv s) : Inv (s.runPeriod whole) := by
  simp only [runPeriod]
  (repeat' split) <;> simp [hs]
@[simp] theorem programShare_inv (hs : Inv s) : Inv s.programShare := by
  simp only [programShare]
  (repeat' split) <;> simp [hs]
@[simp] theorem controllerShare_inv (hs : Inv s) : Inv s.controllerShare := by
  unfold controllerShare
  split
  · exact controllerPeriod_inv _ _ hs
  · exact hs
theorem patchNotices_inv (f : State) (hs : Inv s) : Inv (s.patchNotices f) := by
  simp only [patchNotices]
  (repeat' split) <;> simp [hs]
@[simp] theorem noticeShare_inv (f : Option MainFrame) (t : State) (hs : Inv s) : Inv (s.noticeShare f t) := by
  unfold noticeShare
  split
  · exact patchNotices_inv t hs
  · exact hs
@[simp] theorem laterShares_inv (i : PeriodInput) (hs : Inv s) : Inv (s.laterShares i) := by
  unfold laterShares
  split
  · exact gangPeriod_inv (storePeriod_inv i (playerPeriod_inv hs))
  · exact hs
@[simp] theorem keepCue_inv (hs : Inv s) : Inv s.keepCue := setProg_inv hs (hs.prog.same rfl rfl rfl rfl rfl)
theorem switchAndForm_inv (b : Bool) (hs : Inv s) : Inv (s.switchAndForm b).1 := by
  unfold switchAndForm
  dsimp only
  split <;> exact controllerShare_inv hs
@[simp] theorem period_inv (i : PeriodInput) (hs : Inv s) : Inv (s.period i) := by
  have h1 : Inv s.clockPeriod.programShare.stepPeriod := stepPeriod_inv (programShare_inv (clockPeriod_inv hs))
  have h2 : Inv ((((s.clockPeriod.programShare.stepPeriod.healthPeriod .a).healthPeriod .b).bypassPeriod).commitPeriod (!s.playing)) :=
    commitPeriod_inv _ (bypassPeriod_inv (healthPeriod_inv .b (healthPeriod_inv .a h1)))
  have h3 := switchAndForm_inv i.assembleFirst h2
  exact runPeriod_inv _ (keepCue_inv (sendSlots_inv _ (laterShares_inv i (noticeShare_inv _ _ h3))))
@[simp] theorem outputPeriod_inv (i : PeriodInput) (hs : Inv s) : Inv (s.outputPeriod i) := by
  simp only [outputPeriod]
  split <;> simp [hs]
/-! ## LinkCmd.lean -/

@[simp] theorem stallNow_inv (r : Rig) (hs : Inv s) : Inv (s.stallNow r) := by
  have hl := hs.limits r
  have hg := hs.gap r
  simp only [limitsValid, Bool.and_eq_true, decide_eq_true_eq] at hl
  refine stallReached_inv r (setRigHealth_inv hs ?_)
  obtain ⟨h1, _, h3⟩ := hs.health r
  exact ⟨h1, Nat.max_le.mpr ⟨hg, hl.1.2.1⟩, h3⟩
@[simp] theorem pilotNow_inv (r : Rig) (hs : Inv s) : Inv (s.pilotNow r) := by
  have hl := hs.limits r
  simp only [limitsValid, Bool.and_eq_true, decide_eq_true_eq] at hl
  refine setHard_inv r .pilotLost _ (setRigHealth_inv hs ?_)
  obtain ⟨h1, h2, h3, h4, h5⟩ := hs.health r
  exact ⟨h1, h2, h3, Nat.max_le.mpr ⟨h4, by omega⟩, h5⟩
@[simp] theorem qualifyNow_inv (r : Rig) (k : FrameKind) (hs : Inv s) : Inv (s.qualifyNow r k) := by
  exact qualified_inv r k (setRigHealth_inv hs (hs.health r))
/-! ## ProgramCmd.lean -/

/-! ## StoreCmd.lean -/

/-! ## GangCmd.lean -/

@[simp] theorem isolateNow_inv (hf : s.gang.role = .follower) (hs : Inv s) : Inv s.isolateNow := by
  obtain ⟨h1, h2, h3, _, _, h6⟩ := hs.gang
  exact becomeIsolated_inv hf (setGang_inv hs ⟨h1, h2, h3, Nat.le_refl _, Nat.zero_le _, h6⟩)
end State

end Sys2Proof.Machine
end

