-- ==== Sys2Proof/Laws/Request.lean ====
section
/-! SUPPORT. The judgement of a request: what reaches its owner, and what a reply changes. -/

namespace Sys2Proof.Machine

namespace State

variable {s : State} {h : CtlHead} {k : ReqKind}

theorem answer_eq_replied (s : State) (h : CtlHead) (k : ReqKind) (c : Completion) (d : ReplyData) :
    s.answer h k c d = replied s h (BitVec.ofNat 8 k.code) c d := rfl

theorem answerKind_eq_replied (s : State) (h : CtlHead) (b : Byte) (c : Completion) (d : ReplyData) :
    s.answerKind h b c d = replied s h b c d := rfl

theorem accept_eq_inHand (s : State) (h : CtlHead) (k : ReqKind) : s.accept h k = inHand s h k := rfl

theorem take_eq_captured (s : State) (k : FaultKind) (o : FaultOrigin) (d : FaultDetail) :
    s.fault.take { kind := k, origin := o, pos := s.align.prog.pos, count := s.framer.count, detail := d } = captured s k o d := by
  unfold captured FaultRecord.take
  cases hf : s.fault with
  | mk first later => cases first <;> rfl

theorem raise_eq_captured (s : State) (k : FaultKind) (o : FaultOrigin) (d : FaultDetail) :
    s.raise k o d = { s with fault := captured s k o d } := by
  rw [← take_eq_captured]
  rfl

theorem raise_fault (s : State) (k : FaultKind) (o : FaultOrigin) (d : FaultDetail) : (s.raise k o d).fault = captured s k o d := by
  rw [raise_eq_captured]

/-- A request that nothing refuses is handed to its owner. -/
theorem control_reaches (hr : Reaches s h k) (o : State) : s.control h k o = o := by
  obtain ⟨hu, hg, ha, hi, hl, hk, hw⟩ := hr
  have hig : s.ignored h = false := by
    rcases hg with hg | ⟨hg, _⟩ <;> rcases ha.1 with ha | ha <;> simp [ignored, isUp, hu, hg, ha]
  have h1 : ¬(h.addr = 15 ∧ k.farEnd = false) := fun x => by simp [ha.2 x.1] at x
  have h2 : ¬(s.mgmt.grants.get h.port = .observe ∧ k.isRead = false) := by
    rcases hg with hg | hg <;> simp [hg]
  have h3 : ¬(s.early = true ∧ k.early = false) := by
    rcases hl with hl | hl | hl <;> simp [early, hl]
  have h4 : ¬(s.mgmt.lock = true ∧ k.underLock = true) := by
    rcases hk with hk | hk <;> simp [hk]
  have hrf : s.refusal h k = none := by simp only [refusal, hi, hw, h1, h2, h3, h4, if_false]; rfl
  simp [control, hig, hrf]

end State

end Sys2Proof.Machine
end

