-- ==== Sys2Proof/WellFormed.lean ====
section
/-! DEFINITION. The commands an outside can send: the operand values the links can carry (00_scope.md 4, R121, R144,
R147, R178, 9.6). A meaning is given to every term, well formed or not; the values a rule itself judges are not judged here. -/

namespace Sys2Proof

/-- 9.6: a slot carries 3,125 bytes. -/
def RawFrame.fits (f : RawFrame) : Bool := decide (f.bytes.length ≤ 3125)

/-- R121: four tracks of twelve 16-bit samples. -/
def samples16 (l : List Int) : Bool := l.length == 12 && l.all (fun x => decide (-32768 ≤ x) && decide (x ≤ 32767))

def BedFrame.wellFormed (f : BedFrame) : Bool := samples16 f.t0 && samples16 f.t1 && samples16 f.t2 && samples16 f.t3

/-- R144: fade length 0 to 32. -/
def VecEntry.wellFormed (e : VecEntry) : Bool := decide (e.fade ≤ 32)

def Oct.allOf {α : Type} (f : α → Bool) (o : Oct α) : Bool :=
  f o.g0 && f o.g1 && f o.g2 && f o.g3 && f o.g4 && f o.g5 && f o.g6 && f o.g7

/-- R144: a hop count is a byte; gang size 1 to 4. -/
def Tick.wellFormed (t : Tick) : Bool :=
  decide (t.hop ≤ 255) && decide (1 ≤ t.size) && decide (t.size ≤ 4) && t.vector.allOf VecEntry.wellFormed

/-- R147: gang position 0 to 3; no unit that reports is a leader. -/
def UnitEntry.wellFormed (e : UnitEntry) : Bool := decide (e.position ≤ 3) && decide (e.state ≠ .leader)

/-- R147: one to three entries. -/
def reportWellFormed (es : List UnitEntry) : Bool := decide (1 ≤ es.length) && decide (es.length ≤ 3) && es.all UnitEntry.wellFormed

/-- R178: a group set names groups once. -/
def groupsWellFormed (gs : List (Fin 8)) : Bool := decide gs.Nodup

def Request.wellFormed : Request → Bool
  | .forceSource gs _ _ _ => groupsWellFormed gs
  | .releaseForce gs => groupsWellFormed gs
  | .bedData _ _ f0 f1 => f0.wellFormed && f1.wellFormed
  | _ => true

def SideBody.wellFormed : SideBody → Bool
  | .control (some q) => q.wellFormed
  | .control none => true
  | .tick t => t.wellFormed
  | .report es => reportWellFormed es
  | .plain => true

def Instr.wellFormed : Instr → Bool
  | .mainFrame _ (some f) => f.fits
  | .sideFrame _ f b => f.fits && b.wellFormed
  | .gangTick _ t => t.wellFormed
  | .gangReport _ es => reportWellFormed es
  | .forceSource _ gs _ _ _ => groupsWellFormed gs
  | .releaseForce _ gs => groupsWellFormed gs
  | .bedData _ _ _ f0 f1 => f0.wellFormed && f1.wellFormed
  | .unknownRequest _ k => k.toNat == 0 || decide (33 < k.toNat)
  | _ => true

end Sys2Proof
end

