-- ==== Sys2Proof/Tests/Slice0.lean ====
section
/-! SUPPORT. Small tests: the commands the well-formedness checks refuse, worked values, and for each obligation with hypotheses a
state and operands that meet them (`test_witness_`). -/

namespace Sys2Proof.Tests

open Sys2Proof Sys2Proof.Machine

/-! ## Small states and operands -/

def linkUp : PortLink := { state := .up, run := 8, expected := some 5, breaks := 0 }
def training (n : Nat) : PortLink := { state := .training, run := n, expected := some 5, breaks := 0 }
def allLinks (l : PortLink) : Six PortLink := { ra := l, rb := l, o1 := l, o2 := l, gu := l, gd := l }

/-- A leader in RUNNING, every link UP. -/
def onAir : State :=
  { State.reset with framer := { State.reset.framer with run := .running, bypass := false }, links := allLinks linkUp }
def inRun (r : RunState) : State := { onAir with framer := { onAir.framer with run := r, bypass := true } }
def follower (g : GangState) : State := { onAir with gang := { onAir.gang with role := .follower, state := g } }
def withProg (p : Program) : State := { onAir with align := { onAir.align with prog := p } }
def withA (m : HealthRec) : State := { onAir with health := onAir.health.set .a m }
def monA : HealthRec := onAir.health.a
def groupIn (s : State) (g : Fin 8) (x : Group) : State := { s with ctl := { s.ctl with groups := s.ctl.groups.set g x } }
def someFault : FirstFault :=
  { kind := .rigStall, origin := .ra, pos := { cue := 0, pos := 0 }, count := 0, detail := .lastSequence none }

/-- A request at a FULL port, for this unit. -/
def head : CtlHead := { port := .o1, addr := 0, tag := 7, lengthOk := true }

theorem reaches (s : State) (k : ReqKind) (hl : s.links = onAir.links := by rfl) (hf : s.framer = onAir.framer := by rfl)
    (hg : s.gang = onAir.gang := by rfl) (hm : s.mgmt = onAir.mgmt := by rfl) : Reaches s head k :=
  { up := by rw [hl]; rfl
    granted := by rw [hm]; exact Or.inl rfl
    addressed := by rw [hg]; exact ⟨Or.inl rfl, fun h => absurd h (by decide)⟩
    idle := by rw [hm]; rfl
    loaded := by rw [hf]; exact Or.inr (Or.inl rfl)
    unlocked := by rw [hm]; exact Or.inl rfl
    whole := rfl }

def idleMain (seq : Half) : MainFrame :=
  { kind := .idle, stopped := true, declared := false, pilot := false, seq := seq, pos := { cue := 0, pos := 0 }, channels := [],
    role := 0, summary := State.reset.summary }
def audioMain : MainFrame :=
  { kind := .audio, stopped := false, declared := true, pilot := false, seq := 5, pos := { cue := 3, pos := 258 },
    channels := [[1, -1, 8388607, -8388608, 0, 5, 6, 7, 8, 9, 10, 11]], role := 0, summary := State.reset.summary }
def raw (f : MainFrame) : RawFrame := { marks := true, bytes := f.toBytes }
def idleIn (seq : Half) : InFrame :=
  { kind := .idle, stopped := true, declared := false, pilot := false, seq := seq, pos := { cue := 0, pos := 0 }, count := 0, channels := [] }
def audioIn : InFrame :=
  { kind := .audio, stopped := false, declared := true, pilot := false, seq := 5, pos := { cue := 3, pos := 258 }, count := 1,
    channels := audioMain.channels }

theorem test_idle_frame_is_valid : checkMain (some (raw (idleMain 5))) = .valid (idleIn 5) := by decide +kernel
theorem test_other_idle_frame_is_valid : checkMain (some (raw (idleMain 9))) = .valid (idleIn 9) := by decide +kernel
set_option maxRecDepth 20000 in
theorem test_audio_frame_is_valid : checkMain (some (raw audioMain)) = .valid audioIn := by decide +kernel
theorem test_no_frame_is_discarded : ∃ d, checkMain none = .discarded d := ⟨_, rfl⟩
theorem test_cut_frame_is_discarded :
    ∃ d, checkMain (some { marks := true, bytes := [0, 0, 0] }) = .discarded d := ⟨_, rfl⟩

/-! ## Well-formedness refuses -/

theorem test_refuses_long_frame : Instr.wellFormed (.mainFrame .ra (some { marks := true, bytes := List.replicate 3126 0 })) = false := by
  decide +kernel
theorem test_admits_frame : Instr.wellFormed (.mainFrame .ra (some (raw audioMain))) = true := by decide +kernel
theorem test_refuses_group_twice : Instr.wellFormed (.forceSource head [1, 1] (some .a) (some .immediate) false) = false := by decide
theorem test_refuses_release_twice : Instr.wellFormed (.releaseForce head [7, 0, 7]) = false := by decide

def tracks (l : List Int) : BedFrame := { t0 := l, t1 := l, t2 := l, t3 := l }
def tone : BedFrame := tracks [0, 1, 2, 3, 4, 5, 6, 7, 8, 9, -32768, 32767]
theorem test_admits_bed_frame : Instr.wellFormed (.bedData head 1 0 tone tone) = true := by decide
theorem test_refuses_short_track : Instr.wellFormed (.bedData head 1 0 tone (tracks [0])) = false := by decide
theorem test_refuses_wide_sample :
    Instr.wellFormed (.bedData head 1 0 (tracks [32768, 0, 0, 0, 0, 0, 0, 0, 0, 0, 0, 0]) tone) = false := by decide

def vecEntry : VecEntry := { source := .a, effective := { cue := 1, pos := 0 }, order := 1, fade := 32, urgency := .immediate }
def octOf {α : Type} (x : α) : Oct α := { g0 := x, g1 := x, g2 := x, g3 := x, g4 := x, g5 := x, g6 := x, g7 := x }
def tick : Tick := { hop := 1, size := 2, leader := { cue := 1, pos := 9 }, vector := octOf vecEntry }
theorem test_admits_tick : Instr.wellFormed (.gangTick .gu tick) = true := by decide
theorem test_refuses_hop : Instr.wellFormed (.gangTick .gu { tick with hop := 256 }) = false := by decide
theorem test_refuses_size : Instr.wellFormed (.gangTick .gu { tick with size := 5 }) = false := by decide
theorem test_refuses_fade : Instr.wellFormed (.gangTick .gu { tick with vector := octOf { vecEntry with fade := 33 } }) = false := by decide

def entry : UnitEntry :=
  { position := 1, state := .joined, healthA := .healthy, healthB := .offline, stepA := .inStep, stepB := .outOfStep,
    emergency := octOf false, applied := octOf none }
theorem test_admits_report : Instr.wellFormed (.gangReport .gd [entry]) = true := by decide
theorem test_refuses_empty_report : Instr.wellFormed (.gangReport .gd []) = false := by decide
theorem test_refuses_long_report : Instr.wellFormed (.gangReport .gd [entry, entry, entry, entry]) = false := by decide
theorem test_refuses_position : Instr.wellFormed (.gangReport .gd [{ entry with position := 4 }]) = false := by decide
theorem test_refuses_reporting_leader : Instr.wellFormed (.gangReport .gd [{ entry with state := .leader }]) = false := by decide
theorem test_refuses_known_kind : Instr.wellFormed (.unknownRequest head 33) = false := by decide
theorem test_admits_unknown_kind : Instr.wellFormed (.unknownRequest head 34) = true := by decide
theorem test_refuses_side_body :
    Instr.wellFormed (.sideFrame .o1 { marks := true, bytes := [] } (.control (some (.releaseForce [2, 2])))) = false := by decide
theorem test_no_word_spells_a_command : decodeTableWord 8 1 = none := rfl

/-! ## The hypotheses of the statements are met: the machine and the unit -/

def offUnit : State := { State.reset with framer := { State.reset.framer with run := .off } }
def resetSent (p : CtlPort) : State := { onAir with framer := { onAir.framer with resetReq := some { port := p, sent := true } } }
def settings : Settings :=
  { cues := [], routes := Reset.bank, policies := Reset.policies, limits := { a := Reset.limits, b := Reset.limits }, grants := Reset.mgmt.grants }
def loading : State := { State.reset with framer := { State.reset.framer with run := .load, loadCount := 259 } }
def windowEnds (g : Gang) : State := { onAir with gang := g, framer := { onAir.framer with run := .gangWait, waitCount := 7999 } }

theorem test_witness_EveryStepCompletes : State.reset.pending = [] := rfl
theorem test_witness_StepKeepsInv : ∃ s t, Inv s ∧ s.pending = [.holdExpiry] ∧ step s = .next t :=
  ⟨State.volatileReset .hold false .low [] Reset.settings Reset.journal Reset.fault [.holdExpiry], _,
    State.volatileReset_inv rfl State.Reset.journal_ok State.Reset.fault_ok, rfl, rfl⟩
theorem test_witness_ResetsLeaveResetState :
    offUnit.framer.run = .off ∧ onAir.framer.run ≠ .off ∧ onAir.framer.pinAsserted = false
      ∧ (resetSent .o2).framer.resetReq = some { port := .o2, sent := true } := by decide
def headerOf (l g : Nat) : Header :=
  { logical := l, clip := 1, index := 0, params := some { length := 1024, loopStart := 0, loopLength := 0 }, generation := BitVec.ofNat 8 g }
def claiming (g : Nat) : FlashSector := { blankSector with header := some (headerOf 5 g), touched := true, sealMarker := true }
/-- Sector 5 and spare 4,096 claim logical sector 5; sector 7 is retired, sector 9 was begun and bears no header. -/
def scanned : List (Nat × FlashSector) :=
  [(5, claiming 255), (7, { blankSector with retire := true }), (9, { blankSector with touched := true }), (4096, claiming 0)]
theorem test_witness_LoadEndEntersGangWait :
    loading.framer.run = .load ∧ loading.framer.loadCount = 259 ∧ loading.store.settings = { pages := [], disturbed := false }
      ∧ (∃ s : State, s.framer = loading.framer ∧ s.store.settings = savedImage settings) ∧ contentGood settings = true
      ∧ loading.store.flash = [] ∧ Memory.wf [] = true ∧ Memory.wf scanned = true :=
  ⟨rfl, rfl, rfl, ⟨{ loading with store := { loading.store with settings := savedImage settings } }, rfl, rfl⟩, by decide +kernel, rfl, rfl,
    by decide⟩
theorem test_witness_two_claims_of_one_sector :
    (Memory.read scanned 5).header = some (headerOf 5 255) ∧ (Memory.read scanned 4096).header = some (headerOf 5 0)
      ∧ (headerOf 5 0).generation = (headerOf 5 255).generation + 1 ∧ (Memory.read scanned 7).retire = true
      ∧ (Memory.read scanned 8).header = none := by decide
theorem test_witness_HoldAndPresenceWindowEnd :
    let pin : State := { State.reset with framer := { State.reset.framer with pinAsserted := true } }
    let last : State := { State.reset with framer := { State.reset.framer with holdCount := 199 } }
    pin.framer.pinAsserted = true ∧ last.framer.run = .hold ∧ last.framer.pinAsserted = false ∧ last.framer.holdCount = 199
      ∧ (windowEnds onAir.gang).framer.run = .gangWait ∧ (windowEnds onAir.gang).framer.waitCount = 7999
      ∧ (windowEnds onAir.gang).gang.role = .leader ∧ (windowEnds (follower .isolated).gang).gang.state ≠ .discovering
      ∧ (windowEnds (follower .discovering).gang).gang.role = .follower
      ∧ (windowEnds (follower .discovering).gang).gang.state = .discovering := by decide

/-! ## The links and the rigs' slots -/

def declaredMain : MainFrame := { idleMain 5 with declared := true }
theorem test_declared_frame_is_valid : checkMain (some (raw declaredMain)) = .valid { idleIn 5 with declared := true } := by decide +kernel

theorem test_witness_LinkTrainsAndFollows :
    (State.reset.links.get .o1).state = .down ∧ State.reset.framer.run ≠ .off
      ∧ Port.rig .o1 = none ∧ Port.rig .gu = none ∧ (training 7).state = .training ∧ (training 7).run = 7 ∧ (training 6).run < 7
      ∧ linkUp.state = .up ∧ (training 6).expected = some (idleIn 5).seq ∧ (training 6).expected ≠ some (idleIn 9).seq
      ∧ (∃ d, checkMain none = .discarded d) ∧ checkMain (some (raw (idleMain 5))) = .valid (idleIn 5)
      ∧ checkMain (some (raw (idleMain 9))) = .valid (idleIn 9) :=
  ⟨rfl, by decide, rfl, rfl, rfl, rfl, by decide, rfl, rfl, by decide, test_no_frame_is_discarded, test_idle_frame_is_valid,
    test_other_idle_frame_is_valid⟩
theorem test_witness_RigLinkEntersUp :
    let s : State := { onAir with links := allLinks (training 7) }
    (s.links.get (Rig.port .a)).state = .training ∧ (s.links.get (Rig.port .b)).run = 7 ∧ (s.health.get .a).state ≠ .qualifying := by decide
theorem test_witness_LockLossTakesTheRig :
    let inUse : State := { withProg { onAir.align.prog with state := .running } with
      align := { onAir.align with prog := { onAir.align.prog with state := .running }
                                  rigs := onAir.align.rigs.set .a { onAir.align.rigs.a with step := { Reset.step with state := .inStep, streak := 32 } } } }
    (allLinks (training 3)).get .ra = training 3 ∧ (onAir.links.get .gd).state = .up ∧ Port.rig .gd = none
      ∧ (onAir.links.get (Rig.port .b)).state = .up ∧ onAir.fault.first = none
      ∧ ({ onAir with fault := { onAir.fault with first := some someFault } } : State).fault.first ≠ none
      ∧ (inUse.links.get (Rig.port .a)).state = .up ∧ inUse.stepOf .a ≠ .outOfStep ∧ inUse.usedBy .a = true ∧ inUse.fault.first = none := by decide
theorem test_witness_RigSlotReachesTheRing :
    (onAir.links.get (Rig.port .a)).state = .up ∧ checkMain (some (raw audioMain)) = .valid audioIn
      ∧ checkMain (some (raw (idleMain 5))) = .valid (idleIn 5) ∧ ∃ d, checkMain none = .discarded d :=
  ⟨rfl, test_audio_frame_is_valid, test_idle_frame_is_valid, test_no_frame_is_discarded⟩
theorem test_witness_DeclaredFollowsTheFlag :
    ((withA { monA with state := .healthy }).links.get (Rig.port .a)).state = .up
      ∧ ((withA { monA with state := .healthy }).health.get .a).state ≠ .offline
      ∧ ((withA { monA with state := .healthy }).health.get .a).hard.declared = false
      ∧ ((withA { monA with state := .failed }).health.get .a).state = .failed
      ∧ checkMain (some (raw declaredMain)) = .valid { idleIn 5 with declared := true }
      ∧ ∃ d, checkMain none = .discarded d :=
  ⟨rfl, by decide, rfl, rfl, test_declared_frame_is_valid, test_no_frame_is_discarded⟩
theorem test_witness_BucketAndCaptureTakeTheSlot :
    (onAir.links.get (Rig.port .b)).state = .up ∧ checkMain (some (raw audioMain)) = .valid audioIn ∧ ∃ d, checkMain none = .discarded d :=
  ⟨rfl, test_audio_frame_is_valid, test_no_frame_is_discarded⟩
/-- Buckets at which a discarded slot reaches the corrupt level 128, and valid ones fall to 32 and to 31, below the warn level 32. -/
theorem test_witness_BucketAndCaptureTakeTheSlot_corrupt :
    let m (b : Nat) (c : Bool) : HealthRec := { monA with state := .failed, bucket := b, hard := { Reset.hard with corrupt := c } }
    let bad : HealthRec := { m 112 false with state := .healthy }
    let after (x : HealthRec) : HealthRec := ((withA x).validSlot .a (idleIn 5) 1).health.a
    let d : Discard := { bytes := [], received := 0, computed := 0 }
    bad.state ≠ .offline ∧ bad.hard.corrupt = false ∧ bad.gap + 1 < bad.limits.gap ∧ (m 33 true).state = .failed
      ∧ (m 33 true).hard.isEmpty = false ∧ (after (m 33 true)).hard.corrupt = true ∧ (after (m 32 true)).hard.isEmpty = true
      ∧ (after (m 32 true)).recovery = some 4000
      ∧ ((withA bad).discardSlot .a d 1).health.a.hard.corrupt = true ∧ ((withA bad).discardSlot .a d 1).health.a.state = .failed
      ∧ ((withA bad).discardSlot .a d 1).fault = captured (withA bad) .rigCorrupt .ra (.bucket 128) := by decide
theorem test_witness_HardConditionFailsTheRig :
    let m : HealthRec := { monA with state := .healthy, gap := 7, pilotCount := 39, limits := { monA.limits with pilotChannel := some 63 } }
    let s := withA m
    (s.links.get (Rig.port .a)).state = .up ∧ (s.health.get .a).state ≠ .offline ∧ (s.health.get .a).state ≠ .failed
      ∧ (s.health.get .a).hard.stall = false ∧ (s.health.get .a).gap + 1 = (s.health.get .a).limits.gap
      ∧ (s.health.get .a).hard.pilotLost = false ∧ (s.health.get .a).limits.pilotChannel.isSome = true
      ∧ (s.health.get .a).pilotCount + 1 = (s.health.get .a).limits.pilotHold := by decide
/-- A frame at 3:258 in slot 1, after references it continues and does not, on a rig that the groups use (A) and one they do not (B). -/
theorem test_witness_HardConditionFailsTheRig_jump :
    let m (c : Half) (p a : Word) : HealthRec :=
      { monA with state := .healthy, playing := true, ref := some { pos := { cue := c, pos := p }, arrival := a }
                  hard := { Reset.hard with jump := decide (a = 0) } }
    let x : InFrame := { audioIn with declared := false }
    let slot (r : Rig) (m : HealthRec) (x : InFrame) : State := ({ onAir with health := onAir.health.set r m }).validSlot r x 1
    (onAir.links.get (Rig.port .a)).state = .up ∧ (onAir.align.rigs.get .a).slotCount + 1 = 1 ∧ x.kind = .audio ∧ x.declared = false
      ∧ (m 3 200 1).limits.pilotChannel = none ∧ (m 3 200 1).bucket - 1 < (m 3 200 1).limits.corrupt
      ∧ (∃ g, (onAir.ctl.groups.get g).st = .settled (Rig.source .a)) ∧ (∀ g, (onAir.ctl.groups.get g).st = .settled .a)
      ∧ (slot .a (m 3 257 0) x).health.a.hard.jump = false ∧ (slot .a (m 4 9 0) { x with pos := { cue := 3, pos := 3 } }).health.a.hard.jump = false
      ∧ (slot .a (m 4 9 1) { x with pos := { cue := 3, pos := 4 } }).health.a.hard.jump = true
      ∧ (slot .a (m 3 256 1) x).health.a.state = .failed ∧ (slot .a (m 0 257 1) { x with pos := { cue := 0, pos := 258 } }).health.a.hard.jump = true
      ∧ (slot .a (m 3 256 1) x).fault = captured onAir .rigJump .ra (.carried { cue := 3, pos := 258 })
      ∧ (slot .b (m 3 256 1) x).health.b.state = .suspect ∧ (slot .b (m 3 256 1) x).health.b.softJump = some 4000
      ∧ (slot .a (m 3 256 0) (idleIn 5)).health.a.ref = none ∧ (slot .a (m 3 256 0) (idleIn 5)).health.a.hard.jump = false := by decide
theorem test_witness_RigStateTimersExpire :
    let q : HealthRec := { monA with state := .qualifying, qual := 399 }
    let f : HealthRec := { monA with state := .failed, recovery := some 1 }
    let j : HealthRec := { monA with state := .suspect, softJump := some 1, playing := true }
    ((withA q).health.get .a).state = .qualifying ∧ q.hard.isEmpty = true ∧ q.qual + 1 = q.limits.qualify
      ∧ f.recovery = some 1 ∧ f.state = .failed ∧ f.limits.auto = true ∧ ({ f.limits with auto := false } : HealthLimits).auto = false
      ∧ j.softJump = some 1 ∧ j.state = .suspect ∧ j.playing = true ∧ ({ j with state := .failed } : HealthRec).state = .failed := by decide

/-! ## Program and groups -/

def plain : CuePolicy :=
  { length := some 100, framesPerBeat := 240, beatOffset := 239, zones := [(0, 10), (10, 100)], clip := some 255, bedStart := 0,
    revertAllowed := true, bedAllowed := true }
def record (c : Nat) : CueRecord := { cue := c, policy := plain }
def playing : Program := { onAir.align.prog with state := .running, pos := { cue := 3, pos := 100 }, due := some 50 }
def entryAt (p : ShowPos) (k : Word) : RingEntry := { pos := p, arrival := k, channels := 1, samples := [] }
def withRig (s : State) (r : Rig) (a : AlignRig) : State := { s with align := { s.align with rigs := s.align.rigs.set r a } }
def onShow : State := { withProg playing with framer := { onAir.framer with periodSlot := some 62 } }
def stepped (x : StepRec) : State := withRig onShow .b { onAir.align.rigs.b with step := x }
def matching (x : StepRec) : State :=
  withRig onShow .b { onAir.align.rigs.b with step := x, ring := [entryAt { cue := 3, pos := 100 } 55] }
def drifting (n : Nat) (k : Int) (m : Nat) : StepRec := { state := .drifting, streak := n, miss := m, lastSkew := some k }

theorem test_witness_StartGraceExpires :
    let ready (st : HealthState) : State :=
      withRig { onAir with
        align := { onAir.align with prog := { onAir.align.prog with grace := some 1 } }
        health := { a := { monA with state := st }, b := { monA with state := .healthy } } } .b { onAir.align.rigs.b with newestAudio := some true }
    ∀ st ∈ [HealthState.healthy, HealthState.offline],
      (ready st).framer.run = .running ∧ (ready st).ctl.groups.g0.st.current = Rig.source .a ∧ (ready st).align.prog.state = .stopped
      ∧ (ready st).align.prog.grace = some 1 ∧ (ready st).align.prog.held = none ∧ (ready st).align.prog.stopHold = false
      ∧ ((ready st).align.rigs.get .a).newestAudio ≠ some true ∧ (Rig.source (Rig.other .a)) ∈ (ready st).ctl.policies.g0.fallback
      ∧ ((ready st).align.rigs.get (Rig.other .a)).newestAudio = some true ∧ ((ready st).health.get (Rig.other .a)).state = .healthy
      ∧ ((ready st).health.get .a).hard.noStart = false ∧ ((ready st).health.get .a).state = st
      ∧ (ready st).gang.role = .leader ∧ (ready st).ctl.groups.g0.health = none := by decide
theorem test_witness_HeldAnchorStartsTheProgram :
    let a : HeldAnchor := { rig := .a, pos := { cue := 3, pos := 7 }, arrival := 20 }
    let s := withRig (withProg { onAir.align.prog with held := some a }) .a
      { onAir.align.rigs.a with ring := [entryAt a.pos 20], slotCount := 32 }
    s.framer.run = .running ∧ s.align.prog.state = .stopped ∧ s.align.prog.held = some a ∧ s.ctl.groups.g0.st.current = Rig.source a.rig
      ∧ (s.links.get (Rig.port a.rig)).state = .up ∧ (∃ e ∈ (s.align.rigs.get a.rig).ring, e.arrival = a.arrival)
      ∧ (s.align.rigs.get a.rig).slotCount = a.arrival + BitVec.ofNat 32 s.align.prog.dInForce ∧ s.align.prog.dInForce ≤ 32
      ∧ s.align.prog.prevCue ≠ a.pos.cue := by decide
theorem test_witness_StepRecordFollowsTheTable :
    (∀ x ∈ [drifting 31 5 2, drifting 30 5 0, drifting 4 6 1, inStepAt 5, inStepAt 0, Reset.step],
      StepOk x ∧ (matching x).matchSkew .b = some 5 ∧ (stepped x).matchSkew .b = none ∧ ((matching x).align.rigs.get .b).step = x)
      ∧ (stepped (drifting 4 6 2)).usedBy .b = false
      ∧ (groupIn (stepped (drifting 4 6 2)) 7 { onAir.ctl.groups.g7 with st := .settled .b }).usedBy .b = true := by
  refine ⟨?_, by decide, by decide⟩
  intro x hx
  simp only [List.mem_cons, List.not_mem_nil, or_false] at hx
  rcases hx with rfl | rfl | rfl | rfl | rfl | rfl <;> exact ⟨by simp [StepOk, drifting, inStepAt, Reset.step], by decide, by decide, rfl⟩
theorem test_witness_StepLostPutsTheRigOut :
    let s := stepped (drifting 4 6 2)
    s.align.prog.state ≠ .stopped ∧ s.ctl.groups.g0.st.current ≠ Rig.source .b ∧ (s.align.rigs.get .b).step.state ≠ .outOfStep
      ∧ (s.align.rigs.get .b).step.miss = 2 := by decide
theorem test_witness_GroupTimersEnd :
    let f := groupIn onAir 5 { onAir.ctl.groups.g5 with st := .fading .a .b 1 0 false }
    let s := groupIn onAir 7 { onAir.ctl.groups.g7 with timer := some 7999 }
    (f.ctl.groups.get 5).st = .fading .a .b 1 0 false ∧ 1 ≤ (f.framer.count - 0).toNat + 1
      ∧ s.framer.run = .running ∧ (s.ctl.groups.get 7).limitReached = false ∧ 0 < (s.ctl.policies.get 7).deferral
      ∧ (s.ctl.groups.get 7).timer = some ((s.ctl.policies.get 7).deferral - 1) := by decide
def judged (a b : HealthState) : State :=
  { matching (inStepAt 5) with health := { a := { monA with state := a }, b := { onAir.health.b with state := b } } }
def force : SwitchReq := { target := some .b, urgency := .immediate, level := 3, hard := false, latched := 0 }
theorem test_witness_FailedRigIsLeft :
    let s := judged .failed .healthy
    s.gang.role = .leader ∧ s.gang.presentCount = 0 ∧ s.align.prog.state ≠ .stopped ∧ (7 : Fin 8) ≠ 0
      ∧ (s.ctl.groups.get 7).st = .settled (Rig.source .a) ∧ (s.health.get .a).state = .failed ∧ (s.ctl.groups.get 7).op = none
      ∧ (s.ctl.groups.get 7).health = none ∧ (s.ctl.groups.get 7).revert = none ∧ (s.ctl.groups.get 7).placed = none
      ∧ (s.ctl.groups.get 7).timer = none ∧ (s.ctl.policies.get 7).revertOn = false ∧ 1 ≤ (s.ctl.policies.get 7).healthLevel
      ∧ ((State.groupStep false false s 7).ctl.groups.get 7).st = .settled .b := by decide
theorem test_witness_FailedRigIsLeft_joined :
    let s : State := { judged .failed .healthy with gang := (follower .joined).gang }
    s.gang.role = .follower ∧ s.gang.state = .joined ∧ s.gang.waiting.get 7 = none ∧ s.align.prog.state ≠ .stopped
      ∧ (s.ctl.groups.get 7).st = .settled (Rig.source .a) ∧ (s.health.get .a).state = .failed
      ∧ (State.groupStep false false s 7).gang.emergency.get 7 = true
      ∧ ((State.groupStep false false s 7).ctl.groups.get 7).st = .settled .b := by decide
theorem test_witness_ForceIsCarriedOut :
    let s := groupIn (judged .healthy .healthy) 7 { onAir.ctl.groups.g7 with op := some force, h := 2 }
    s.gang.role = .leader ∧ s.gang.presentCount = 0 ∧ s.align.prog.state ≠ .stopped ∧ (7 : Fin 8) ≠ 0
      ∧ (s.ctl.groups.get 7).st = .settled (Rig.source .a) ∧ (s.health.get .a).state = .healthy ∧ s.stepOf .a ≠ .outOfStep
      ∧ (s.ctl.groups.get 7).op = some force ∧ force.urgency = .immediate ∧ force.target = some .b ∧ Source.b ≠ Rig.source .a
      ∧ s.eligible 7 .b = true ∧ (s.ctl.groups.get 7).h < force.level ∧ (s.ctl.groups.get 7).health = none
      ∧ (s.ctl.groups.get 7).revert = none ∧ (s.ctl.groups.get 7).placed = none ∧ (s.ctl.groups.get 7).timer = none
      ∧ (s.ctl.policies.get 7).revertOn = false
      ∧ ((State.groupStep false false s 7).ctl.groups.get 7).st = .fading .a .b 4 0 false := by decide
theorem test_force_is_satisfied_by_the_reversal_of_its_period :
    let s := groupIn (judged .healthy .failed) 7
      { onAir.ctl.groups.g7 with st := .fading .a .b 4 0 false, op := some { force with target := some .a } }
    let x := (State.groupStep false false s 7).ctl.groups.get 7
    x.st = .fading .b .a 4 4294967292 true ∧ x.op = none ∧ x.h = 3 := by decide
theorem test_request_of_the_old_source_is_dropped_on_mute :
    let q : SwitchReq := { force with target := none, level := 2 }
    let s (moved : Bool) := groupIn (judged .healthy .healthy) 7
      { onAir.ctl.groups.g7 with st := .settled .mute, h := 3, health := some q, healthMoved := moved }
    ((State.groupStep false false (s true) 7).ctl.groups.get 7).health = none
      ∧ ((State.groupStep false false (s false) 7).ctl.groups.get 7).health = some q := by decide
/-- A leader with one present follower that sees both rigs HEALTHY, group 7's timer running. -/
def leading (x : Group) : State :=
  let s := groupIn (judged .healthy .healthy) 7 x
  let seen : UnitEntry := { entry with healthB := .healthy, stepB := .inStep }
  { s with gang := { s.gang with rows := s.gang.rows.set 0 { Reset.row with present := true, last := some seen } } }
def placedB : Placed :=
  { cause := .operator, level := 3, target := .b, hard := false, point := some playing.pos, moved := false, pin := none, latched := 0 }
theorem test_witness_ForceIsCarriedOut_placed :
    let q : SwitchReq := { force with urgency := .atBoundary }
    let s := leading { onAir.ctl.groups.g7 with op := some q, timer := some 9 }
    0 < s.gang.presentCount ∧ s.gang.role = .leader ∧ s.ctlHealth .a = .healthy ∧ s.ctlStep .a ≠ .outOfStep ∧ s.eligible 7 .b = true
      ∧ (s.ctl.groups.get 7).timer = some 9 ∧ 9 + 1 < (s.ctl.policies.get 7).deferral ∧ (s.ctl.groups.get 7).op = some q
      ∧ (s.ctl.groups.get 7).h < q.level ∧ (s.ctl.groups.get 7).placed = none
      ∧ ((State.groupStep false false s 7).ctl.groups.get 7).placed
          = some { placedB with point := some { cue := 3, pos := BitVec.ofNat 32 (100 + s.ctl.policies.g0.gangLead) } } := by decide
theorem test_witness_ForceIsCarriedOut_at_the_point :
    let s := leading { onAir.ctl.groups.g7 with placed := some placedB, timer := some 9 }
    0 < s.gang.presentCount ∧ s.ctlHealth .a = .healthy ∧ s.ctlStep .a ≠ .outOfStep ∧ s.eligible 7 .b = true
      ∧ (s.ctl.groups.get 7).placed = some placedB ∧ (s.ctl.groups.get 7).op = none ∧ placedB.point = some s.align.prog.pos
      ∧ ((State.groupStep false false s 7).ctl.groups.get 7).st = .fading .a .b 4 0 false := by decide
theorem test_witness_OutputPeriodSendsOneSlot :
    (∀ s ∈ [onAir, inRun .hold, inRun .load, inRun .gangWait, follower .joined],
      s.framer.run ≠ .off ∧ s.framer.resetReq = none ∧ (s.framer.run ≠ .running → s.framer.bypass = true))
      ∧ (inRun .running).framer.bypass = true ∧ onAir.gang.role = .leader ∧ (follower .joined).gang.role = .follower
      ∧ (let full : Holders := { onAir.framer.holders.ra with completion := [{ addr := 0, tag := 1, kind := 25, code := .done, data := .none }] }
         full.short = [] ∧ ∃ x m, full.completion = x :: m)
      ∧ ∃ x m, (replied onAir { head with port := .ra } 7 .done .none).framer.holders.ra.short = x :: m :=
  ⟨by decide, rfl, rfl, rfl, ⟨rfl, _, _, rfl⟩, _, _, rfl⟩
theorem test_witness_OutputPeriodSendsOneSlot_role :
    let st (x : HealthState) : State := { onAir with health := { onAir.health with b := { onAir.health.b with state := x } } }
    let fade : State := groupIn (st .stopped) 7 { onAir.ctl.groups.g7 with st := .fading .mute .b 4 0 false }
    onAir.ctl.groups.g0.st.current = Rig.source .a ∧ onAir.role .a = 1 ∧ (withA { monA with state := .failed }).role .a = 5
      ∧ (groupIn (st .healthy) 7 { onAir.ctl.groups.g7 with st := .settled .b }).role .b = 2 ∧ fade.role .b = 2
      ∧ (st .stopped).role .b = 4 ∧ (st .suspect).role .b = 3 ∧ (st .failed).role .b = 5 := by decide
theorem test_witness_OutputPeriodAdvancesTheProgram :
    let s := withRig (withProg playing) .a { onAir.align.rigs.a with ring := [entryAt { cue := 4, pos := 3 } 51], stopMark := some 60 }
    let e := withRig s .a { s.align.rigs.a with stopMark := some 51 }
    s.framer.run = .running ∧ s.framer.resetReq = none ∧ s.align.prog.state = .running ∧ s.align.prog.dueSet = false
      ∧ s.align.prog.due = some 50 ∧ s.ctl.groups.g0.st.current = Rig.source .a
      ∧ decide (0 ≤ Word.diff (50 + 1) 60) = false ∧ decide (0 ≤ Word.diff (50 + 1) 51) = true ∧ (e.align.rigs.get .a).stopMark = some 51 := by
  decide
theorem test_witness_OutputPeriodAdvancesTheProgram_free :
    let s := withProg { playing with state := .free }
    let e : State := { s with cues := { records := [{ record 3 with policy := { plain with length := some 101, zones := [] } }], staged := none,
                                        inUse := some 3 } }
    s.align.prog.state = .free ∧ s.align.prog.due = some 50 ∧ s.policyInUse.length ≠ some 101 ∧ e.policyInUse.length = some 101
      ∧ (s.programPeriod 63).align.prog.due = some 51 ∧ (e.programPeriod 63).align.prog.state = .stopped := by decide
theorem test_witness_OutputPeriodAdvancesTheProgram_timing :
    let s := stepped (inStepAt 5)
    let o := stepped Reset.step
    Source.a ≠ Source.b ∧ Source.a = Rig.source .a ∧ onAir.align.prog.state = .stopped ∧ s.align.prog.state ≠ .stopped
      ∧ (s.align.rigs.get .b).step.state ≠ .outOfStep ∧ (s.align.rigs.get .b).step.lastSkew = some 5
      ∧ (o.align.rigs.get .b).step.state = .outOfStep ∧ (s.timingChange .a .b false).align.prog.due = some 55
      ∧ s.align.prog.due.isSome = true ∧ s.framer.periodSlot.isSome = true ∧ s.delayE = 12 ∧ (s.timingChange .a .b false).delayE = 7
      ∧ o.align.prog.dInForce ≤ 32 ∧ (o.timingChange .a .b false).delayE = 12
      ∧ (o.timingChange .a .b false).align.prog.anchorPending = true ∧ (s.timingChange .a .bed true).align.prog.state = .free := by decide

/-! ## The store -/

def clip1 : DirEntry :=
  { id := 1, first := 5, count := 1, length := 1024, loopStart := 0, loopLength := 0, state := .sealed, writer := .o1, next := 1024
    damageSeen := false, storeFault := false }
def open1 : DirEntry := { clip1 with state := .writing, next := 14 }
def withStore (t : Store) : State := { onAir with store := t, framer := { onAir.framer with count := 500 } }
def engineAt (op : FlashOp) (job : Job) (start : Word) (progress : Nat) : EngineStep :=
  { op := op, job := job, start := start, progress := progress, suspended := false, orphan := false }
def bufferAt (n : Nat) : PageBuf := { page := 0, frames := List.replicate n zeroFrame }
def uploading (x : EngineStep) : State :=
  withStore { onAir.store with dir := [open1], engine := some x, spares := [(4096, true)], handed := [bufferAt 16] }

theorem test_witness_PageReadFillsTheWindow :
    let s : State := { withStore { onAir.store with dir := [clip1] } with
      player := { onAir.player with tracked := some (1, 0), reading := some (1, 0) } }
    s.framer.run = .running ∧ s.player.reading = some (1, 0) ∧ s.player.tracked = some (1, 0) ∧ s.store.clip 1 = some clip1
      ∧ s.windowWanted.contains 0 = true ∧ holdsPage s.player.window 1 0 = false ∧ s.store.engine = none
      ∧ s.store.physOf 5 % 4 ∉ s.store.readBanks ∧ s.store.clipOf 5 = some clip1 ∧ clip1.state = .sealed := by decide
theorem test_one_read_in_a_bank :
    let s : State := { withStore { onAir.store with dir := [clip1], readBanks := [2, 1] } with
      player := { onAir.player with tracked := some (1, 0), reading := some (1, 0) } }
    s.store.physOf 5 % 4 ∈ s.store.readBanks ∧ s.bankFree 4 = true ∧ exec (.pageRead .clean) s = .next s :=
  ⟨by decide, by decide, rfl⟩
theorem test_witness_PageReadFillsTheWindow_lost :
    let x : LostRead := { clip := 1, sector := 5, page := 3 }
    let s : State := { onAir with player := { onAir.player with lostRead := some x } }
    s.framer.run = .running ∧ s.player.reading = none ∧ s.player.lostRead = some x ∧ s.store.engine = none
      ∧ s.store.physOf x.sector % 4 ∉ s.store.readBanks ∧ s.windowRequest = s
      ∧ ({ s with store := { s.store with readBanks := [2] } }).bankBusy 6 = true := by decide
theorem test_witness_PageReadFillsTheWindow_window :
    let s : State := { withStore { onAir.store with dir := [clip1] } with
      align := { onAir.align with prog := playing }
      cues := { records := [{ record 3 with policy := { plain with clip := some 1 } }], staged := none, inUse := some 3 }
      player := { onAir.player with tracked := some (1, 0) } }
    let r := withRig s .a { s.align.rigs.a with ring := [entryAt { cue := 3, pos := 100 } 55] }
    s.player.tracked = some (1, 0) ∧ s.store.clip 1 = some clip1 ∧ s.windowWanted = [6, 7, 8, 9]
      ∧ r.framer.run = .running ∧ r.player.tracked = r.trackTarget ∧ r.ctl.groups.g0.st.current = Rig.source .a
      ∧ (r.align.rigs.get .a).ring.getLast? = some (entryAt { cue := 3, pos := 100 } 55) ∧ r.cues.inUse = some 3 ∧ r.player.prime = none
      ∧ r.playerPeriod.player.reading = some (1, 6) := by decide
/-- The cue in use is 3; the timing rig's ring ends in cue 4, which names clip 1. -/
def priming (p : Option Prime) (reading : Option (Nat × Nat)) : State :=
  let s : State := { withStore { onAir.store with dir := [clip1] } with
    cues := { records := [{ record 4 with policy := { plain with clip := some 1, bedStart := 2 } }], staged := none, inUse := some 3 }
    player := { onAir.player with prime := p, reading := reading } }
  withRig s .a { s.align.rigs.a with ring := [entryAt { cue := 4, pos := 0 } 55, entryAt { cue := 4, pos := 1 } 56] }
def prime4 : Prime := { cue := 4, clip := 1, bedStart := 2, offset := -2, slots := [] }
theorem test_witness_PageReadFillsTheWindow_prime :
    let s := priming none none
    let x := entryAt { cue := 4, pos := 1 } 56
    s.framer.run = .running ∧ s.ctl.groups.g0.st.current = Rig.source .a ∧ (s.align.rigs.get .a).ring.getLast? = some x
      ∧ s.cues.inUse ≠ some 4 ∧ s.player.lastPrime ≠ some 4 ∧ (s.cues.lookup 4).clip = some 1 ∧ s.store.clip 1 = some clip1
      ∧ clip1.state = .sealed ∧ s.primeUpdate.player.prime = some prime4 := by decide
theorem test_witness_PageReadFillsTheWindow_prime_page :
    let s := priming (some prime4) (some (1, 1))
    s.framer.run = .running ∧ s.player.prime = some prime4 ∧ s.player.tracked = none ∧ s.store.clip prime4.clip = some clip1
      ∧ clip1.id = prime4.clip ∧ s.player.reading = some (prime4.clip, 1) ∧ s.primeWanted.contains 1 = true
      ∧ holdsPage prime4.slots prime4.clip 1 = false ∧ s.store.engine = none ∧ s.store.physOf 5 % 4 ∉ s.store.readBanks := by decide
theorem test_witness_PageReadFillsTheWindow_join :
    let s (c : Half) : State :=
      { priming (some prime4) none with
        align := { onAir.align with prog := { playing with pos := { cue := c, pos := 0 } } }
        cues := { (priming none none).cues with inUse := some c.toNat } }
    (s 4).player.prime = some prime4 ∧ (s 4).player.tracked ≠ (s 4).trackTarget ∧ prime4.cue = (s 4).align.prog.pos.cue
      ∧ (s 4).trackTarget = some (prime4.clip, prime4.bedStart) ∧ prime4.cue ≠ (s 3).align.prog.pos.cue := by decide
theorem test_witness_ProgramStepsComplete :
    let x := engineAt (.page 5 0 [] none false) .clip 499 0
    let m := engineAt (.sealMark 5) .clip 499 0
    let r := engineAt (.retireMark 5) .clip 499 0
    let q : Service := { kind := .bedSeal, tag := 9 }
    let sealing : State := { uploading m with mgmt := { onAir.mgmt with inService := onAir.mgmt.inService.set .o1 (some q) } }
    (uploading x).store.engine = some x ∧ (uploading r).store.engine = some r ∧ sealing.store.engine = some m
      ∧ x.job = .clip ∧ x.orphan = false ∧ 2 ≤ ((uploading x).framer.count - x.start).toNat + 1 ∧ (uploading x).store.writing = some open1
      ∧ (uploading x).store.clipCopy = none ∧ (uploading x).store.handed = [bufferAt 16] ∧ (uploading x).store.dataHeld = false
      ∧ (uploading x).store.lowestErased = some 4096 ∧ (uploading x).fault.first = none
      ∧ sealing.mgmt.inService.get open1.writer = some q ∧ (uploading r).store.sealAfterMark = false := by decide
theorem test_witness_ProgramStepsComplete_held :
    let x := engineAt (.page 5 0 [] none false) .clip 499 0
    let r := engineAt (.retireMark 5) .clip 499 0
    let q : Service := { kind := .bedData, tag := 9 }
    let held (x : EngineStep) (marks : List Nat) : State :=
      { uploading x with
        store := { (uploading x).store with dataHeld := true, sealAfterMark := true, clipMark := marks }
        mgmt := { onAir.mgmt with inService := onAir.mgmt.inService.set .o1 (some q) } }
    (held x []).store.dataHeld = true ∧ (held x []).store.handed = [bufferAt 16] ∧ (held x []).mgmt.inService.get open1.writer = some q
      ∧ (held r [5]).store.engine = some r ∧ (held r [5]).store.sealAfterMark = true ∧ (held r [5]).store.clipMark.drop 1 = []
      ∧ (held r [5, 6]).store.clipMark.drop 1 ≠ [] := by decide
theorem test_witness_BacklogErasesEnd :
    let x := engineAt (.erase 5) .backlog 301 11
    let y := engineAt (.erase 5) .backlog 301 10
    let s (x : EngineStep) := withStore { onAir.store with engine := some x, backlog := [4, 5], spares := [(4096, true)] }
    ∀ z ∈ [x, y], (s z).store.engine = some z ∧ z.op = .erase 5 ∧ z.job = .backlog ∧ (s z).store.readBanks = []
      ∧ (s z).store.backlogWait = none ∧ (s z).store.backlog.find? (fun l => (s z).store.physOf l == 5) = some 5
      ∧ x.progress = 11 ∧ y.progress < 11 ∧ 200 ≤ ((s z).framer.count - z.start).toNat + 1 ∧ (s z).store.lowestErased = some 4096 := by decide
theorem test_witness_BacklogErasesEnd_spares :
    let s (p progress : Nat) (spares : List (Nat × Bool)) (wait : Option (Nat × Nat)) : State :=
      withStore { onAir.store with
        engine := some (engineAt (.erase p) .backlog 301 progress), backlog := [4, 5], spares := spares, backlogWait := wait }
    let kinds (x : State) : Option FaultKind × List FaultKind := (x.fault.first.map (fun f => f.kind), x.fault.later)
    (s 5 10 [(4096, false)] none).store.lowestErased = none ∧ (s 5 10 [(4096, false)] none).store.spares ≠ []
      ∧ (s 5 10 [] none).store.spares = [] ∧ (s 5 10 [] none).store.backlog.find? (fun l => (s 5 10 [] none).store.physOf l == 5) = some 5
      ∧ (s 4096 11 [(4096, false)] (some (5, 5))).store.backlogWait = some (5, 5)
      ∧ (s 4096 11 [(4096, false)] (some (5, 5))).store.lowestErased = none ∧ (4096, false) ∈ (s 4096 11 [(4096, false)] (some (5, 5))).store.spares
      ∧ (s 4096 11 [(4096, false)] (some (5, 5))).store.backlogMark = []
      ∧ (s 4096 11 [(4096, false)] (some (5, 5))).store.lowestUnerased = some 4096
      ∧ (∃ y ∈ (s 4096 10 [(4096, false), (4097, false)] (some (5, 5))).store.spares, y.1 ≠ 4096)
      ∧ (∃ t, exec .eraseTimeout (s 5 10 [] none) = .next t ∧ kinds t = (some .storeErase, [.sparesExhausted])) :=
  ⟨by decide, by decide, rfl, by decide, rfl, by decide, by decide, rfl, by decide, by decide, _, rfl, by decide⟩

/-! ## Side frames and the gang -/

def sideOf (kind : Nat) (body : List Byte) : RawFrame := { marks := true, bytes := sideBytes kind body }
theorem test_side_frames_pass :
    checkSide (sideOf 2 [0, 7, 1]) = some { kind := 2, body := [0, 7, 1] } ∧ checkSide (sideOf 2 [0, 7]) = some { kind := 2, body := [0, 7] }
      ∧ checkSide (sideOf 4 [1, 2]) = some { kind := 4, body := [1, 2] } ∧ checkSide (sideOf 5 [1]) = some { kind := 5, body := [1] }
      ∧ checkSide (sideOf 1 []) = none ∧ checkSide (sideOf 6 []) = none := by decide +kernel

theorem test_witness_SideFramesReachTheirAgent :
    (State.reset.links.get .o1).state ≠ .up ∧ checkSide (sideOf 6 []) = none ∧ (onAir.links.get (CtlPort.port .o1)).state = .up
      ∧ checkSide (sideOf 2 [0, 7, 1]) = some { kind := 2, body := [0, 7, 1] }
      ∧ byteAt [0, 7, 1] 2 = BitVec.ofNat 8 (Request.kind .identify).code
      ∧ checkSide (sideOf 2 [0, 7]) = some { kind := 2, body := [0, 7] } ∧ (onAir.links.get .gu).state = .up
      ∧ checkSide (sideOf 4 [1, 2]) = some { kind := 4, body := [1, 2] } ∧ (onAir.links.get .gd).state = .up
      ∧ checkSide (sideOf 5 [1]) = some { kind := 5, body := [1] } :=
  ⟨by decide, test_side_frames_pass.2.2.2.2.2, rfl, test_side_frames_pass.1, by decide, test_side_frames_pass.2.1, rfl,
    test_side_frames_pass.2.2.1, rfl, test_side_frames_pass.2.2.2.1⟩
/-- On GU and GD: a CONTROL, the other gang frame and a body without its reading. -/
theorem test_witness_SideFramesReachTheirAgent_wrong_kinds :
    (onAir.links.get .gu).state = .up ∧ (onAir.links.get .gd).state = .up ∧ checkSide (sideOf 2 [0, 7, 1]) = some { kind := 2, body := [0, 7, 1] }
      ∧ checkSide (sideOf 4 [1, 2]) = some { kind := 4, body := [1, 2] } ∧ checkSide (sideOf 5 [1]) = some { kind := 5, body := [1] }
      ∧ (∀ t, SideBody.plain ≠ .tick t) ∧ (∀ es, SideBody.plain ≠ .report es)
      ∧ exec (.sideFrame .gu (sideOf 2 [0, 7, 1]) (.control (some .identify))) onAir = .next onAir := by
  have h := test_side_frames_pass
  refine ⟨rfl, rfl, h.1, h.2.2.1, h.2.2.2.1, by simp, by simp, ?_⟩
  simp only [exec, execSideFrame, State.takeSide, h.1, State.routeSide, Port.ctl]
  split <;> rfl
theorem test_witness_side_frame_lengths :
    let b : List Byte := [0, 7, 2]
    let c : List Byte := [0, 7, 2, 0]
    let q : Request := .readStatus .unit
    checkSide (sideOf 2 b) = some { kind := 2, body := b } ∧ checkSide (sideOf 2 c) = some { kind := 2, body := c }
      ∧ byteAt b 2 = BitVec.ofNat 8 q.kind.code ∧ b.length = 3 ∧ 3 < c.length
      ∧ (∀ k : Request, byteAt [0, 7, 34] 2 ≠ BitVec.ofNat 8 k.kind.code) ∧ Reaches onAir head .identify ∧ (Request.readFault).kind ≠ q.kind :=
  ⟨by decide +kernel, by decide +kernel, by decide, rfl, by decide,
    fun k => by generalize k.kind = c; cases c <;> decide, reaches onAir .identify, by decide⟩
theorem test_witness_side_frames_of_the_gang :
    (follower .joined).framer.run = .running ∧ (follower .joined).gang.role = .follower ∧ ((follower .joined).links.get .gd).state = .up
      ∧ 1 ≤ tick.hop ∧ tick.hop ≤ 3 := by decide
theorem test_witness_FollowerTakesTicks :
    onAir.gang.role = .leader ∧ (follower .joined).framer.run = .running ∧ (follower .joined).gang.role = .follower
      ∧ ((follower .joined).links.get .gu).state = .up ∧ tick.hop = 1 ∧ ({ tick with hop := 3 } : Tick).hop ≤ 3
      ∧ 3 < ({ tick with hop := 4 } : Tick).hop := by decide
theorem test_witness_FollowerTakesTicks_waiting :
    let e : VecEntry := { vecEntry with source := .b }
    let s (pt : ShowPos) (x : VecEntry) (u : Urgency) : State :=
      let j : State := { judged .healthy .healthy with gang := (follower .joined).gang }
      { j with gang := { j.gang with waiting := j.gang.waiting.set 7 (some { entry := x, point := some pt, urgency := u }) } }
    let here : ShowPos := playing.pos
    let st (x : State) : GroupState := ((State.groupStep false false x 7).ctl.groups.get 7).st
    (s here e .atBoundary).gang.role = .follower ∧ (s here e .atBoundary).gang.state = .joined
      ∧ (s here e .atBoundary).align.prog.state ≠ .stopped ∧ ((s here e .atBoundary).ctl.groups.get 7).st = .settled (Rig.source .a)
      ∧ ((s here e .atBoundary).health.get .a).state = .healthy ∧ (s here e .atBoundary).stepOf .a ≠ .outOfStep
      ∧ e.source ≠ Rig.source .a ∧ (s here e .atBoundary).eligible 7 e.source = true
      ∧ st (s here e .atBoundary) = .fading .a .b 32 0 false
      ∧ st (s { here with pos := 101 } e .immediate) = .settled .a ∧ st (s { here with pos := 99 } e .immediate) = .fading .a .b 32 0 false
      ∧ (State.groupStep false false (s { here with pos := 99 } e .atBoundary) 7).fault.first.map (fun f => f.kind) = some .gangLate
      ∧ (State.groupStep false false (s here vecEntry .atBoundary) 7).gang.applied.get 7 = some 1 := by decide
theorem test_witness_ReportTableFollowsReports :
    let s : State := { onAir with gang := { onAir.gang with rows := onAir.gang.rows.set 2 { Reset.row with present := true, silence := 39 } } }
    onAir.framer.run = .running ∧ (onAir.links.get .gd).state = .up ∧ (follower .joined).gang.role = .follower ∧ onAir.gang.role = .leader
      ∧ (∃ t, exec (.gangReport .gd [{ entry with position := 3 }, entry]) onAir = .next t
          ∧ t.gang.rows.get 0 = { present := true, silence := 0, last := some entry, taken := true } ∧ t.gang.rows.get 1 = onAir.gang.rows.get 1
          ∧ (t.gang.rows.get 2).last = some { entry with position := 3 } ∧ t.gang.size = 3)
      ∧ (s.gang.rows.get 2).present = true ∧ (s.gang.rows.get 2).taken = false
      ∧ (s.gang.rows.get 2).silence = 39 :=
  ⟨rfl, rfl, rfl, rfl, ⟨_, rfl, by decide⟩, rfl, rfl, rfl⟩
theorem test_witness_FollowerJoinsAndIsolates :
    let joining (x : GangState) : State := { follower x with gang := { (follower x).gang with run := 40, received := octOf (some vecEntry) } }
    let losing : State := { follower .joined with gang := { (follower .joined).gang with silence := 39 } }
    (joining .discovering).framer.run = .running ∧ (joining .isolated).gang.role = .follower ∧ (joining .isolated).gang.state = .isolated
      ∧ (joining .discovering).gang.state = .discovering ∧ (joining .isolated).gang.run = 40
      ∧ (joining .isolated).gang.received.get 0 = some vecEntry ∧ losing.gang.state = .joined ∧ losing.gang.silence = 39
      ∧ losing.gang.tickTaken = false := by decide
theorem test_witness_FollowerJoinsAndIsolates_adoption :
    let s (a : HealthState) (x : Source) : State :=
      { judged a .healthy with gang := { (follower .isolated).gang with run := 40, received := octOf (some { vecEntry with source := x }) } }
    (s .healthy .b).eligible 7 .a = true ∧ (s .failed .b).eligible 7 .a = false ∧ ((s .failed .b).ctl.groups.get 7).st.current = .a
      ∧ (s .healthy .b).gang.received.get 7 ≠ none ∧ (follower .isolated).gang.received.get 7 = none := by decide

/-! ## The judgement of a request -/

theorem reachesOnAir (k : ReqKind) : Reaches onAir head k := reaches onAir k

theorem test_witness_IgnoredRequestsChangeNothing :
    (State.reset.links.get (CtlPort.port head.port)).state ≠ .up
      ∧ ({ onAir.mgmt with grants := onAir.mgmt.grants.set .o1 .none } : Mgmt).grants.get head.port = .none
      ∧ ({ head with addr := 14 } : CtlHead).addr ≠ BitVec.ofNat 8 onAir.gang.position ∧ ({ head with addr := 14 } : CtlHead).addr ≠ 15 := by
  decide
theorem test_witness_FirstRefusalAnswers :
    (onAir.links.get (CtlPort.port head.port)).state = .up ∧ onAir.mgmt.grants.get head.port ≠ .none
      ∧ head.addr = BitVec.ofNat 8 onAir.gang.position ∧ onAir.framer.run ≠ .off ∧ Reaches onAir head .writeCue :=
  ⟨rfl, by decide, rfl, by decide, reachesOnAir _⟩
theorem test_first_refusals :
    exec (.showLock { head with addr := 15 }) onAir = .next (replied onAir { head with addr := 15 } 22 .malformed .none)
      ∧ exec (.showLock { head with port := .ra }) onAir = .next (replied onAir { head with port := .ra } 22 .denied .none)
      ∧ exec (.showLock head) (inRun .hold) = .next (replied (inRun .hold) head 22 .busy .none)
      ∧ exec (.showLock { head with lengthOk := false }) onAir = .next (replied onAir { head with lengthOk := false } 22 .malformed .none) :=
  ⟨rfl, rfl, rfl, rfl⟩

/-! ## Reads -/

theorem test_witness_ReadFaultReturnsTheRecord :
    (onAir.links.get (CtlPort.port .ra)).state = .up ∧ onAir.mgmt.grants.get .ra ≠ .none ∧ head.addr = BitVec.ofNat 8 onAir.gang.position
      ∧ ({ head with addr := 15 } : CtlHead).addr = 15 ∧ onAir.mgmt.inService.get .ra = none ∧ head.lengthOk = true
      ∧ RecordOk { first := some someFault, later := [.rigStall, .unitReset] } :=
  ⟨rfl, by decide, rfl, rfl, rfl, rfl, ⟨(fun h => absurd h (by simp)), by simp [FaultKind.code]⟩⟩
theorem test_witness_ReadHealthReturnsTheRecord :
    (onAir.links.get (CtlPort.port .rb)).state = .up ∧ onAir.mgmt.grants.get .rb ≠ .none ∧ head.addr = BitVec.ofNat 8 onAir.gang.position
      ∧ onAir.mgmt.inService.get .rb = none ∧ head.lengthOk = true := by decide
theorem test_witness_ReadsAnswerAndChangeNothing :
    ∀ k ∈ [ReqKind.identify, .readStatus, .readGroup, .readJournal, .bedList, .bedStatus], Reaches onAir head k := fun k _ => reachesOnAir k
theorem test_read_journal :
    let x : JournalEntry :=
      { number := 63, group := 1, origin := .a, dest := .b, cause := .operator, level := 3, urgency := .immediate, outcome := .seamless,
        pos := { cue := 1, pos := 2 }, count := 3 }
    let l := [x, { x with number := 64 }, { x with number := 65 }]
    let s : State := { onAir with ctl := { onAir.ctl with journal := { entries := l, next := 66 } } }
    exec (.readJournal head 63) s = .next (replied s head 9 .done (.journal 3 (some 65) l)) := rfl
theorem test_witness_ReadBadFrameUnlocks : Reaches onAir head .readBadFrame := reachesOnAir _
theorem test_witness_CueReadsAnswer : Reaches onAir head .readCue ∧ Reaches onAir head .listCues := ⟨reachesOnAir _, reachesOnAir _⟩
theorem test_witness_ReadRouteReturnsEntries :
    (onAir.links.get (CtlPort.port head.port)).state = .up ∧ onAir.mgmt.grants.get head.port ≠ .none
      ∧ head.addr = BitVec.ofNat 8 onAir.gang.position ∧ onAir.mgmt.inService.get head.port = none ∧ onAir.framer.run = .running
      ∧ (1 ≤ 32 ∧ 32 ≤ 32 ∧ 32 + 32 ≤ 64) ∧ ¬(1 ≤ 32 ∧ 32 ≤ 32 ∧ 33 + 32 ≤ 64) := by decide
theorem test_read_route :
    exec (.readRoute head .active 63 1) onAir = .next (replied onAir head 15 .done (.routes [Reset.route 63]))
      ∧ exec (.readRoute head .shadow 63 2) onAir = .next (replied onAir head 15 .outOfRange .none) := ⟨rfl, rfl⟩

/-! ## Requests of the monitors and the fault record -/

theorem test_witness_ClearFaultEmptiesTheRecord : Reaches onAir head .clearFault := reachesOnAir _
theorem test_witness_SetHealthLimitsReplaces :
    Reaches onAir head .setHealthLimits
      ∧ exec (.setHealthLimits head .both { Reset.limits with gap := 400 }) onAir
        = .next (replied { onAir with health := { a := { monA with limits := { Reset.limits with gap := 400 } },
                                                  b := { onAir.health.b with limits := { Reset.limits with gap := 400 } } } } head 4 .done .none)
      ∧ exec (.setHealthLimits head .a { Reset.limits with gap := 401 }) onAir = .next (replied onAir head 4 .outOfRange .none) :=
  ⟨reachesOnAir _, rfl, rfl⟩
theorem test_witness_RequalifyActsOnTheState :
    ∀ st : HealthState, ∀ b : Bool, ∀ j : Option Nat,
      Reaches (withA { monA with state := st, requalifyReady := b, softJump := j }) head .requalifyRig
        ∧ ((withA { monA with state := st, requalifyReady := b, softJump := j }).health.get .a).state = st
        ∧ ((withA { monA with state := st, requalifyReady := b, softJump := j }).health.get .a).softJump = j :=
  fun _ _ _ => ⟨reaches _ _, rfl, rfl⟩
/-! ## The cue map -/

def withCues (m : CueMap) : State := { onAir with cues := m }
def fullMap : List CueRecord := (List.range 256).map (fun n => { record (n + 1) with policy := { plain with zones := [] } })

theorem test_record_checks :
    CueRecordValid (record 65535) = true ∧ firstBadField (record 0) = some 1
      ∧ firstBadField { record 3 with policy := { plain with framesPerBeat := 239 } } = some 3
      ∧ firstBadField { record 3 with policy := { plain with zones := [(0, 11), (10, 100)] } } = some 6
      ∧ firstBadField { record 3 with policy := { plain with zones := [(0, 10), (10, 101)] } } = some 7
      ∧ firstBadField { record 3 with policy := { plain with clip := some 256 } } = some 8 := by decide
theorem test_witness_WriteCueChecksTheRecord : Reaches onAir head .writeCue ∧ firstBadField (record 0) = some 1 ∧ 3 ≠ (record 0).policy.zones.length :=
  ⟨reachesOnAir _, by decide, by decide⟩
theorem test_witness_WriteCueAppliesAtOnce :
    Reaches (withCues { records := fullMap, staged := none, inUse := some 3 }) head .writeCue ∧ CueRecordValid (record 2) = true
      ∧ (withCues { records := fullMap, staged := none, inUse := some 3 }).cues.inUse ≠ some (record 2).cue
      ∧ (∃ x ∈ fullMap, x.cue = 2) ∧ (¬∃ x ∈ fullMap, x.cue = 257) ∧ 256 ≤ ({ records := fullMap, staged := none, inUse := none } : CueMap).occupancy
      ∧ onAir.cues.occupancy < 256 ∧ onAir.cues.records.Pairwise (fun x y => x.cue < y.cue) :=
  ⟨reaches _ _, by decide, by decide, ⟨{ record 2 with policy := { plain with zones := [] } }, by decide +kernel, rfl⟩,
    by decide +kernel, by decide +kernel, by decide, List.Pairwise.nil⟩
theorem test_witness_EditsOfTheCueInUseAreStaged :
    let s := withCues { records := [record 3], staged := none, inUse := some 3 }
    let n := withCues { records := [], staged := some { cue := 3, action := .write plain, isNew := true }, inUse := some 3 }
    CueRecordValid (record 3) = true ∧ s.cues.inUse = some (record 3).cue ∧ Reaches s head .writeCue ∧ Reaches n head .deleteCue
      ∧ (∃ x ∈ s.cues.records, x.cue = 3) ∧ (¬∃ x ∈ n.cues.records, x.cue = 3) ∧ n.cues.staged ≠ none
      ∧ (∃ x, n.cues.staged = some x ∧ x.isNew = true) ∧ n.cues.occupancy < 256 :=
  ⟨by decide, rfl, reaches _ _, reaches _ _, by decide, by decide, by decide, ⟨_, rfl, rfl⟩, by decide⟩
theorem test_witness_DeleteCueAppliesAtOnce :
    let s := withCues { records := [record 3, record 4], staged := none, inUse := some 3 }
    Reaches s head .deleteCue ∧ s.cues.inUse ≠ some 4 ∧ (∃ x ∈ s.cues.records, x.cue = 4) ∧ ¬∃ x ∈ s.cues.records, x.cue = 5 :=
  ⟨reaches _ _, by decide, by decide, by decide⟩

/-! ## Routes, policies and operator requests -/

theorem test_witness_RouteRequestsWriteTheirOwn :
    Reaches onAir head .writeRoute ∧ Reaches onAir head .commitRoutes ∧ 0 ≠ [Reset.route 63].length
      ∧ (1 ≤ [Reset.route 63].length ∧ 63 + [Reset.route 63].length ≤ 64) ∧ 64 < 64 + [Reset.route 63].length
      ∧ (let e := Reset.route 63; e.group ≤ 7 ∧ e.rigA = some 63 ∧ e.rigB = some 63 ∧ e.track = none)
      ∧ (∀ n ∈ [8, 15], ¬n ≤ 7) ∧ (let e := { Reset.route 0 with track := some 4 }; ∃ k, e.track = some k ∧ ¬k ≤ 3) :=
  ⟨reachesOnAir _, reachesOnAir _, by decide, by decide, by decide, by decide, by decide, ⟨4, rfl, by decide⟩⟩
theorem test_route_ranges :
    (∀ n ∈ [0, 63], routeValid { group := 7, rigA := some n, rigB := some n, track := some 3 } = true)
      ∧ routeValid { Reset.route 0 with group := 8 } = false ∧ routeValid { Reset.route 0 with rigA := some 64 } = false
      ∧ routeValid { Reset.route 0 with rigB := some 64 } = false ∧ routeValid { Reset.route 0 with track := some 4 } = false := by decide
theorem test_witness_RouteRequestsWriteTheirOwn_commit :
    let s (c : Option CommitTiming) : State := { onAir with routes := { onAir.routes with commit := c } }
    ∀ c ∈ [none, some .now, some .atCueChange],
      (s c).framer.run = .running ∧ (s c).framer.resetReq = none ∧ (s c).routes.commit = c ∧ (s c).align.prog.state = .stopped := by decide
theorem test_witness_WriteGroupReplacesThePolicy :
    let p := Reset.policy 4
    Reaches onAir head .writeGroup ∧ (1 ≤ p.fallback.length ∧ p.fallback.length ≤ 3 ∧ p.fallback.Nodup ∧ .mute ∉ p.fallback)
      ∧ (p.operatorLevel ≤ 3 ∧ p.healthLevel ≤ 3 ∧ p.revertLevel ≤ 3 ∧ p.fade ≤ 32 ∧ p.deferral ≤ 40000)
      ∧ (400 ≤ p.revertSettle ∧ p.revertSettle ≤ 400000)
      ∧ (4 ≤ p.dSet ∧ p.dSet ≤ 32 ∧ 4 ≤ p.startGrace ∧ p.startGrace ≤ 400 ∧ 2 ≤ p.gangLead ∧ p.gangLead ≤ 16)
      ∧ ¬({ p with fade := 33 } : GroupPolicy).fade ≤ 32 ∧ 7 < 8
      ∧ p.fallback.head? = some (onAir.ctl.groups.get 7).st.current ∧ ({ p with fallback := [.b] } : GroupPolicy).fallback.head? ≠ some .a :=
  ⟨reachesOnAir _, by decide, by decide, by decide, by decide, by decide, by decide, rfl, by decide⟩
theorem test_witness_OperatorRequestsActOnTheirGroups :
    [(1 : Fin 8), 7].Nodup ∧ ([] : List (Fin 8)).Nodup ∧ Reaches onAir head .forceSource ∧ Reaches onAir head .releaseForce
      ∧ onAir.gang.role = .leader ∧ (follower .joined).gang.role = .follower ∧ (follower .joined).gang.state = .joined
      ∧ (1 : Fin 8) ∈ [(1 : Fin 8), 7] ∧ (0 : Fin 8) ∉ [(1 : Fin 8), 7] ∧ (onAir.ctl.groups.get 1).st.current ≠ .b
      ∧ [(1 : Fin 8), 7] ≠ [] :=
  ⟨by decide, by decide, reachesOnAir _, reachesOnAir _, rfl, rfl, rfl, by decide, by decide, by decide, by decide⟩
theorem test_follower_is_not_leader :
    (follower .joined).gang.role = .follower ∧ Reaches (follower .joined) head .forceSource ∧ Reaches (follower .discovering) head .releaseForce :=
  have h (g : GangState) (k : ReqKind) : Reaches (follower g) head k :=
    { up := rfl, granted := Or.inl rfl, addressed := ⟨Or.inl rfl, fun h => absurd h (by decide)⟩, idle := rfl,
      loaded := Or.inr (Or.inl rfl), unlocked := Or.inl rfl, whole := rfl }
  ⟨rfl, h _ _, h _ _⟩
theorem test_witness_StopProgramStops :
    Reaches onAir head .stopProgram ∧ onAir.align.prog.state = .stopped ∧ Reaches (withProg playing) head .stopProgram
      ∧ (withProg playing).align.prog.state ≠ .stopped :=
  ⟨reachesOnAir _, rfl, reaches _ _, by decide⟩
theorem test_witness_ManagementRequestsActAtOnce :
    (∀ k ∈ [ReqKind.showLock, .showUnlock, .writePortGrants, .resetUnit], Reaches onAir head k) ∧ onAir.framer.resetReq = none
      ∧ (Grant.none = .full ∨ Grant.observe = .full ∨ Grant.none = .full ∨ Grant.full = .full)
      ∧ (∀ p, ({ ra := some .observe, rb := some .none, o1 := some .none, o2 := some .observe } : Four (Option Grant)).get p ≠ some .full)
      ∧ ∃ p, ({ ra := some .full, rb := some .none, o1 := none, o2 := some .observe } : Four (Option Grant)).get p = none :=
  ⟨fun k _ => reachesOnAir k, rfl, by decide, fun p => by cases p <;> decide, .o1, rfl⟩

theorem test_witness_ManagementRequestsActAtOnce_second_reset :
    Reaches onAir head .resetUnit ∧ (resetSent .o2).framer.resetReq = some { port := .o2, sent := true } ∧ Reaches (resetSent .o2) head .resetUnit :=
  ⟨reachesOnAir _, rfl, { reachesOnAir .resetUnit with }⟩

/-! ## Requests of the store -/

theorem test_witness_BedOpenAllocates :
    Reaches onAir head .bedOpen ∧ 255 ≤ 255 ∧ State.firstRun onAir.store 1 = some 0
      ∧ State.firstRun { onAir.store with logical := [(4095, .damaged)] } 4096 = none
      ∧ ([clip1, { clip1 with id := 3 }] : List DirEntry).Pairwise (fun x y => x.id < y.id)
      ∧ (∀ e ∈ [clip1, { clip1 with id := 3 }], e.id ≠ 2) ∧ 0 + 4096 ≤ 4096 :=
  ⟨reachesOnAir _, by decide, by decide +kernel, by decide +kernel, by decide, by decide, by decide⟩
theorem test_witness_BedDataFillsThePage :
    let s (n : Nat) (l : List PageBuf) : State := { onAir with store := { onAir.store with dir := [open1], fill := some (bufferAt n), handed := l } }
    Reaches onAir head .bedData ∧ onAir.store.clip 1 = none ∧ Reaches (s 14 []) head .bedData ∧ (s 14 []).store.clip 1 = some open1
      ∧ open1.state = .writing ∧ open1.writer = head.port ∧ open1.writer ≠ .o2 ∧ open1.storeFault = false ∧ 14 = open1.next ∧ 14 < open1.length
      ∧ (s 12 []).store.fill = some (bufferAt 12) ∧ ((bufferAt 12).frames ++ [zeroFrame, zeroFrame]).length < 16
      ∧ 16 ≤ ((bufferAt 14).frames ++ [zeroFrame, zeroFrame]).length ∧ (s 14 []).store.handed = [] ∧ (s 14 [bufferAt 16]).store.handed ≠ []
      ∧ ((s 14 [bufferAt 16]).framer.holders.get head.port).completion.length < 2 :=
  ⟨reachesOnAir _, rfl, reaches _ _, rfl, rfl, rfl, by decide, rfl, rfl, by decide, rfl, by decide, by decide, rfl, by decide,
    by decide⟩
theorem test_witness_ClipsAreSealedAndRemoved :
    let s (e : DirEntry) : State := { onAir with store := { onAir.store with dir := [e], fill := some (bufferAt 0) } }
    let full : DirEntry := { open1 with next := 1024 }
    Reaches (s open1) head .bedSeal ∧ (s open1).store.clip 1 = some open1 ∧ open1.next < open1.length ∧ Reaches (s full) head .bedSeal
      ∧ (s full).store.clip 1 = some full ∧ full.state = .writing ∧ full.writer = head.port ∧ full.storeFault = false ∧ full.length ≤ full.next
      ∧ ((s full).framer.holders.get head.port).completion.length < 2 ∧ Reaches (s open1) head .bedAbort ∧ Reaches onAir head .bedAbort
      ∧ onAir.store.clip 1 = none ∧ Reaches (s clip1) head .bedDelete ∧ (s clip1).store.clip 1 = some clip1 ∧ clip1.state ≠ .writing :=
  ⟨reaches _ _, rfl, by decide, reaches _ _, rfl, rfl, rfl, rfl, by decide, by decide,
    reaches _ _, reachesOnAir _, rfl, reaches _ _, rfl, by decide⟩
/-- A deletion leaves another clip's tracking to the next output period, and stops its own clip's. -/
theorem test_witness_ClipsAreSealedAndRemoved_player :
    let two : DirEntry := { clip1 with id := 2, first := 9 }
    let s (q : Player) : State := { onAir with
      store := { onAir.store with dir := [clip1, two] }, player := q
      align := { onAir.align with prog := playing }
      cues := { records := [{ record 3 with policy := { plain with clip := some 1 } }], staged := none, inUse := some 3 } }
    let held : Player := { onAir.player with tracked := some (2, 0), reading := some (2, 70), prime := some { prime4 with clip := 2 } }
    (s onAir.player).trackTarget = some (1, 0) ∧ ((s onAir.player).deleteClip two).player = onAir.player
      ∧ ((s held).deleteClip two).player = { onAir.player with lostRead := some { clip := 2, sector := 10, page := 6 } } := by decide
theorem test_witness_ClipsAreSealedAndRemoved_refusals :
    let s (e : DirEntry) : State := { onAir with store := { onAir.store with dir := [e], fill := some (bufferAt 3) } }
    let failed : DirEntry := { open1 with storeFault := true }
    let others : DirEntry := { open1 with writer := .o2 }
    let two : State := { s { open1 with next := 1024 } with
      framer := { onAir.framer with holders := { onAir.framer.holders with
        o1 := { onAir.framer.holders.o1 with completion := List.replicate 2 { addr := 0, tag := 1, kind := 25, code := .done, data := .none } } } } }
    (s clip1).store.clip 1 = some clip1 ∧ clip1.state ≠ .writing ∧ (s failed).store.clip 1 = some failed ∧ failed.writer = head.port
      ∧ others.writer ≠ head.port ∧ 2 ≤ (two.framer.holders.get head.port).completion.length
      ∧ exec (.bedSeal head 1) two = .next (replied two head 26 .busy .none)
      ∧ exec (.bedSeal head 1) (s failed) = .next (replied (s failed) head 26 .storeFault .none)
      ∧ exec (.bedSeal head 1) (s others) = .next (replied (s others) head 26 .busy .none) :=
  ⟨rfl, by decide, rfl, rfl, by decide, by decide, rfl, rfl, rfl⟩
theorem test_witness_ClipsAreSealedAndRemoved_abort :
    let e : DirEntry := { open1 with writer := .o2 }
    let q : Service := { kind := .bedSeal, tag := 9 }
    let j : CopyJob := { logical := 5, source := 5, kind := .sealMark, target := some 4096, plan := [] }
    let x := engineAt (.page 4096 0 [] none false) .clip 499 0
    let s : State := { uploading x with
      store := { (uploading x).store with dir := [e], clipCopy := some j, relocating := [4096], spares := [], sealing := true }
      mgmt := { onAir.mgmt with inService := onAir.mgmt.inService.set .o2 (some q) } }
    let idle : State := { s with store := { s.store with engine := none } }
    s.store.clip 1 = some e ∧ e.state = .writing ∧ s.store.clipCopy = some j ∧ j.target = some 4096 ∧ x.job = .clip
      ∧ s.store.sealing = true ∧ s.mgmt.inService.get e.writer = some q ∧ s.mgmt.inService.get head.port = none
      ∧ (s.abortClip e).store.orphanTarget = some 4096 ∧ (idle.abortClip e).store.spares = [(4096, false)]
      ∧ (s.abortClip e).store.stateOf 5 = .dirty ∧ (s.abortClip e).mgmt.inService.get e.writer = none := by decide
theorem test_witness_SaveSettingsTakesTheSnapshot :
    Reaches onAir head .saveSettings ∧ onAir.otherHoldsStore head.port = false ∧ (onAir.framer.holders.get head.port).completion.length < 2
      ∧ (let s : State := { onAir with mgmt := { onAir.mgmt with inService := onAir.mgmt.inService.set .o2 (some { kind := .bedSeal, tag := 1 }) } }
         Reaches s head .saveSettings ∧ s.otherHoldsStore head.port = true) :=
  ⟨reachesOnAir _, by decide, by decide,
    { up := rfl, granted := Or.inl rfl, addressed := ⟨Or.inl rfl, fun h => absurd h (by decide)⟩, idle := rfl,
      loaded := Or.inr (Or.inl rfl), unlocked := Or.inl rfl, whole := rfl }, by decide⟩
theorem test_witness_SaveSettingsTakesTheSnapshot_steps :
    let job (n : Nat) : SaveJob := { port := .o1, erased := true, next := n, pages := 2 }
    let q : Service := { kind := .saveSettings, tag := 9 }
    let s (x : EngineStep) (n : Nat) : State :=
      { withStore { onAir.store with engine := some x, save := some (job n) } with
        mgmt := { onAir.mgmt with saveBuffer := some settings, inService := onAir.mgmt.inService.set .o1 (some q) } }
    let e (n : Nat) := engineAt (.erase 4160) .save 301 n
    let p (k : Nat) := engineAt (.settingsPage k) .save 499 0
    (s (e 11) 0).store.engine = some (e 11) ∧ (e 11).job = .save ∧ (e 11).orphan = false ∧ (s (e 11) 0).store.save = some (job 0)
      ∧ (s (e 11) 0).mgmt.saveBuffer = some settings ∧ (s (e 11) 0).mgmt.inService.get (job 0).port = some q
      ∧ (s (e 11) 0).store.readBanks = [] ∧ (e 10).progress < 11 ∧ 200 ≤ ((s (e 10) 0).framer.count - (e 10).start).toNat + 1
      ∧ 2 ≤ ((s (p 0) 0).framer.count - (p 0).start).toNat + 1 ∧ 0 + 1 < (job 0).pages ∧ (job 1).pages ≤ 1 + 1
      ∧ 0 + 1 = imagePages settings := by decide

/-! ## Searches, mixes, records and frames -/

theorem test_witness_SearchFindsTheFirstSwitchPosition :
    CueRecordValid (record 3) = true ∧ CueRecordValid { record 3 with policy := { plain with zones := [] } } = true := by decide
theorem test_searches :
    search plain 0 = none ∧ search { plain with zones := [(0, 10)], beatOffset := 9 } 10 = none
      ∧ search { plain with length := none, zones := [(0, 10), (11, 250)], beatOffset := 9 } 10 = some 489 := by decide +kernel
theorem test_witness_MixLiesBetweenItsSides : 31 < 32 ∧ 11 < 12 ∧ State.mixSample 31 32 11 (-8388608) 8388607 = 8388607 := by decide
/-- Group 7 on the given state, rigs HEALTHY, the rigs' rings holding the program position as given. -/
def outOf (st : GroupState) (b : HealthState) (ra rb : List RingEntry) : State :=
  let s := groupIn { withProg playing with health := { a := { monA with state := .healthy }, b := { onAir.health.b with state := b } } } 7
    { onAir.ctl.groups.g7 with st := st }
  withRig (withRig s .a { onAir.align.rigs.a with ring := ra }) .b { onAir.align.rigs.b with ring := rb, step := inStepAt 0 }
def toneEntry (n : Int) : RingEntry := { pos := playing.pos, arrival := 9, channels := 1, samples := [List.replicate 12 n] }
def route7 : RouteEntry := { group := 7, rigA := some 0, rigB := some 0, track := some 3 }
theorem test_witness_MixLiesBetweenItsSides_frame :
    let out (st : GroupState) (b : HealthState) (ra rb : List RingEntry) := (outOf st b ra rb).channelSamples route7
    route7.group = (7 : Fin 8).val ∧ out (.settled .a) .healthy [toneEntry 24] [toneEntry 48] = List.replicate 12 24
      ∧ out (.settled .a) .healthy [] [toneEntry 48] = List.replicate 12 48
      ∧ out (.settled .a) .failed [] [toneEntry 48] = List.replicate 12 0
      ∧ out (.settled .b) .failed [toneEntry 24] [toneEntry 48] = List.replicate 12 0
      ∧ out (.settled .mute) .healthy [toneEntry 24] [] = List.replicate 12 0 ∧ out (.settled .bed) .healthy [] [] = List.replicate 12 0
      ∧ out (.fading .a .b 1 0 false) .healthy [toneEntry 24] [toneEntry 48] = [26, 28, 30, 32, 34, 36, 38, 40, 42, 44, 46, 48]
      ∧ onAir.align.prog.state = .stopped ∧ (withProg playing).align.prog.state ≠ .stopped := by decide
theorem test_witness_MixLiesBetweenItsSides_sides :
    let fade (o d : Source) (start : Word) : GroupState := .fading o d 1 start false
    let out (st : GroupState) (b : HealthState) := (outOf st b [toneEntry 24] [toneEntry 48]).channelSamples route7
    out (fade .mute .a 0) .healthy = [2, 4, 6, 8, 10, 12, 14, 16, 18, 20, 22, 24] ∧ out (fade .a .bed 0) .healthy = out (fade .a .mute 0) .healthy
      ∧ out (fade .a .b 0) .failed = [22, 20, 18, 16, 14, 12, 10, 8, 6, 4, 2, 0] ∧ (onAir.framer.count - 0).toNat < 1
      ∧ out (fade .a .b 4294967295) .healthy = List.replicate 12 48 ∧ 1 ≤ (onAir.framer.count - 4294967295).toNat := by decide
theorem test_witness_MixLiesBetweenItsSides_bank :
    let s : State := { State.reset with align := { State.reset.align with prog := { State.reset.align.prog with
      state := .running, due := some 0 } } }
    Inv s ∧ s.align.prog.state ≠ .stopped :=
  have h : Inv State.reset := State.volatileReset_inv rfl State.Reset.journal_ok State.Reset.fault_ok
  ⟨{ h with align := ⟨h.align.1, h.align.2.1, rfl, rfl⟩ }, by decide⟩
theorem test_witness_LaterFaultsJoinTheSet :
    let s : State := { onAir with fault := { first := some someFault, later := [.rigStall, .unitReset] } }
    s.fault.first = some someFault ∧ RecordOk s.fault ∧ (s.raise .stepLost .ra (.skew none)).fault.later = [.rigStall, .stepLost, .unitReset] :=
  ⟨rfl, ⟨(fun h => absurd h (by simp)), by simp [FaultKind.code]⟩, by decide⟩
theorem test_witness_SentMainFramesAreReceived :
    audioMain.channels.length ≤ 64 ∧ (audioMain.kind = .idle ↔ audioMain.channels = []) ∧ audioMain.summary.position ≤ 3
      ∧ audioMain.summary.size ≤ 4
      ∧ ∀ c ∈ audioMain.channels, c.length = 12 ∧ ∀ x ∈ c, -8388608 ≤ x ∧ x ≤ 8388607 := by decide
theorem test_crc_of_nine_digits : crc32 [0x31, 0x32, 0x33, 0x34, 0x35, 0x36, 0x37, 0x38, 0x39] = 0xCBF43926 := by decide +kernel

end Sys2Proof.Tests
end

section
/-! PROOFS, family 01. The step record after an evaluation (R17 to R19): what R18's match and miss columns leave in it, and the fault record
after the step-lost event. -/

namespace Sys2Proof.Machine

/-! ## R18's match columns -/

@[simp] theorem StepRec.matched_miss (x : StepRec) (k : Int) : (x.matched k).miss = 0 := by
  unfold StepRec.matched
  split <;> rfl

@[simp] theorem StepRec.matched_lastSkew (x : StepRec) (k : Int) : (x.matched k).lastSkew = some k := by
  unfold StepRec.matched
  split <;> rfl

theorem StepRec.matched_same {x : StepRec} {k : Int} (hs : x.state ≠ .outOfStep) (hk : x.lastSkew = some k) :
    x.matched k = { state := if 32 ≤ x.streak + 1 then .inStep else .drifting, streak := min 32 (x.streak + 1), miss := 0,
                    lastSkew := some k } :=
  if_pos ⟨hs, hk⟩

theorem StepRec.matched_afresh {x : StepRec} {k : Int} (h : x.state = .outOfStep ∨ x.lastSkew ≠ some k) :
    x.matched k = { state := .drifting, streak := 1, miss := 0, lastSkew := some k } :=
  if_neg fun ⟨hs, hk⟩ => h.elim hs (· hk)

/-- An IN STEP record keeps its full streak at a match of its own skew. -/
theorem StepRec.matched_of_inStep {x : StepRec} {k : Int} (hx : StepOk x) (hs : x.state = .inStep) (hk : x.lastSkew = some k) :
    (x.matched k).streak = 32 ∧ (x.matched k).state = .inStep := by
  have hstreak : x.streak = 32 := by
    simp only [StepOk, hs] at hx
    obtain ⟨hfull, -, -⟩ := hx
    exact hfull
  have hne : x.state ≠ .outOfStep := by simp [hs]
  simp [StepRec.matched_same hne hk, hstreak]

/-- A DRIFTING record counts its streak up at a match of its own skew, and is IN STEP at 32. -/
theorem StepRec.matched_of_drifting {x : StepRec} {k : Int} (hx : StepOk x) (hs : x.state = .drifting) (hk : x.lastSkew = some k) :
    (x.matched k).streak = x.streak + 1 ∧ (x.matched k).state = if x.streak + 1 = 32 then .inStep else .drifting := by
  have hstreak : x.streak < 32 := by
    simp only [StepOk, hs] at hx
    obtain ⟨-, hlow, -, -⟩ := hx
    exact hlow
  have hfull : 32 ≤ x.streak + 1 ↔ x.streak + 1 = 32 := by omega
  have hmin : min 32 (x.streak + 1) = x.streak + 1 := by omega
  have hne : x.state ≠ .outOfStep := by simp [hs]
  simp [StepRec.matched_same hne hk, hfull, hmin]

namespace State

variable {s : State} {r : Rig}

theorem setStep_rig_step (s : State) (r : Rig) (v : StepRec) : ((s.setStep r v).align.rigs.get r).step = v := by
  simp

/-! ## R19's event -/

theorem stepLostEvent_fault (s : State) (r : Rig) (skew : Option Int) :
    (s.stepLostEvent r skew).fault = if s.usedBy r then captured s .stepLost r.origin (.skew skew) else s.fault := by
  unfold stepLostEvent
  cases hu : s.usedBy r
  · simp
  · simp [raise_fault, captured]

theorem stepLostNow_step (s : State) (r : Rig) : ((s.stepLostNow r).align.rigs.get r).step = Reset.step := by
  simp [stepLostNow]

theorem stepLostNow_fault (s : State) (r : Rig) :
    (s.stepLostNow r).fault
      = if s.usedBy r then captured s .stepLost r.origin (.skew (s.align.rigs.get r).step.lastSkew) else s.fault :=
  stepLostEvent_fault (s.setStep r Reset.step) r _

/-! ## R18's miss column -/

theorem stepMiss_of_outOfStep (h : (s.align.rigs.get r).step.state = .outOfStep) : s.stepMiss r = s := if_pos h

theorem stepMiss_of_miss_lt (h : (s.align.rigs.get r).step.state ≠ .outOfStep) (hm : (s.align.rigs.get r).step.miss < 2) :
    s.stepMiss r = s.setStep r { (s.align.rigs.get r).step with miss := (s.align.rigs.get r).step.miss + 1 } := by
  have hlow : ¬3 ≤ (s.align.rigs.get r).step.miss + 1 := by omega
  exact (if_neg h).trans (if_neg hlow)

theorem stepMiss_third (h : (s.align.rigs.get r).step.state ≠ .outOfStep) (hm : (s.align.rigs.get r).step.miss = 2) :
    s.stepMiss r = s.stepLostNow r := by
  have hthird : 3 ≤ (s.align.rigs.get r).step.miss + 1 := by omega
  exact (if_neg h).trans (if_pos hthird)

/-! ## The evaluation -/

theorem stepEvaluate_of_match {k : Int} (h : s.matchSkew r = some k) :
    s.stepEvaluate r = s.setStep r ((s.align.rigs.get r).step.matched k) := by
  unfold stepEvaluate
  rw [h]
  rfl

theorem stepEvaluate_of_miss (h : s.matchSkew r = none) : s.stepEvaluate r = s.stepMiss r := by
  unfold stepEvaluate
  rw [h]

end State

/-- Settles O19: a match leaves the record of `StepRec.matched`, a miss that of `State.stepMiss`, each by its column of R18's table. -/
theorem stepRecordFollowsTheTable : Obligations.StepRecordFollowsTheTable := by
  intro s r hx x y
  cases hskew : s.matchSkew r with
  | some k =>
    have hnext : s.stepEvaluate r = s.setStep r (x.matched k) := State.stepEvaluate_of_match hskew
    have hy : y = x.matched k := by simp only [y, hnext, State.setStep_rig_step]
    simp only [hy, StepRec.matched_miss, StepRec.matched_lastSkew, true_and]
    refine ⟨StepRec.matched_of_inStep hx, StepRec.matched_of_drifting hx, fun h => ?_, by rw [hnext, State.setStep_fault]⟩
    simp [StepRec.matched_afresh h]
  | none =>
    have hnext : s.stepEvaluate r = s.stepMiss r := State.stepEvaluate_of_miss hskew
    refine ⟨fun hout => hnext.trans (State.stepMiss_of_outOfStep hout), fun hin hlow => ?_, fun hin hthird => ?_⟩
    · have hearly : s.stepEvaluate r = s.setStep r { x with miss := x.miss + 1 } :=
        hnext.trans (State.stepMiss_of_miss_lt hin hlow)
      exact ⟨by simp only [y, hearly, State.setStep_rig_step], by rw [hearly, State.setStep_fault]⟩
    · have hlost : s.stepEvaluate r = s.stepLostNow r := hnext.trans (State.stepMiss_third hin hthird)
      have hy : y = Reset.step := by simp only [y, hlost, State.stepLostNow_step]
      refine ⟨hy, fun hu => ?_, fun hu => ?_⟩
      · rw [hlost, State.stepLostNow_fault, if_pos hu]
      · rw [hlost, State.stepLostNow_fault, if_neg (by simp [hu])]

end Sys2Proof.Machine
end

section
/-! PROOFS, family 02. READ HEALTH (R23): the conditions under which an open read reaches its owner, and the monitor's reply. -/

namespace Sys2Proof.Machine

/-- A read of R178 that is taken at address 15, before GANG WAIT and under the lock needs no FULL grant, no own address and no run state. -/
theorem Reaches.of_openRead {s : State} {h : CtlHead} {k : ReqKind} (hread : k.isRead = true) (hfar : k.farEnd = true)
    (hearly : k.early = true) (hlock : k.underLock = false) (up : (s.links.get (CtlPort.port h.port)).state = .up)
    (granted : s.mgmt.grants.get h.port ≠ .none) (addressed : h.addr = BitVec.ofNat 8 s.gang.position ∨ h.addr = 15)
    (idle : s.mgmt.inService.get h.port = none) (whole : h.lengthOk = true) : Reaches s h k where
  up := up
  granted := by
    cases hg : s.mgmt.grants.get h.port with
    | full => exact .inl rfl
    | observe => exact .inr ⟨rfl, hread⟩
    | none => exact absurd hg granted
  addressed := ⟨addressed, fun _ => hfar⟩
  idle := idle
  loaded := .inr (.inr hearly)
  unlocked := .inr hlock
  whole := whole

namespace State

/-- R178's code of READ HEALTH, as the reply's kind byte. -/
theorem readHealth_kindByte : BitVec.ofNat 8 ReqKind.readHealth.code = 3 := rfl

theorem ownReadHealth_of_rig {rig : RigArg} {r : Rig} (hr : RigArg.rig rig = some r) (s : State) (h : CtlHead) :
    s.ownReadHealth h rig = replied s h 3 .done (.health (s.monitor r)) := by
  simp only [ownReadHealth, hr, answer_eq_replied, readHealth_kindByte]

theorem ownReadHealth_of_not_rig {rig : RigArg} (hr : RigArg.rig rig = none) (s : State) (h : CtlHead) :
    s.ownReadHealth h rig = replied s h 3 .outOfRange .none := by
  simp only [ownReadHealth, hr, answer_eq_replied, readHealth_kindByte]

theorem exec_readHealth_of_reaches {s : State} {h : CtlHead} (hr : Reaches s h .readHealth) (rig : RigArg) :
    exec (.readHealth h rig) s = .next (s.ownReadHealth h rig) :=
  congrArg Host.Outcome.next (control_reaches hr _)

end State

/-- Settles O36: READ HEALTH is an open read, so it reaches the health monitor, which answers by the rig the parameter names. -/
theorem readHealthReturnsTheRecord : Obligations.ReadHealthReturnsTheRecord := by
  intro s h rig hup hgrant haddr hidle hwhole
  have hreach : Reaches s h .readHealth := .of_openRead rfl rfl rfl rfl hup hgrant haddr hidle hwhole
  rw [State.exec_readHealth_of_reaches hreach]
  congr 1
  cases rig with
  | a => exact State.ownReadHealth_of_rig (rig := .a) rfl s h
  | b => exact State.ownReadHealth_of_rig (rig := .b) rfl s h
  | both => exact State.ownReadHealth_of_not_rig (rig := .both) rfl s h
  | other => exact State.ownReadHealth_of_not_rig (rig := .other) rfl s h

end Sys2Proof.Machine
end

section
/-! PROOFS, family 03. The cue map: R45's checks of a record and the number of the first that fails, and WRITE CUE and DELETE CUE for a cue
that is not the cue in use (R49, R50). -/

namespace Sys2Proof.Machine

/-! ## The first failing check of a list -/

open Classical in
/-- The place, counted from 0, of the first check of a list that does not hold. -/
noncomputable def firstFailing (l : List Prop) : Option Nat := l.findIdx? (fun c => !decide c)

theorem firstFailing_eq_none_iff {l : List Prop} : firstFailing l = none ↔ ∀ c ∈ l, c := by
  simp [firstFailing, List.findIdx?_eq_none_iff]

theorem firstFailing_eq_some_iff {l : List Prop} {i : Nat} :
    firstFailing l = some i ↔ ∃ c, l[i]? = some c ∧ ¬c ∧ ∀ (j : Nat) d, j < i → l[j]? = some d → d := by
  simp only [firstFailing, List.findIdx?_eq_some_iff_getElem, Bool.not_eq_true', decide_eq_false_iff_not, Classical.not_not]
  constructor
  · rintro ⟨hi, hbad, hbefore⟩
    refine ⟨l[i], List.getElem?_eq_getElem hi, hbad, fun j d hj hd => ?_⟩
    obtain ⟨-, rfl⟩ := List.getElem?_eq_some_iff.mp hd
    exact hbefore j hj
  · rintro ⟨c, hc, hbad, hbefore⟩
    obtain ⟨hi, rfl⟩ := List.getElem?_eq_some_iff.mp hc
    exact ⟨hi, hbad, fun j hj => hbefore j _ hj (List.getElem?_eq_getElem _)⟩

/-- One branch of an if-chain that answers the number of the first failing check, the checks numbered from `k`. -/
theorem ite_eq_firstFailing_cons {bad c : Prop} [Decidable bad] {l : List Prop} {k : Nat} {rest : Option Nat} (hbad : bad ↔ ¬c)
    (hrest : rest = (firstFailing l).map (· + (k + 1))) :
    (if bad then some k else rest) = (firstFailing (c :: l)).map (· + k) := by
  by_cases hc : c
  · simp [hbad, hc, hrest, firstFailing, List.findIdx?_cons, Function.comp_def, Nat.add_comm, Nat.add_left_comm]
  · simp [hbad, hc, firstFailing, List.findIdx?_cons]

/-! ## The checks of a record (R45) -/

theorem all_zoneOk_iff {l : List (Nat × Nat)} : l.all zoneOk = true ↔ ∀ z ∈ l, z.1 < z.2 ∧ z.2 ≤ 4294967295 := by
  simp only [zoneOk, List.all_eq_true, Bool.and_eq_true, decide_eq_true_iff]
  rfl

theorem zonesSorted_iff {l : List (Nat × Nat)} :
    zonesSorted l = true ↔ ∀ (i : Nat) z y, l[i]? = some z → l[i + 1]? = some y → z.2 ≤ y.1 := by
  induction l with
  | nil => simp [zonesSorted]
  | cons z m ih =>
    cases m with
    | nil => simp [zonesSorted]
    | cons y m =>
      rw [zonesSorted, Bool.and_eq_true, decide_eq_true_iff, ih]
      constructor
      · rintro ⟨hhead, htail⟩ i
        cases i with
        | zero => simpa using hhead
        | succ i => exact htail i
      · exact fun h => ⟨h 0 z y rfl rfl, fun i => h (i + 1)⟩

/-- R45's list of what holds of a record that WRITE CUE takes. -/
def recordChecks (r : CueRecord) : List Prop :=
  [1 ≤ r.cue ∧ r.cue ≤ 65535,
   ∀ n, r.policy.length = some n → 1 ≤ n ∧ n ≤ 4294967295,
   r.policy.framesPerBeat = 0 ∨ (240 ≤ r.policy.framesPerBeat ∧ r.policy.framesPerBeat ≤ 24000),
   r.policy.beatOffset < r.policy.framesPerBeat ∨ (r.policy.framesPerBeat = 0 ∧ r.policy.beatOffset = 0),
   r.policy.zones.length ≤ 4 ∧ ∀ z ∈ r.policy.zones, z.1 < z.2 ∧ z.2 ≤ 4294967295,
   ∀ (i : Nat) z y, r.policy.zones[i]? = some z → r.policy.zones[i + 1]? = some y → z.2 ≤ y.1,
   ∀ n z, r.policy.length = some n → r.policy.zones.getLast? = some z → z.2 ≤ n,
   ∀ c, r.policy.clip = some c → 1 ≤ c ∧ c ≤ 255]

/-- Each branch of `firstBadField` is taken exactly where its check of R45 does not hold. -/
theorem firstBadField_eq_firstFailing (r : CueRecord) : firstBadField r = (firstFailing (recordChecks r)).map (· + 1) := by
  dsimp only [firstBadField, recordChecks]
  refine ite_eq_firstFailing_cons ?cue <| ite_eq_firstFailing_cons ?length <| ite_eq_firstFailing_cons ?beat <|
    ite_eq_firstFailing_cons ?offset <| ite_eq_firstFailing_cons ?zones <| ite_eq_firstFailing_cons ?sorted <|
    ite_eq_firstFailing_cons ?lastZone <| ite_eq_firstFailing_cons ?clip rfl
  case cue => omega
  case length =>
    have hmax : Config.maxPosition = 4294967295 := rfl
    cases r.policy.length with
    | none => simp
    | some n =>
      simp only [Bool.or_eq_true, decide_eq_true_iff, Option.some.injEq, forall_eq']
      omega
  case beat => omega
  case offset => omega
  case zones => rw [← all_zoneOk_iff, Classical.not_and_iff_not_or_not, Nat.not_le, Bool.not_eq_true]
  case sorted => rw [← zonesSorted_iff, Bool.not_eq_true]
  case lastZone => cases r.policy.length <;> cases r.policy.zones.getLast? <;> simp
  case clip =>
    cases r.policy.clip with
    | none => simp
    | some c =>
      simp only [Bool.or_eq_true, decide_eq_true_iff, Option.some.injEq, forall_eq']
      omega

theorem cueRecordValid_iff_firstBadField {r : CueRecord} : CueRecordValid r = true ↔ firstBadField r = none := Option.isNone_iff_eq_none

theorem cueRecordValid_iff_recordChecks {r : CueRecord} : CueRecordValid r = true ↔ ∀ c ∈ recordChecks r, c := by
  rw [cueRecordValid_iff_firstBadField, firstBadField_eq_firstFailing, Option.map_eq_none_iff, firstFailing_eq_none_iff]

theorem firstBadField_eq_some_iff {r : CueRecord} {i : Nat} :
    firstBadField r = some (i + 1)
      ↔ ∃ c, (recordChecks r)[i]? = some c ∧ ¬c ∧ ∀ (j : Nat) d, j < i → (recordChecks r)[j]? = some d → d := by
  rw [firstBadField_eq_firstFailing, ← firstFailing_eq_some_iff]
  simp

/-! ## The map after an edit (R46, R49, R50) -/

theorem mem_putRecord_self (r : CueRecord) (l : List CueRecord) : r ∈ putRecord r l := by
  induction l with
  | nil => simp [putRecord]
  | cons x m ih =>
    simp only [putRecord]
    split
    · exact List.mem_cons_self
    · split
      · exact List.mem_cons_self
      · exact List.mem_cons_of_mem x ih

/-- Records sorted by cue number hold one record of a cue. -/
theorem eq_of_sorted_of_cue_eq {l : List CueRecord} (hl : l.Pairwise (fun x y => x.cue < y.cue)) {x y : CueRecord} (hx : x ∈ l) (hy : y ∈ l)
    (hc : x.cue = y.cue) : x = y := by
  induction hl with
  | nil => cases hx
  | cons hhead _ ih =>
    rcases List.mem_cons.mp hx with rfl | hxtail <;> rcases List.mem_cons.mp hy with rfl | hytail
    · rfl
    · exact absurd hc (Nat.ne_of_lt (hhead y hytail))
    · exact absurd hc (Nat.ne_of_gt (hhead x hxtail))
    · exact ih hxtail hytail

theorem mem_putRecord_iff {r x : CueRecord} {l : List CueRecord} (hl : l.Pairwise (fun x y => x.cue < y.cue)) :
    x ∈ putRecord r l ↔ x = r ∨ (x ∈ l ∧ x.cue ≠ r.cue) := by
  constructor
  · intro hx
    by_cases hc : x.cue = r.cue
    · exact .inl (eq_of_sorted_of_cue_eq (putRecord_sorted r hl) hx (mem_putRecord_self r l) hc)
    · exact (mem_putRecord hx).imp_right (⟨·, hc⟩)
  · rintro (rfl | ⟨hx, hc⟩)
    · exact mem_putRecord_self x l
    · exact mem_putRecord_of_ne hx hc

namespace CueMap

variable {m : CueMap} {r : CueRecord} {c : Nat}

theorem write_of_badField {n : Nat} (h : firstBadField r = some n) :
    m.write r = { map := m, code := .outOfRange, data := .field n, notice := false } := by
  simp only [write, h]

theorem write_elsewhere (hv : CueRecordValid r = true) (hu : m.inUse ≠ some r.cue)
    (hroom : (∃ x ∈ m.records, x.cue = r.cue) ∨ m.occupancy < 256) :
    m.write r = { map := { m with records := putRecord r m.records }, code := .done, data := .staged false, notice := true } := by
  rw [← hasRecord_iff] at hroom
  simp only [write, cueRecordValid_iff_firstBadField.mp hv, if_neg hu]
  exact if_pos hroom

theorem write_elsewhere_full (hv : CueRecordValid r = true) (hu : m.inUse ≠ some r.cue)
    (hnew : ¬∃ x ∈ m.records, x.cue = r.cue) (hfull : 256 ≤ m.occupancy) :
    m.write r = { map := m, code := .full, data := .none, notice := false } := by
  rw [← hasRecord_iff] at hnew
  simp only [write, cueRecordValid_iff_firstBadField.mp hv, if_neg hu]
  exact if_neg (not_or.mpr ⟨hnew, Nat.not_lt.mpr hfull⟩)

theorem delete_elsewhere (hu : m.inUse ≠ some c) (hc : ∃ x ∈ m.records, x.cue = c) :
    m.delete c = { map := { m with records := dropRecord c m.records }, code := .done, data := .staged false, notice := true } := by
  rw [← hasRecord_iff] at hc
  simp only [delete, if_neg hu, if_pos hc]

theorem delete_elsewhere_notFound (hu : m.inUse ≠ some c) (hc : ¬∃ x ∈ m.records, x.cue = c) :
    m.delete c = { map := m, code := .notFound, data := .none, notice := false } := by
  rw [← hasRecord_iff] at hc
  simp only [delete, if_neg hu, if_neg hc]

end CueMap

/-! ## The requests -/

namespace State

variable {s : State} {h : CtlHead}

/-- R55: a record-changed notice reaches the bed player alone. -/
theorem recordChanged_eq_setPlayer (s : State) (c : Nat) : ∃ v, s.recordChanged c = s.setPlayer v := by
  refine ⟨(s.recordChanged c).player, ?_⟩
  obtain ⟨hframer, hlinks, hhealth, hcues, hroutes, hstore, hgang, hfault, hmgmt, hpending, halign, hctl⟩ := recordChanged_frame (s := s) c
  generalize s.recordChanged c = t at *
  cases t
  simp_all [setPlayer]

/-- An edit that leaves the map and raises no notice only answers. -/
theorem cueEdited_unchanged (s : State) (h : CtlHead) (k : ReqKind) (c : Nat) (code : Completion) (data : ReplyData) :
    s.cueEdited h k c { map := s.cues, code := code, data := data, notice := false } = replied s h (BitVec.ofNat 8 k.code) code data := rfl

theorem cueEdited_notice (s : State) (h : CtlHead) (k : ReqKind) (c : Nat) (m : CueMap) (code : Completion) (data : ReplyData) :
    s.cueEdited h k c { map := m, code := code, data := data, notice := true }
      = replied ((s.setCues m).recordChanged c) h (BitVec.ofNat 8 k.code) code data := rfl

theorem exec_writeCue_malformed (hr : Reaches s h .writeCue) (r : CueRecord) {n : Nat} (hn : n ≠ r.policy.zones.length) :
    exec (.writeCue h r n) s = .next (replied s h 10 .malformed .none) :=
  congrArg Host.Outcome.next ((control_reaches hr _).trans (if_pos hn))

theorem exec_writeCue_of_reaches (hr : Reaches s h .writeCue) (r : CueRecord) :
    exec (.writeCue h r r.policy.zones.length) s = .next (s.cueEdited h .writeCue r.cue (s.cues.write r)) :=
  congrArg Host.Outcome.next ((control_reaches hr _).trans (if_neg (fun hn => hn rfl)))

theorem exec_deleteCue_of_reaches (hr : Reaches s h .deleteCue) (c : Nat) :
    exec (.deleteCue h c) s = .next (s.cueEdited h .deleteCue c (s.cues.delete c)) :=
  congrArg Host.Outcome.next (control_reaches hr _)

end State

/-- Settles O44: `firstBadField` numbers the first of R45's checks that fails, and the reply carries that number. -/
theorem writeCueChecksTheRecord : Obligations.WriteCueChecksTheRecord := by
  intro r p checks
  refine ⟨cueRecordValid_iff_recordChecks, fun i => firstBadField_eq_some_iff, fun s h hr => ⟨fun n hn => ?_, fun i hi => ?_⟩⟩
  · exact State.exec_writeCue_malformed hr r hn
  · rw [State.exec_writeCue_of_reaches hr, CueMap.write_of_badField hi, State.cueEdited_unchanged]
    rfl

/-- Settles O45: away from the cue in use the edit puts the record into the map and gives the notice, or finds no room. -/
theorem writeCueAppliesAtOnce : Obligations.WriteCueAppliesAtOnce := by
  intro s h r hr hv hu
  refine ⟨fun hroom => ?_, fun hnew hfull => ?_, fun hsorted => ⟨fun x => mem_putRecord_iff hsorted, putRecord_sorted r hsorted⟩,
    State.recordChanged_eq_setPlayer _ _⟩
  · rw [State.exec_writeCue_of_reaches hr, CueMap.write_elsewhere hv hu hroom, State.cueEdited_notice]
    rfl
  · rw [State.exec_writeCue_of_reaches hr, CueMap.write_elsewhere_full hv hu hnew hfull, State.cueEdited_unchanged]
    rfl

/-- Settles O47: away from the cue in use the edit drops the record from the map and gives the notice, or finds none. -/
theorem deleteCueAppliesAtOnce : Obligations.DeleteCueAppliesAtOnce := by
  intro s h c hr hu left
  refine ⟨fun hc => ?_, fun hc => ?_, State.recordChanged_eq_setPlayer left c⟩
  · rw [State.exec_deleteCue_of_reaches hr, CueMap.delete_elsewhere hu hc, State.cueEdited_notice]
    rfl
  · rw [State.exec_deleteCue_of_reaches hr, CueMap.delete_elsewhere_notFound hu hc, State.cueEdited_unchanged]
    rfl

end Sys2Proof.Machine
end

section
/-! PROOFS, family 05. READ ROUTE (R103): the conditions under which a read taken from GANG WAIT on reaches its owner, and the entries read. -/

namespace Sys2Proof.Machine

/-- Every grant of a port but NONE is enough for a read (R177). -/
theorem Grant.eq_full_or_observe {g : Grant} (hg : g ≠ .none) : g = .full ∨ g = .observe := by
  cases g with
  | full => exact .inl rfl
  | observe => exact .inr rfl
  | none => exact absurd rfl hg

/-- A read of R178 that is taken at address 15 and under the lock needs, from GANG WAIT on, no FULL grant and no own address. -/
theorem Reaches.of_loadedRead {s : State} {h : CtlHead} {k : ReqKind} (hread : k.isRead = true) (hfar : k.farEnd = true)
    (hlock : k.underLock = false) (up : (s.links.get (CtlPort.port h.port)).state = .up)
    (granted : s.mgmt.grants.get h.port ≠ .none) (addressed : h.addr = BitVec.ofNat 8 s.gang.position ∨ h.addr = 15)
    (idle : s.mgmt.inService.get h.port = none) (whole : h.lengthOk = true)
    (loaded : s.framer.run = .gangWait ∨ s.framer.run = .running) : Reaches s h k where
  up := up
  granted := (Grant.eq_full_or_observe granted).imp_right (⟨·, hread⟩)
  addressed := ⟨addressed, fun _ => hfar⟩
  idle := idle
  loaded := loaded.imp_right .inl
  unlocked := .inr hlock
  whole := whole

namespace State

variable {s : State} {h : CtlHead} {first count : Nat}

/-- The range check of `ownReadRoute` refuses exactly the ranges that do not fit. -/
theorem readRoute_refused_iff : (count = 0 ∨ 32 < count ∨ 64 < first + count) ↔ ¬(1 ≤ count ∧ count ≤ 32 ∧ first + count ≤ 64) := by
  omega

theorem ownReadRoute_of_not_fits (s : State) (h : CtlHead) (bank : BankArg) (hfit : ¬(1 ≤ count ∧ count ≤ 32 ∧ first + count ≤ 64)) :
    s.ownReadRoute h bank first count = replied s h 15 .outOfRange .none :=
  if_pos (readRoute_refused_iff.mpr hfit)

theorem ownReadRoute_active (s : State) (h : CtlHead) (hfit : 1 ≤ count ∧ count ≤ 32 ∧ first + count ≤ 64) :
    s.ownReadRoute h .active first count = replied s h 15 .done (.routes ((s.routes.active.drop first).take count)) :=
  if_neg (fun hbad => readRoute_refused_iff.mp hbad hfit)

theorem ownReadRoute_shadow (s : State) (h : CtlHead) (hfit : 1 ≤ count ∧ count ≤ 32 ∧ first + count ≤ 64) :
    s.ownReadRoute h .shadow first count = replied s h 15 .done (.routes ((s.routes.shadow.drop first).take count)) :=
  if_neg (fun hbad => readRoute_refused_iff.mp hbad hfit)

/-- A bank name other than ACTIVE and SHADOW is answered as a range that does not fit is. -/
theorem ownReadRoute_other (s : State) (h : CtlHead) (first count : Nat) :
    s.ownReadRoute h .other first count = replied s h 15 .outOfRange .none :=
  ite_self _

theorem exec_readRoute_of_reaches (hr : Reaches s h .readRoute) (bank : BankArg) (first count : Nat) :
    exec (.readRoute h bank first count) s = .next (s.ownReadRoute h bank first count) :=
  congrArg Host.Outcome.next (control_reaches hr _)

end State

/-- Settles O40: READ ROUTE is a read taken from GANG WAIT on, so it reaches the route banks, which answer by the range and the bank named. -/
theorem readRouteReturnsEntries : Obligations.ReadRouteReturnsEntries := by
  intro s h first count hup hgrant haddr hidle hwhole hrun fits
  have hreach : Reaches s h .readRoute := .of_loadedRead rfl rfl rfl hup hgrant haddr hidle hwhole hrun
  simp only [State.exec_readRoute_of_reaches hreach]
  refine ⟨fun hfit => ?active, fun hfit => ?shadow, fun hfit bank => ?unfit, ?other⟩ <;> congr 1
  case active => exact State.ownReadRoute_active s h hfit
  case shadow => exact State.ownReadRoute_shadow s h hfit
  case unfit => exact State.ownReadRoute_of_not_fits s h bank hfit
  case other => exact State.ownReadRoute_other s h first count

end Sys2Proof.Machine
end

section
/-! PROOFS, family 08. The fault record (R159 to R162): the set of later kinds after one more fault, the flags that are read off the record's
fields, and READ FAULT. -/

namespace Sys2Proof.Machine

/-! ## The set of later kinds -/

/-- 8.3 numbers the kinds from 1 in the order of their declaration. -/
theorem FaultKind.code_eq_ctorIdx_succ (k : FaultKind) : k.code = k.ctorIdx + 1 := by
  cases k <;> rfl

theorem FaultKind.code_injective : Function.Injective FaultKind.code := by
  intro j k h
  have hidx : j.ctorIdx = k.ctorIdx := by
    rw [code_eq_ctorIdx_succ, code_eq_ctorIdx_succ] at h
    exact Nat.succ.inj h
  rw [← FaultKind.ofNat_ctorIdx j, hidx, FaultKind.ofNat_ctorIdx]

theorem FaultKind.join_cons_of_lt {k j : FaultKind} (h : k.code < j.code) (l : List FaultKind) : k.join (j :: l) = k :: j :: l :=
  if_pos h

theorem FaultKind.join_cons_self (k : FaultKind) (l : List FaultKind) : k.join (k :: l) = k :: l := by
  simp [join]

theorem FaultKind.join_cons_of_gt {k j : FaultKind} (h : j.code < k.code) (l : List FaultKind) : k.join (j :: l) = j :: k.join l :=
  (if_neg (Nat.lt_asymm h)).trans (if_neg (Nat.ne_of_gt h))

/-- R161: a fault's kind joins the set and every kind stays in it; codes that are equal are one kind, so `join` drops none. -/
theorem FaultKind.cons_subset_join (k : FaultKind) (l : List FaultKind) : k :: l ⊆ k.join l := by
  induction l with
  | nil => exact List.Subset.refl _
  | cons j l ih =>
    rcases Nat.lt_trichotomy k.code j.code with hlt | heq | hgt
    · rw [join_cons_of_lt hlt]
      exact List.Subset.refl _
    · cases code_injective heq
      simp [join_cons_self]
    · obtain ⟨hk, hl⟩ := List.cons_subset.mp ih
      rw [join_cons_of_gt hgt]
      simp [hk, List.subset_cons_of_subset j hl]

theorem FaultKind.mem_join_iff (k j : FaultKind) (l : List FaultKind) : j ∈ k.join l ↔ j = k ∨ j ∈ l :=
  ⟨mem_join k j l, fun h => cons_subset_join k l (List.mem_cons.mpr h)⟩

theorem FaultKind.join_ne_nil (k : FaultKind) (l : List FaultKind) : k.join l ≠ [] :=
  List.ne_nil_of_mem ((mem_join_iff k k l).mpr (.inl rfl))

/-! ## The flags of the record -/

theorem FaultRecord.locked_iff (f : FaultRecord) : f.locked = true ↔ ∃ x, f.first = some x :=
  Option.isSome_iff_exists

theorem FaultRecord.second_iff (f : FaultRecord) : f.second = true ↔ f.later ≠ [] := by
  simp [second]

theorem RecordOk.later_nodup {f : FaultRecord} (h : RecordOk f) : f.later.Nodup :=
  h.2.imp fun hlt heq => Nat.ne_of_lt hlt (congrArg FaultKind.code heq)

/-! ## A fault at a locked record -/

theorem captured_of_locked {s : State} {x : FirstFault} (h : s.fault.first = some x) (k : FaultKind) (o : FaultOrigin) (d : FaultDetail) :
    captured s k o d = { first := some x, later := k.join s.fault.later } := by
  simp [captured, h]

/-- Settles O59: what is raised at a locked record keeps its first fault and is joined to the later kinds. -/
theorem laterFaultsJoinTheSet : Obligations.LaterFaultsJoinTheSet := by
  intro s k o d x hfirst hok t
  have hcapture : t.fault = { first := some x, later := k.join s.fault.later } :=
    (State.raise_fault s k o d).trans (captured_of_locked hfirst k o d)
  have hrecord : RecordOk t.fault := FaultRecord.take_ok hok _
  have hset : ∀ j, j ∈ t.fault.later ↔ j = k ∨ j ∈ s.fault.later := by
    simp only [hcapture, FaultKind.mem_join_iff, implies_true]
  have hsecond : t.fault.second = true := by
    rw [FaultRecord.second_iff, hcapture]
    exact FaultKind.join_ne_nil k s.fault.later
  exact ⟨by rw [hcapture], hsecond, hset, hrecord.later_nodup, hrecord, FaultRecord.second_iff, rfl⟩

/-! ## READ FAULT -/

theorem State.exec_readFault_of_reaches {s : State} {h : CtlHead} (hr : Reaches s h .readFault) :
    exec (.readFault h) s = .next (replied s h 7 .done (.fault s.fault)) :=
  congrArg Host.Outcome.next (control_reaches hr _)

/-- Settles O35: READ FAULT is an open read, so it reaches the record, whose flags are read off its fields. -/
theorem readFaultReturnsTheRecord : Obligations.ReadFaultReturnsTheRecord := by
  intro s h hup hgrant haddr hidle hwhole
  have hreach : Reaches s h .readFault := .of_openRead rfl rfl rfl rfl hup hgrant haddr hidle hwhole
  refine ⟨State.exec_readFault_of_reaches hreach, fun hok => ?_⟩
  obtain ⟨-, hascending⟩ := hok
  exact ⟨hascending, s.fault.locked_iff, s.fault.second_iff⟩

end Sys2Proof.Machine
end

section
/-! PROOFS, family other. The machine: what the step relation is, what reset gives, and the facts that every command keeps. -/

namespace Sys2Proof.Machine

variable {s t : State}

/-! ## What every command does -/

/-- The command of a request is R176's judgement of it before its owner. -/
theorem exec_command (h : CtlHead) (q : Request) (s : State) : exec (q.command h) s = .next (s.perform h q) := by
  cases q <;> rfl

/-- An outcome at `s` that answers a next state in which Inv still holds. -/
def Keeps (s : State) (o : Host.Outcome State Fault Refusal) : Prop := ∃ t, o = .next t ∧ (Inv s → Inv t)

theorem Keeps.completes {o : Host.Outcome State Fault Refusal} (h : Keeps s o) : Completes o := by
  obtain ⟨t, ht, -⟩ := h
  exact ⟨t, ht⟩

theorem Keeps.inv {o : Host.Outcome State Fault Refusal} (h : Keeps s o) (hs : Inv s) (ho : o = .next t) : Inv t := by
  obtain ⟨u, rfl, hu⟩ := h
  cases ho
  exact hu hs

theorem Keeps.of_next (h : Inv s → Inv t) : Keeps s (.next t) := ⟨t, rfl, h⟩

/-- A row of an event: what happens where the event is at hand, and nothing else (log 1, log 4). -/
theorem Keeps.of_ite {p : Prop} [Decidable p] (h : p → Inv s → Inv t) : Keeps s (.next (if p then t else s)) :=
  .of_next fun hs => by
    split
    · exact h ‹p› hs
    · exact hs

theorem exec_command_keeps (h : CtlHead) (q : Request) (s : State) : Keeps s (exec (q.command h) s) :=
  ⟨_, exec_command h q s, State.perform_inv h q⟩

namespace State

theorem role_of_joins (h : s.joins = true) : s.gang.role = .follower := by
  simp only [joins, Bool.and_eq_true, beq_iff_eq] at h
  obtain ⟨⟨⟨-, hrole⟩, -⟩, -⟩ := h
  exact hrole

theorem role_of_isolationAtHand (h : s.isolationAtHand = true) : s.gang.role = .follower := by
  simp only [isolationAtHand, joined, Bool.and_eq_true, beq_iff_eq] at h
  obtain ⟨⟨⟨-, hrole, -⟩, -⟩, -⟩ := h
  exact hrole

theorem role_of_absenceAtHand {n : Fin 3} (h : s.absenceAtHand n = true) : s.gang.role = .leader := by
  simp only [absenceAtHand, Bool.and_eq_true, beq_iff_eq] at h
  obtain ⟨⟨⟨⟨-, hrole⟩, -⟩, -⟩, -⟩ := h
  exact hrole

end State

/-! ## The rows by block -/

theorem execLoadEnd_keeps (whole : Bool) (s : State) : Keeps s (execLoadEnd whole s) :=
  .of_ite fun _ hs => State.loadEnd_inv whole ((State.setFramer_inv _).mpr hs)

theorem execPresenceWindowEnd_keeps (s : State) : Keeps s (execPresenceWindowEnd s) :=
  .of_ite fun _ hs => State.windowEnd_inv ((State.setFramer_inv _).mpr hs)

theorem execPowerOn_keeps (strap : Strap) (s : State) : Keeps s (execPowerOn strap s) :=
  .of_ite fun _ => State.poweredOn_inv strap

theorem execSupplyLoss_keeps (s : State) : Keeps s (execSupplyLoss s) :=
  .of_next fun hs => by
    split
    · exact hs
    · exact State.powerLost_inv hs

theorem execResetPin_keeps (strap : Strap) (s : State) : Keeps s (execResetPin strap s) :=
  .of_next fun hs => by
    repeat' split
    · exact hs
    · exact (State.setFramer_inv _).mpr hs
    · exact State.pinReset_inv strap hs

theorem execLinkUp_keeps (p : Port) (s : State) : Keeps s (execLinkUp p s) :=
  .of_ite fun ⟨htraining, hrun⟩ hs => State.linkUp_inv p htraining hrun hs

theorem execStartGraceExpiry_keeps (s : State) : Keeps s (execStartGraceExpiry s) :=
  .of_next fun hs => by
    split
    · split
      · exact State.graceExpire_inv _ hs
      · exact hs
    · exact hs

theorem execHeldAnchorDue_keeps (s : State) : Keeps s (execHeldAnchorDue s) :=
  .of_next fun hs => by
    split
    · split
      · exact State.cueEvent_inv (State.anchorStart_inv _ hs)
      · exact hs
    · exact hs

/-- A row of the write engine: what `act` makes of the step in flight, where the row's moment is at hand. -/
theorem engineRow_keeps {p : EngineStep → Prop} [DecidablePred p] {act : EngineStep → State} (h : ∀ x, Inv s → Inv (act x)) :
    Keeps s (.next (match s.store.engine with | some x => if p x then act x else s | none => s)) :=
  .of_next fun hs => by
    split
    · split
      · exact h _ hs
      · exact hs
    · exact hs

/-- Every command answers a next state that keeps Inv. -/
theorem exec_keeps (c : Instr) (s : State) : Keeps s (exec c s) := by
  cases c with
  | powerOn strap => exact execPowerOn_keeps strap s
  | supplyLoss => exact execSupplyLoss_keeps s
  | resetPin strap => exact execResetPin_keeps strap s
  | resetPinRelease => exact .of_ite fun _ => (State.setFramer_inv _).mpr
  | holdExpiry => exact .of_ite fun _ hs => State.holdEnd_inv ((State.setFramer_inv _).mpr hs)
  | loadEnd whole => exact execLoadEnd_keeps whole s
  | presenceWindowEnd => exact execPresenceWindowEnd_keeps s
  | lockAcquired p => exact .of_next (State.acquire_inv p)
  | lockLost p first => exact .of_next (State.lose_inv p first)
  | linkUp p => exact execLinkUp_keeps p s
  | mainFrame p slot => exact .of_next (State.slot_inv p slot)
  | stall r => exact .of_ite fun _ => State.stallNow_inv r
  | pilotLost r => exact .of_ite fun _ => State.pilotNow_inv r
  | rigQualified r audio => exact .of_ite fun _ => State.qualifyNow_inv r _
  | recoveryHoldExpiry r => exact .of_ite fun _ => State.recoveryReached_inv r
  | softJumpExpiry r => exact .of_ite fun _ => State.softJumpReached_inv r
  | startGraceExpiry => exact execStartGraceExpiry_keeps s
  | heldAnchorDue => exact execHeldAnchorDue_keeps s
  | stepLost r => exact .of_ite fun _ => State.stepLostNow_inv r
  | fadeComplete g => exact .of_ite fun _ => State.fadeDone_inv g
  | deferralLimit g => exact .of_ite fun _ => State.limitHit_inv g
  | outputPeriod i => exact .of_next (State.outputPeriod_inv i)
  | pageRead ecc => exact .of_ite fun _ => State.playerRead_inv ecc
  | pageProgramComplete ok => exact engineRow_keeps fun x => State.programDone_inv x ok
  | markProgramComplete ok => exact engineRow_keeps fun x => State.programDone_inv x ok
  | eraseComplete => exact engineRow_keeps fun x => State.eraseDone_inv x
  | eraseTimeout => exact engineRow_keeps fun x => State.eraseTimedOut_inv x
  | sideFrame p raw body => exact .of_next (State.takeSide_inv p raw body)
  | gangTick p t => exact .of_next (State.takeTick_inv p t)
  | gangReport p es => exact .of_next (State.takeReport_inv p es)
  | followerJoined => exact .of_ite fun h => State.becomeJoined_inv (State.role_of_joins h)
  | followerIsolated => exact .of_ite fun h => State.isolateNow_inv (State.role_of_isolationAtHand h)
  | unitAbsent row => exact .of_ite fun h => State.rowLost_inv row (State.role_of_absenceAtHand h)
  | requestedReset strap => exact .of_next (State.requestedReset_inv strap)
  | unknownRequest h kind => exact .of_next (State.unknownKind_inv h kind)
  | identify h => exact exec_command_keeps h .identify s
  | readStatus h part => exact exec_command_keeps h (.readStatus part) s
  | readHealth h rig => exact exec_command_keeps h (.readHealth rig) s
  | setHealthLimits h rig l => exact exec_command_keeps h (.setHealthLimits rig l) s
  | requalifyRig h rig => exact exec_command_keeps h (.requalifyRig rig) s
  | readBadFrame h rig => exact exec_command_keeps h (.readBadFrame rig) s
  | readFault h => exact exec_command_keeps h .readFault s
  | clearFault h => exact exec_command_keeps h .clearFault s
  | readJournal h start => exact exec_command_keeps h (.readJournal start) s
  | writeCue h r n => exact exec_command_keeps h (.writeCue r n) s
  | readCue h c => exact exec_command_keeps h (.readCue c) s
  | deleteCue h c => exact exec_command_keeps h (.deleteCue c) s
  | listCues h start => exact exec_command_keeps h (.listCues start) s
  | writeRoute h first count l => exact exec_command_keeps h (.writeRoute first count l) s
  | readRoute h bank first count => exact exec_command_keeps h (.readRoute bank first count) s
  | commitRoutes h timing => exact exec_command_keeps h (.commitRoutes timing) s
  | writeGroup h g p => exact exec_command_keeps h (.writeGroup g p) s
  | readGroup h g => exact exec_command_keeps h (.readGroup g) s
  | forceSource h gs x u hard => exact exec_command_keeps h (.forceSource gs x u hard) s
  | releaseForce h gs => exact exec_command_keeps h (.releaseForce gs) s
  | stopProgram h => exact exec_command_keeps h .stopProgram s
  | showLock h => exact exec_command_keeps h .showLock s
  | showUnlock h => exact exec_command_keeps h .showUnlock s
  | bedOpen h c n ls ll => exact exec_command_keeps h (.bedOpen c n ls ll) s
  | bedData h c o f0 f1 => exact exec_command_keeps h (.bedData c o f0 f1) s
  | bedSeal h c => exact exec_command_keeps h (.bedSeal c) s
  | bedAbort h c => exact exec_command_keeps h (.bedAbort c) s
  | bedDelete h c => exact exec_command_keeps h (.bedDelete c) s
  | bedList h start => exact exec_command_keeps h (.bedList start) s
  | bedStatus h => exact exec_command_keeps h .bedStatus s
  | saveSettings h => exact exec_command_keeps h .saveSettings s
  | writePortGrants h g => exact exec_command_keeps h (.writePortGrants g) s
  | resetUnit h => exact exec_command_keeps h .resetUnit s

/-! ## One step -/

theorem step_of_pending_nil (h : s.pending = []) : step s = .next s := by
  simp [step, h]

theorem step_of_pending_cons {c : Instr} {rest : List Instr} (h : s.pending = c :: rest) : step s = exec c (s.setPending rest) := by
  simp [step, h]

theorem step_keeps (s : State) : Keeps s (step s) := by
  cases hq : s.pending with
  | nil => exact ⟨s, step_of_pending_nil hq, id⟩
  | cons c rest =>
    obtain ⟨t, ht, hinv⟩ := exec_keeps c (s.setPending rest)
    exact ⟨t, (step_of_pending_cons hq).trans ht, fun hs => hinv ((State.setPending_inv rest).mpr hs)⟩

/-- Settles O1, by the equation of `step` on a queue that is not empty. -/
theorem stepRunsFrontCommand : Obligations.StepRunsFrontCommand :=
  fun _ _ _ => step_of_pending_cons rfl

/-- Settles O2: each command answers a next state, and `step` answers its own on an empty queue. -/
theorem everyStepCompletes : Obligations.EveryStepCompletes :=
  ⟨fun c s => (exec_keeps c s).completes, fun _ => step_of_pending_nil⟩

/-- Settles O5: each row's operation keeps Inv, and so does taking the command from the queue. -/
theorem stepKeepsInv : Obligations.StepKeepsInv :=
  fun s _ hs hnext => (step_keeps s).inv hs hnext

/-! ## Reset -/

/-- Settles O4: the volatile reset values keep Inv over an empty flash. -/
theorem invHoldsAtReset : Obligations.InvHoldsAtReset :=
  State.volatileReset_inv rfl State.Reset.journal_ok State.Reset.fault_ok

theorem Reset.bank_getElem? {n : Nat} (h : n < 64) : Reset.bank[n]? = some (Reset.route n) := by
  simp [Reset.bank, h]

/-- Settles O3: each record of the volatile reset, rig by rig, port by port and group by group. -/
theorem resetStateHoldsRuleValues : Obligations.ResetStateHoldsRuleValues := by
  have hlinks (p : Port) : State.reset.links.get p = Reset.link := by cases p <;> rfl
  have hrigs (r : Rig) : State.reset.align.rigs.get r = Reset.alignRig := by cases r <;> rfl
  have hhealth (r : Rig) : State.reset.health.get r = Reset.health := by cases r <;> rfl
  have hgroups (g : Fin 8) : State.reset.ctl.groups.get g = Reset.group .a := by
    match g with
    | 0 => rfl | 1 => rfl | 2 => rfl | 3 => rfl | 4 => rfl | 5 => rfl | 6 => rfl | 7 => rfl
  have hpolicies (g : Fin 8) : State.reset.ctl.policies.get g = Reset.policy (if g = 0 then 0 else 4) := by
    match g with
    | 0 => rfl | 1 => rfl | 2 => rfl | 3 => rfl | 4 => rfl | 5 => rfl | 6 => rfl | 7 => rfl
  have hservice (p : CtlPort) : State.reset.mgmt.inService.get p = none := by cases p <;> rfl
  have hgang (g : Fin 8) : State.reset.gang.vector.get g = none ∧ State.reset.gang.received.get g = none
      ∧ State.reset.gang.waiting.get g = none ∧ State.reset.gang.applied.get g = none ∧ State.reset.gang.emergency.get g = false := by
    match g with
    | 0 | 1 | 2 | 3 | 4 | 5 | 6 | 7 => exact ⟨rfl, rfl, rfl, rfl, rfl⟩
  simp only [Obligations.ResetStateHoldsRuleValues, hlinks, hrigs, hhealth, hgroups, hpolicies, hservice, hgang]
  refine ⟨rfl, rfl, rfl, rfl, rfl, fun _ => ⟨rfl, rfl, rfl⟩, fun _ => ⟨rfl, rfl, rfl⟩, rfl, rfl, rfl, rfl, rfl, rfl, rfl,
    fun _ => ⟨rfl, rfl, rfl, rfl, rfl, rfl, rfl, rfl, rfl, rfl, rfl, rfl, rfl, rfl, rfl, rfl⟩, rfl, fun _ => rfl, fun _ => rfl,
    rfl, rfl, rfl, fun _ hn => Reset.bank_getElem? hn, rfl, rfl, rfl, rfl, rfl, rfl, rfl, rfl, rfl, rfl, rfl, rfl, rfl, rfl, rfl,
    ?_⟩
  simp [State.reset, State.volatileReset, Reset.gang, Reset.row, Reset.fault, Reset.mgmt]

end Sys2Proof.Machine
end

section
/-! PROOFS, family other. The unit's resets and run states (R141, R157, R165, R174). -/

namespace Sys2Proof.Machine

variable {s : State}

/-! ## The rows of the run states -/

theorem execPowerOn_of_off (h : s.framer.run = .off) (strap : Strap) : execPowerOn strap s = .next (s.poweredOn strap) :=
  congrArg Host.Outcome.next (if_pos h)

theorem execSupplyLoss_of_on (h : s.framer.run ≠ .off) : execSupplyLoss s = .next s.powerLost :=
  congrArg Host.Outcome.next (if_neg h)

theorem execResetPin_of_released (hon : s.framer.run ≠ .off) (hpin : s.framer.pinAsserted = false) (strap : Strap) :
    execResetPin strap s = .next (s.pinReset strap) := by
  simp [execResetPin, hon, hpin]

theorem State.requestedReset_of_sent {p : CtlPort} (h : s.framer.resetReq = some { port := p, sent := true }) (strap : Strap) :
    s.requestedReset strap = s.unitReset s.framer.pinAsserted strap p.origin .request := by
  simp [State.requestedReset, h]

theorem State.unitReset_eq (s : State) (pin : Bool) (strap : Strap) (o : FaultOrigin) (d : FaultDetail) :
    s.unitReset pin strap o d
      = State.volatileReset .hold pin strap s.store.flash s.store.settings s.ctl.journal (captured s .unitReset o d) s.pending := by
  rw [State.unitReset, State.raise_fault]

/-- Settles O6: each row's reset is the volatile reset over the flash, with the journal and the fault record that survive it. -/
theorem resetsLeaveResetState : Obligations.ResetsLeaveResetState := by
  intro s strap absent after
  have hafter (run : RunState) (pin : Bool) (x : Strap) (j : Journal) (f : FaultRecord) :
      after run pin x j f = State.volatileReset run pin x s.store.flash s.store.settings j f s.pending := by
    cases x <;> rfl
  simp only [hafter]
  refine ⟨fun hoff => execPowerOn_of_off hoff strap, execSupplyLoss_of_on, fun hon hpin => ?_, fun p hreq => ?_⟩
  · rw [← State.unitReset_eq]
    exact execResetPin_of_released hon hpin strap
  · rw [← State.unitReset_eq]
    exact congrArg Host.Outcome.next (State.requestedReset_of_sent hreq strap)

/-! ## HOLD and GANG WAIT -/

theorem execResetPinRelease_of_asserted (h : s.framer.pinAsserted = true) :
    execResetPinRelease s = .next (s.setFramer { s.framer with pinAsserted := false, holdCount := 0 }) :=
  congrArg Host.Outcome.next (if_pos h)

theorem execHoldExpiry_of_last (hrun : s.framer.run = .hold) (hpin : s.framer.pinAsserted = false) (hlast : s.framer.holdCount = 199) :
    execHoldExpiry s = .next (s.setFramer { s.framer with holdCount := 200 }).holdEnd :=
  congrArg Host.Outcome.next (if_pos ⟨hrun, hpin, by simp [hlast, Config.holdPeriods]⟩)

/-- The row stands for the 8,000th output period when it is sent one period short (log 72). -/
theorem execPresenceWindowEnd_of_last (hrun : s.framer.run = .gangWait) (hlast : s.framer.waitCount = 7999) :
    execPresenceWindowEnd s = .next (s.setFramer { s.framer with count := s.framer.count + 1, waitCount := 8000 }).windowEnd := by
  have hat : Config.presenceWindow ≤ s.framer.waitCount + 1 := by simp [hlast, Config.presenceWindow]
  unfold execPresenceWindowEnd
  rw [if_pos ⟨hrun, hat⟩, hlast]
  rfl

namespace State

theorem leaveWait_of_gangWait (h : s.framer.run = .gangWait) : s.leaveWait = s.setFramer { s.framer with run := .running } := if_pos h

theorem windowEnd_of_not_discovering (h : s.gang.role = .leader ∨ s.gang.state ≠ .discovering) : s.windowEnd = s.leaveWait := by
  unfold windowEnd
  cases hrole : s.gang.role with
  | leader => rfl
  | follower =>
    have hstate : s.gang.state ≠ .discovering := h.resolve_left (by simp [hrole])
    simp [hstate]

theorem windowEnd_of_discovering (hrole : s.gang.role = .follower) (hstate : s.gang.state = .discovering) :
    s.windowEnd = s.becomeIsolated.leaveWait := by
  simp [windowEnd, hrole, hstate]

theorem becomeIsolated_framer_eq (s : State) : s.becomeIsolated.framer = s.framer := rfl

theorem becomeIsolated_state (s : State) : s.becomeIsolated.gang.state = .isolated := rfl

theorem becomeIsolated_fault_eq (s : State) :
    s.becomeIsolated.fault = captured s .gangLost .gu (.leaderPos (if s.gang.everTick then some s.gang.leaderPos else none)) :=
  raise_fault _ _ _ _

end State

/-- Settles O8: each row is one period short of its end, and a follower that still waits for a tick becomes ISOLATED at the window's. -/
theorem holdAndPresenceWindowEnd : Obligations.HoldAndPresenceWindowEnd := by
  intro s
  refine ⟨execResetPinRelease_of_asserted, fun hrun hpin hlast => execHoldExpiry_of_last hrun hpin hlast, fun hrun hlast => ?_⟩
  intro u
  have hexec : exec .presenceWindowEnd s = .next u.windowEnd := execPresenceWindowEnd_of_last hrun hlast
  refine ⟨fun hout => ?_, fun hrole hstate => ?_⟩
  · rw [hexec, State.windowEnd_of_not_discovering (s := u) hout, State.leaveWait_of_gangWait (s := u) hrun]
    rfl
  · have hleave : u.becomeIsolated.leaveWait = u.becomeIsolated.setFramer { u.framer with run := .running } :=
      State.leaveWait_of_gangWait (s := u.becomeIsolated) hrun
    refine ⟨_, hexec.trans (congrArg _ ((State.windowEnd_of_discovering (s := u) hrole hstate).trans hleave)), rfl, rfl, ?_, rfl⟩
    exact u.becomeIsolated_fault_eq

end Sys2Proof.Machine
end

section
/-! PROOFS, family other. The link receivers (R166) and a rig's link entering UP and going DOWN (R2, R3, R25). -/

namespace Sys2Proof.Machine

variable {s : State} {p : Port} {slot : Option RawFrame}

/-! ## Equality of states and of their blocks, field by field -/

@[ext] theorem State.ext {s t : State} (framer : s.framer = t.framer) (links : s.links = t.links) (align : s.align = t.align)
    (health : s.health = t.health) (cues : s.cues = t.cues) (ctl : s.ctl = t.ctl) (routes : s.routes = t.routes)
    (store : s.store = t.store) (player : s.player = t.player) (gang : s.gang = t.gang) (fault : s.fault = t.fault)
    (mgmt : s.mgmt = t.mgmt) (pending : s.pending = t.pending) : s = t := by
  cases s
  cases t
  simp_all

@[ext] theorem Controller.ext {c d : Controller} (groups : c.groups = d.groups) (policies : c.policies = d.policies)
    (stamps : c.stamps = d.stamps) (journal : c.journal = d.journal) : c = d := by
  cases c
  cases d
  simp_all

theorem Pair.eq_of_get {α : Type} {x y : Pair α} (r : Rig) (own : x.get r = y.get r) (other : x.get r.other = y.get r.other) : x = y := by
  cases x
  cases y
  cases r <;> simp_all [Pair.get, Rig.other]

/-! ## The receiver -/

/-- A receiver takes a slot's number when it expects none or that one. -/
theorem goodSlot_iff (l : PortLink) (x : InFrame) : goodSlot l x = true ↔ l.expected = none ∨ l.expected = some x.seq := by
  unfold goodSlot
  cases l.expected with
  | none => simp
  | some e =>
    simp only [beq_iff_eq, reduceCtorEq, false_or, Option.some.injEq]
    exact eq_comm

theorem PortLink.eighth_of_seven {l : PortLink} (h : l.run = 7) : l.eighth = { l with expected := l.expected.map (fun e => e + 1) } :=
  if_pos (h ▸ (by decide : 7 < 8))

theorem PortLink.train_fits {l : PortLink} {x : InFrame} (h : goodSlot l x = true) :
    l.train (.valid x) = { l with run := l.run + 1, expected := some (x.seq + 1) } := by
  simp [PortLink.train, h]

theorem PortLink.train_misfits {l : PortLink} {x : InFrame} (h : goodSlot l x = false) :
    l.train (.valid x) = { l with run := 1, expected := some (x.seq + 1) } := by
  simp [PortLink.train, h]

theorem PortLink.follow_valid (l : PortLink) (x : InFrame) :
    l.follow (.valid x)
      = { l with expected := some (x.seq + 1), breaks := if goodSlot l x then l.breaks else min 65535 (l.breaks + 1) } := by
  cases h : goodSlot l x <;> simp [PortLink.follow, h]

namespace State

theorem acquire_of_down (hon : s.framer.run ≠ .off) (hdown : (s.links.get p).state = .down) :
    s.acquire p = s.setLink p { s.links.get p with state := .training, run := 0, expected := none } :=
  if_pos ⟨hon, hdown⟩

theorem setLink_setLink (s : State) (p : Port) (v w : PortLink) : (s.setLink p v).setLink p w = s.setLink p w := by
  cases p <;> rfl

theorem setLink_links_get (s : State) (p : Port) (v : PortLink) : (s.setLink p v).links.get p = v := Six.get_set_same _ _ _

theorem enterUp_of_not_rig (h : p.rig = none) (v : PortLink) :
    (s.setLink p v).enterUp p = s.setLink p { v with state := .up, run := 8 } := by
  simp only [enterUp, h, setLink_links_get, setLink_setLink]
  rfl

theorem slot_of_down (h : (s.links.get p).state = .down) (f : Option RawFrame) : s.slot p f = s := by
  simp [State.slot, h]

theorem slot_of_training (h : (s.links.get p).state = .training) (f : Option RawFrame) : s.slot p f = s.trainSlot p (checkMain f) := by
  simp [State.slot, h]

theorem slot_of_up (h : (s.links.get p).state = .up) (f : Option RawFrame) : s.slot p f = s.upSlot p (checkMain f) := by
  simp [State.slot, h]

/-- A slot in TRAINING that leaves fewer than eight good ones behind it. -/
theorem trainSlot_of_short {o : SlotOutcome} (h : ((s.links.get p).train o).run < 8) :
    s.trainSlot p o = s.setLink p ((s.links.get p).train o) :=
  if_neg (Nat.not_le.mpr h)

theorem trainSlot_of_eighth {o : SlotOutcome} (h : ((s.links.get p).train o).run = 8) :
    s.trainSlot p o = (s.setLink p ((s.links.get p).train o)).enterUp p :=
  if_pos (Nat.le_of_eq h.symm)

theorem upSlot_of_not_rig (h : p.rig = none) (o : SlotOutcome) : s.upSlot p o = s.setLink p ((s.links.get p).follow o) := by
  simp [upSlot, h]

end State

theorem execLinkUp_of_seven (htraining : (s.links.get p).state = .training) (hrun : (s.links.get p).run = 7) :
    execLinkUp p s
      = .next ((s.setLink p { s.links.get p with expected := (s.links.get p).expected.map (fun e => e + 1) }).enterUp p) := by
  rw [← PortLink.eighth_of_seven hrun]
  exact congrArg Host.Outcome.next (if_pos ⟨htraining, by simp [hrun, Config.goodSlots]⟩)

/-- Settles O9, by the link's state: TRAINING counts good slots up to the eighth, and UP follows the number expected. -/
theorem linkTrainsAndFollows : Obligations.LinkTrainsAndFollows := by
  intro s p slot l become fits
  have hfits (x : InFrame) : fits x = goodSlot l x := rfl
  have hslot : exec (.mainFrame p slot) s = .next (s.slot p slot) := rfl
  simp only [hfits, hslot]
  refine ⟨fun hon hdown => ?_, fun htraining hrun hrig => ?_, fun hdown => ?_, fun d hd htraining => ?_, fun x hx htraining => ?_,
    fun d hd hup hrig => ?_, fun x hx hup hrig => ?_⟩
  · exact congrArg Host.Outcome.next (State.acquire_of_down hon hdown)
  · exact (execLinkUp_of_seven htraining hrun).trans (congrArg Host.Outcome.next (State.enterUp_of_not_rig hrig _))
  · rw [State.slot_of_down hdown]
  · rw [State.slot_of_training htraining, hd]
    exact congrArg Host.Outcome.next (State.trainSlot_of_short (o := .discarded d) (Nat.zero_lt_succ 7))
  · rw [State.slot_of_training htraining, hx]
    refine ⟨fun hgood hrun => ?_, fun hgood hrun hrig => ?_, fun hbad => ?_⟩
    · have htrain := PortLink.train_fits hgood
      rw [State.trainSlot_of_short (by rw [htrain]; exact Nat.succ_lt_succ hrun), htrain]
      rfl
    · have htrain := PortLink.train_fits hgood
      rw [State.trainSlot_of_eighth (by rw [htrain]; exact congrArg Nat.succ hrun), htrain, State.enterUp_of_not_rig hrig]
      rfl
    · have htrain := PortLink.train_misfits hbad
      rw [State.trainSlot_of_short (by rw [htrain]; exact (by decide : 1 < 8)), htrain]
      rfl
  · rw [State.slot_of_up hup, State.upSlot_of_not_rig hrig, hd]
    rfl
  · rw [State.slot_of_up hup, State.upSlot_of_not_rig hrig, hx, PortLink.follow_valid]
    rfl

/-! ## A rig's link entering UP -/

theorem Rig.port_rig (r : Rig) : r.port.rig = some r := by cases r <;> rfl

theorem Rig.other_ne (r : Rig) : r.other ≠ r := by cases r <;> decide

theorem Rig.other_port_ne (r : Rig) : r.other.port ≠ r.port := by cases r <;> decide

namespace State

variable {r : Rig}

/-- A change of health state is always to the state it names. -/
theorem healthChange_state (s : State) (r : Rig) (after : HealthState) (reason : HealthReason) :
    ((s.healthChange r after reason).monitor r).state = after := by
  simp only [healthChange]
  split
  next hsame => exact hsame
  next => split <;> simp

theorem healthLinkUp_state (s : State) (r : Rig) : ((s.healthLinkUp r).monitor r).state = .qualifying :=
  healthChange_state _ _ _ _

theorem healthLinkUp_qual (s : State) (r : Rig) : ((s.healthLinkUp r).monitor r).qual = 0 := by
  simp [healthLinkUp]

theorem rigUp_monitor_other (s : State) (r : Rig) : (s.rigUp r).monitor r.other = s.monitor r.other :=
  healthLinkUp_other _ _ (Rig.other_ne r)

theorem rigUp_align (s : State) (r : Rig) :
    (s.rigUp r).align
      = { s.align with rigs := s.align.rigs.set r { s.align.rigs.get r with slotCount := s.slotLoad r, newestAudio := none } } := by
  simp [rigUp, rig]

theorem slotLoad_eq (s : State) (r : Rig) :
    s.slotLoad r = if (s.links.get r.other.port).state = .up
      then (match r with | .a => s.align.rigs.b.slotCount + 1 | .b => s.align.rigs.a.slotCount) else s.framer.count := by
  unfold slotLoad isUp
  cases r <;> simp only [beq_iff_eq] <;> rfl

theorem enterUp_of_rig (s : State) (r : Rig) (v : PortLink) :
    (s.setLink r.port v).enterUp r.port = (s.rigUp r).setLink r.port { v with state := .up, run := 8 } := by
  simp only [enterUp, Rig.port_rig, rigUp_setLink, setLink_links_get, setLink_setLink]
  rfl

end State

/-- Settles O10: `rigUp` loads the slot count and puts the rig into QUALIFYING, and the link's record is the eighth slot's. -/
theorem rigLinkEntersUp : Obligations.RigLinkEntersUp := by
  intro s r htraining hrun _
  let v : PortLink := { s.links.get r.port with expected := (s.links.get r.port).expected.map (fun e => e + 1) }
  have hexec : exec (.linkUp r.port) s = .next ((s.rigUp r).setLink r.port { v with state := .up, run := 8 }) :=
    (execLinkUp_of_seven htraining hrun).trans (congrArg Host.Outcome.next (State.enterUp_of_rig s r v))
  refine ⟨_, hexec, by simp [v], ?_, State.healthLinkUp_state _ r, State.healthLinkUp_qual _ r, State.rigUp_monitor_other s r, ?_⟩
  · rw [State.setLink_align, State.rigUp_align, State.slotLoad_eq] <;> rfl
  · ext1 <;> try simp
    ext1 <;> simp

end Sys2Proof.Machine
end

section
/-! PROOFS, family other. A rig's link going DOWN (R3, R25, R159) and a slot of its UP link (R1, R2, R8 to R10). -/

namespace Sys2Proof.Machine

variable {s : State} {r : Rig}

/-! ## The fault record after one fault -/

theorem captured_first_of_empty (h : s.fault.first = none) (k : FaultKind) (o : FaultOrigin) (d : FaultDetail) :
    (captured s k o d).first = some { kind := k, origin := o, pos := s.align.prog.pos, count := s.framer.count, detail := d } := by
  simp [captured, h]

theorem captured_first_of_locked (h : s.fault.first ≠ none) (k : FaultKind) (o : FaultOrigin) (d : FaultDetail) :
    (captured s k o d).first = s.fault.first := by
  obtain ⟨x, hx⟩ := Option.ne_none_iff_exists'.mp h
  rw [captured_of_locked hx, hx]

theorem captured_first_ne_none (s : State) (k : FaultKind) (o : FaultOrigin) (d : FaultDetail) : (captured s k o d).first ≠ none := by
  by_cases h : s.fault.first = none
  · simp [captured_first_of_empty h]
  · rwa [captured_first_of_locked h]

theorem mem_captured_later (h : s.fault.first ≠ none) (k : FaultKind) (o : FaultOrigin) (d : FaultDetail) (j : FaultKind) :
    j ∈ (captured s k o d).later ↔ j = k ∨ j ∈ s.fault.later := by
  obtain ⟨x, hx⟩ := Option.ne_none_iff_exists'.mp h
  rw [captured_of_locked hx]
  exact FaultKind.mem_join_iff k j _

/-! ## The sources of timing -/

theorem Source.rig_eq_some_iff (x : Source) (r : Rig) : x.rig = some r ↔ x = r.source := by
  cases x <;> cases r <;> simp [Source.rig, Rig.source]

namespace State

theorem timingRig_eq_some_iff (s : State) (r : Rig) : s.timingRig = some r ↔ s.ctl.groups.g0.st.current = r.source :=
  Source.rig_eq_some_iff _ r

theorem playing_eq (s : State) : s.playing = (s.align.prog.state != .stopped) := by
  unfold playing prog
  cases s.align.prog.state <;> rfl

theorem acting_iff (s : State) : s.acting = true ↔ s.framer.run = .gangWait ∨ s.framer.run = .running := by
  simp [acting]

/-! ## The loss of a rig's link -/

theorem healthLinkDown_state (s : State) (r : Rig) : ((s.healthLinkDown r).monitor r).state = .offline :=
  healthChange_state _ _ _ _

/-- What R25 leaves of the rig's monitor besides its state. -/
theorem healthLinkDown_cleared (s : State) (r : Rig) :
    ((s.healthLinkDown r).monitor r).hard = Reset.hard ∧ ((s.healthLinkDown r).monitor r).recovery = none
      ∧ ((s.healthLinkDown r).monitor r).limits = (s.monitor r).limits
      ∧ ((s.healthLinkDown r).monitor r).capture = (s.monitor r).capture := by
  simp [healthLinkDown]

theorem alignLinkLost_rig (s : State) (r : Rig) :
    (s.alignLinkLost r).rig r = { s.rig r with ring := [], stopMark := none, newestAudio := none, step := Reset.step } := by
  simp only [alignLinkLost]
  repeat' split
  all_goals simp

theorem alignLinkLost_rig_other (s : State) (r : Rig) : (s.alignLinkLost r).rig r.other = s.rig r.other := by
  simp only [alignLinkLost]
  repeat' split
  all_goals simp [Rig.other_ne]

theorem alignLinkLost_pos (s : State) (r : Rig) : (s.alignLinkLost r).align.prog.pos = s.align.prog.pos := by
  simp only [alignLinkLost]
  repeat' split
  all_goals simp [prog]

/-- The rig's loss at its records, before its faults. -/
def lostRecords (s : State) (r : Rig) : State := (s.alignLinkLost r).healthLinkDown r

/-- R25 and R19: the faults of a rig's loss, in the order of log 8. -/
def lossFaults (t : State) (r : Rig) (lost stepFirst : Bool) (skew : Option Int) (before : HealthState) : State :=
  if lost then
    if stepFirst then (t.stepLostEvent r skew).linkDownFault r before else (t.linkDownFault r before).stepLostEvent r skew
  else t.linkDownFault r before

theorem rigLost_eq (s : State) (r : Rig) (stepFirst : Bool) :
    s.rigLost r stepFirst
      = ((s.lostRecords r).lossFaults r (s.lossLosesStep r) stepFirst (s.rig r).step.lastSkew (s.monitor r).state).primeUpdate := rfl

@[simp] theorem lossFaults_frame (t : State) (r : Rig) (lost stepFirst : Bool) (skew : Option Int) (before : HealthState) :
    (t.lossFaults r lost stepFirst skew before).align = t.align ∧ (t.lossFaults r lost stepFirst skew before).health = t.health := by
  unfold lossFaults
  (repeat' split) <;> simp

theorem linkDownFault_fault (t : State) (r : Rig) (before : HealthState) :
    (t.linkDownFault r before).fault = captured t .rigLinkDown r.origin (.health before) :=
  raise_fault _ _ _ _

theorem stepLostEvent_fault_of_used (h : s.usedBy r = true) (skew : Option Int) :
    (s.stepLostEvent r skew).fault = captured s .stepLost r.origin (.skew skew) := by
  rw [stepLostEvent_fault, if_pos h]

theorem stepLostEvent_fault_of_unused (h : s.usedBy r = false) (skew : Option Int) : (s.stepLostEvent r skew).fault = s.fault := by
  rw [stepLostEvent_fault, if_neg (by simp [h])]

/-- The first fault of a loss that finds the record empty: STEP LOST where it is raised and taken first, RIG LINK DOWN else. -/
theorem lossFaults_first {t : State} (h : t.fault.first = none) (r : Rig) (lost stepFirst : Bool) (skew : Option Int)
    (before : HealthState) :
    (t.lossFaults r lost stepFirst skew before).fault.first = some (if stepFirst = true ∧ (lost && t.usedBy r) = true
      then { kind := .stepLost, origin := r.origin, pos := t.align.prog.pos, count := t.framer.count, detail := .skew skew }
      else { kind := .rigLinkDown, origin := r.origin, pos := t.align.prog.pos, count := t.framer.count, detail := .health before }) := by
  have hdown : (t.linkDownFault r before).fault.first ≠ none := by
    rw [linkDownFault_fault]
    exact captured_first_ne_none _ _ _ _
  unfold lossFaults
  cases lost with
  | false => simp [linkDownFault_fault, captured_first_of_empty h]
  | true =>
    cases hu : t.usedBy r with
    | false =>
      have hfault := stepLostEvent_fault_of_unused hu skew
      have hdu : (t.linkDownFault r before).usedBy r = false := hu
      cases stepFirst with
      | false => simp [stepLostEvent_fault_of_unused hdu, linkDownFault_fault, captured_first_of_empty h]
      | true => simp [linkDownFault_fault, captured_first_of_empty (s := t.stepLostEvent r skew) (by rw [hfault]; exact h)]
    | true =>
      have hdu : (t.linkDownFault r before).usedBy r = true := hu
      cases stepFirst with
      | false =>
        simp [stepLostEvent_fault_of_used hdu, captured_first_of_locked hdown, linkDownFault_fault, captured_first_of_empty h]
      | true =>
        have hfault := stepLostEvent_fault_of_used hu skew
        have hstep : (t.stepLostEvent r skew).fault.first ≠ none := by
          rw [hfault]
          exact captured_first_ne_none _ _ _ _
        simp [linkDownFault_fault, captured_first_of_locked hstep, hfault, captured_first_of_empty h]

/-- A loss that finds the record locked leaves its first fault and joins what it raises to the later kinds. -/
theorem lossFaults_locked {t : State} (h : t.fault.first ≠ none) (r : Rig) (lost stepFirst : Bool) (skew : Option Int)
    (before : HealthState) :
    let u := t.lossFaults r lost stepFirst skew before
    u.fault.first = t.fault.first ∧ .rigLinkDown ∈ u.fault.later ∧ ((lost && t.usedBy r) = true → .stepLost ∈ u.fault.later) := by
  intro u
  have hdown : (t.linkDownFault r before).fault.first = t.fault.first := by
    rw [linkDownFault_fault, captured_first_of_locked h]
  have hdownMem : .rigLinkDown ∈ (t.linkDownFault r before).fault.later := by
    rw [linkDownFault_fault, mem_captured_later h]
    exact .inl rfl
  cases lost with
  | false => exact ⟨hdown, hdownMem, by simp⟩
  | true =>
    cases stepFirst with
    | false =>
      have hu : u.fault = ((t.linkDownFault r before).stepLostEvent r skew).fault := rfl
      rw [stepLostEvent_fault] at hu
      cases hused : t.usedBy r with
      | false =>
        have hsame : u.fault = (t.linkDownFault r before).fault := hu.trans (if_neg (by simp [usedBy] at hused ⊢; exact hused))
        rw [hsame]
        exact ⟨hdown, hdownMem, by simp⟩
      | true =>
        have hsame := hu.trans (if_pos hused)
        have hlocked : (t.linkDownFault r before).fault.first ≠ none := by rwa [hdown]
        rw [hsame, captured_first_of_locked hlocked]
        simp only [mem_captured_later hlocked]
        exact ⟨hdown, .inr hdownMem, fun _ => .inl trivial⟩
    | true =>
      have hu : u.fault = captured (t.stepLostEvent r skew) .rigLinkDown r.origin (.health before) := linkDownFault_fault _ _ _
      have hfault := stepLostEvent_fault t r skew
      have hfirst : (t.stepLostEvent r skew).fault.first = t.fault.first := by
        rw [hfault]
        split
        · exact captured_first_of_locked h _ _ _
        · rfl
      have hlocked : (t.stepLostEvent r skew).fault.first ≠ none := by rwa [hfirst]
      rw [hu, captured_first_of_locked hlocked]
      simp only [mem_captured_later hlocked, true_or, Bool.true_and]
      refine ⟨hfirst, trivial, fun hused => .inr ?_⟩
      rw [hfault, if_pos hused, mem_captured_later h]
      exact .inl rfl

@[simp] theorem lostRecords_frame (s : State) (r : Rig) :
    (s.lostRecords r).framer = s.framer ∧ (s.lostRecords r).fault = s.fault ∧ (s.lostRecords r).ctl.groups = s.ctl.groups
      ∧ (s.lostRecords r).align = (s.alignLinkLost r).align := by
  simp [lostRecords]

theorem lose_of_rig (h : (s.links.get r.port).state = .up) (stepFirst : Bool) :
    s.lose r.port stepFirst = (s.setLink r.port { s.links.get r.port with state := .down, run := 0, expected := none }).rigLost r stepFirst := by
  simp only [lose, h, Rig.port_rig]

theorem lose_of_not_rig {p : Port} (h : (s.links.get p).state = .training ∨ ((s.links.get p).state = .up ∧ p.rig = none))
    (stepFirst : Bool) :
    s.lose p stepFirst = s.setLink p { s.links.get p with state := .down, run := 0, expected := none } := by
  obtain h | ⟨h, hrig⟩ := h
  · simp [lose, h]
  · simp [lose, h, hrig]

end State

/-- Settles O11: only a rig's UP link takes more than the link down; its two faults are `lossFaults`, over the records `lostRecords` leaves. -/
theorem lockLossTakesTheRig : Obligations.LockLossTakesTheRig := by
  intro s stepFirst
  refine ⟨fun p hp => congrArg Host.Outcome.next (State.lose_of_not_rig hp stepFirst), ?_⟩
  intro r hup stepLost
  let u := s.setLink r.port { s.links.get r.port with state := .down, run := 0, expected := none }
  have hexec : exec (.lockLost r.port stepFirst) s = .next (u.rigLost r stepFirst) :=
    congrArg Host.Outcome.next (State.lose_of_rig hup stepFirst)
  have hhealth (q : Rig) : (u.rigLost r stepFirst).health.get q = (u.lostRecords r).monitor q := by
    simp [State.rigLost_eq, State.monitor]
  have halign (q : Rig) : (u.rigLost r stepFirst).align.rigs.get q = (u.alignLinkLost r).rig q := by
    simp [State.rigLost_eq, State.rig]
  obtain ⟨hhard, hrecovery, hlimits, hcapture⟩ := (u.alignLinkLost r).healthLinkDown_cleared r
  have hmonitor (q : Rig) : (u.alignLinkLost r).monitor q = s.health.get q := by simp [State.monitor, u]
  have hpos : (u.lostRecords r).align.prog.pos = s.align.prog.pos := by simp [State.alignLinkLost_pos, u]
  have hstep : (u.lossLosesStep r && (u.lostRecords r).usedBy r) = stepLost := by
    have hused : (u.lostRecords r).usedBy r = s.usedBy r := by simp [State.usedBy, u]
    rw [hused, State.lossLosesStep, State.playing_eq]
    rfl
  have hfault : (u.rigLost r stepFirst).fault
      = ((u.lostRecords r).lossFaults r (u.lossLosesStep r) stepFirst (u.rig r).step.lastSkew (u.monitor r).state).fault := by
    simp [State.rigLost_eq]
  refine ⟨_, hexec, by simp [u], ?_, ?_, ?_, ?_, ?_, ?_, ?_, ?_, ?_, fun hempty => ?_, fun hlocked => ?_, ?_⟩
  · rw [hhealth]
    exact State.healthLinkDown_state _ r
  · rw [hhealth]
    exact congrArg HardSet.isEmpty hhard
  · rw [hhealth]
    exact hrecovery
  · rw [hhealth, ← hmonitor]
    exact hlimits
  · rw [hhealth, ← hmonitor]
    exact hcapture
  · rw [hhealth, ← hmonitor]
    exact State.healthLinkDown_other _ _ (Rig.other_ne r)
  · rw [halign, State.alignLinkLost_rig]
  · rw [halign, State.alignLinkLost_rig]
    rfl
  · rw [halign, State.alignLinkLost_rig_other]
    rfl
  · rw [hfault, State.lossFaults_first (by simpa [u] using hempty), hstep, hpos]
    simp [u, State.rig, State.monitor]
  · have h := State.lossFaults_locked (t := u.lostRecords r) (by simpa [u] using hlocked) r (u.lossLosesStep r) stepFirst
      (u.rig r).step.lastSkew (u.monitor r).state
    dsimp only at h
    rw [hstep, ← hfault] at h
    simpa [u] using h
  · ext1 <;> try simp [u]
    ext1 <;> simp

end Sys2Proof.Machine
end

section
/-! PROOFS, family other. A slot of a rig's UP link at the alignment buffer (R1, R2, R8 to R10, R166). -/

namespace Sys2Proof.Machine

variable {s : State} {r : Rig}

/-- R9, R10: an IDLE frame's part of the alignment record. -/
theorem AlignRig.arrive_idle {x : InFrame} (h : x.kind = .idle) (a : AlignRig) (k : Word) :
    a.arrive x k = { a with newestAudio := some false, stopMark := if x.stopped = true ∧ a.stopMark = none then some k else a.stopMark } := by
  simp only [AlignRig.arrive, h]
  (repeat' split) <;> rfl

/-- R1, R9, R10: an AUDIO frame's part of the alignment record. -/
theorem AlignRig.arrive_audio {x : InFrame} (h : x.kind = .audio) (a : AlignRig) (k : Word) :
    a.arrive x k
      = if x.pos.cue = 0 then { a with newestAudio := some true }
        else { a with newestAudio := some true, stopMark := none
                      ring := (if 64 ≤ a.ring.length then a.ring.drop 1 else a.ring)
                        ++ [{ pos := x.pos, arrival := k, channels := x.count, samples := x.channels }] } := by
  simp only [AlignRig.arrive, h]
  rfl

namespace State

theorem alignArrive_rig (s : State) (r : Rig) (x : InFrame) (k : Word) : (s.alignArrive r x k).rig r = (s.rig r).arrive x k := by
  simp only [alignArrive]
  split <;> simp

theorem alignArrive_rig_other (s : State) (r : Rig) (x : InFrame) (k : Word) : (s.alignArrive r x k).rig r.other = s.rig r.other := by
  simp only [alignArrive]
  split <;> simp [Rig.other_ne]

theorem alignArrive_prog (s : State) (r : Rig) (x : InFrame) (k : Word) :
    (s.alignArrive r x k).align.prog
      = if s.takesAnchor r x = true then { s.align.prog with held := some { rig := r, pos := x.pos, arrival := k }, grace := none }
        else s.align.prog := by
  simp only [alignArrive]
  split <;> simp [prog]

/-- R8's conditions, as the state holds them. -/
theorem takesAnchor_iff (s : State) (r : Rig) (x : InFrame) :
    s.takesAnchor r x = true ↔
      (s.framer.run = .gangWait ∨ s.framer.run = .running) ∧ s.align.prog.state = .stopped ∧ x.kind = .audio
        ∧ s.ctl.groups.g0.st.current = r.source ∧ s.align.prog.stopHold = false ∧ s.align.prog.held = none
        ∧ ((s.health.get r).state = .healthy ∨ (s.health.get r).state = .suspect ∨ (s.health.get r).state = .stopped) := by
  simp only [takesAnchor, Bool.and_eq_true, Bool.or_eq_true, beq_iff_eq, Bool.not_eq_true', Option.isNone_iff_eq_none, acting_iff,
    timingRig_eq_some_iff, and_assoc, or_assoc]
  rfl

/-- The state a slot of the rig's UP link finds at the rig's blocks: the link has followed it and the slot count advanced. -/
def slotTaken (s : State) (r : Rig) (o : SlotOutcome) : State :=
  (s.setLink r.port ((s.links.get r.port).follow o)).setAlignRig r
    { s.align.rigs.get r with slotCount := (s.align.rigs.get r).slotCount + 1 }

theorem upSlot_of_rig (s : State) (r : Rig) (o : SlotOutcome) :
    s.upSlot r.port o
      = match o with
        | .valid x => (((s.slotTaken r o).validSlot r x ((s.align.rigs.get r).slotCount + 1)).alignArrive r x
            ((s.align.rigs.get r).slotCount + 1)).primeUpdate
        | .discarded d => (s.slotTaken r o).discardSlot r d ((s.align.rigs.get r).slotCount + 1) := by
  simp only [upSlot, Rig.port_rig]
  cases o <;> rfl

theorem exec_mainFrame_of_up (h : (s.links.get r.port).state = .up) (slot : Option RawFrame) :
    exec (.mainFrame r.port slot) s = .next (s.upSlot r.port (checkMain slot)) :=
  congrArg Host.Outcome.next (slot_of_up h slot)

end State

theorem PortLink.follow_valid_breaks (l : PortLink) (x : InFrame) :
    l.follow (.valid x)
      = { l with expected := some (x.seq + 1)
                 breaks := if l.expected = none ∨ l.expected = some x.seq then l.breaks else min 65535 (l.breaks + 1) } := by
  rw [PortLink.follow_valid]
  simp only [goodSlot_iff]

/-- Settles O12, by the slot's outcome: a discarded slot only counts, a valid frame is `arrive`'s and may become the held anchor. -/
theorem rigSlotReachesTheRing : Obligations.RigSlotReachesTheRing := by
  intro s r slot hup k l
  refine ⟨_, State.exec_mainFrame_of_up hup slot, ?_⟩
  rw [State.upSlot_of_rig]
  cases checkMain slot with
  | discarded d =>
    refine ⟨by simp [State.slotTaken, k], by simp [State.slotTaken, PortLink.follow, l], by simp [State.slotTaken],
      by simp [State.slotTaken, Rig.other_ne], ?_, ?_⟩
    · exact State.discardSlot_other _ _ _ _ (Rig.other_ne r)
    · ext1 <;> try simp [State.slotTaken]
      ext1 <;> simp
  | valid x =>
    let u := (s.slotTaken r (.valid x)).validSlot r x k
    have hu : u.align = (s.slotTaken r (.valid x)).align := by simp [u]
    have hrig : u.rig r = { s.align.rigs.get r with slotCount := k } := by
      simp [State.rig, hu, State.slotTaken, k]
    have hother : u.rig r.other = s.align.rigs.get r.other := by
      simp [State.rig, hu, State.slotTaken, Rig.other_ne]
    have hprog : u.align.prog = s.align.prog := by simp [hu, State.slotTaken]
    refine ⟨?_, by simp [State.slotTaken, PortLink.follow_valid_breaks, l], ?_, ?_, ?_, ?_⟩
    · have harrive : ((u.alignArrive r x k).primeUpdate).align.rigs.get r = (u.rig r).arrive x k := by
        rw [← State.alignArrive_rig]
        simp [State.rig]
      refine harrive.trans ?_
      rw [hrig]
      cases hkind : x.kind with
      | idle =>
        rw [AlignRig.arrive_idle hkind]
        dsimp only
        rw [hkind]
      | audio =>
        rw [AlignRig.arrive_audio hkind]
        dsimp only
        rw [hkind]
    · have hanchor : ((u.alignArrive r x k).primeUpdate).align.prog = (u.alignArrive r x k).align.prog := by simp
      refine hanchor.trans ?_
      rw [State.alignArrive_prog]
      simp only [State.takesAnchor_iff, hprog]
      simp [u, State.slotTaken, k]
    · have h : ((u.alignArrive r x k).primeUpdate).align.rigs.get r.other = u.rig r.other := by
        rw [← State.alignArrive_rig_other u r x k]
        simp [State.rig]
      exact h.trans hother
    · have h : ((u.alignArrive r x k).primeUpdate).health.get r.other = u.monitor r.other := by simp [State.monitor]
      exact h.trans (State.validSlot_other _ _ _ _ (Rig.other_ne r))
    · ext1 <;> try simp [State.slotTaken]
      ext1 <;> simp

end Sys2Proof.Machine
end

section
/-! PROOFS, family other. The hard conditions of a rig (R28, R29): what one monitor may do, and what a slot's monitors do together. -/

namespace Sys2Proof.Machine

variable {s t u : State} {r : Rig} {c j : HardCond}

/-! ## The set of hard conditions -/

@[simp] theorem HardSet.get_set_same (h : HardSet) (c : HardCond) (b : Bool) : (h.set c b).get c = b := by cases c <;> rfl

theorem HardSet.get_set_other (h : HardSet) {c j : HardCond} (hj : j ≠ c) (b : Bool) : (h.set c b).get j = h.get j := by
  cases c <;> cases j <;> simp_all [HardSet.get, HardSet.set]

theorem HardSet.get_eq_false_of_isEmpty {h : HardSet} (he : h.isEmpty = true) (c : HardCond) : h.get c = false := by
  simp only [HardSet.isEmpty, Bool.and_eq_true, Bool.not_eq_true'] at he
  obtain ⟨⟨⟨⟨⟨hstall, hcorrupt⟩, hpilot⟩, hjump⟩, hdeclared⟩, hstart⟩ := he
  cases c <;> assumption

theorem HardSet.isEmpty_eq_false {h : HardSet} (c : HardCond) (hc : h.get c = true) : h.isEmpty = false := by
  cases he : h.isEmpty with
  | false => rfl
  | true =>
    have hfalse := HardSet.get_eq_false_of_isEmpty he c
    rw [hc] at hfalse
    cases hfalse

/-! ## The fault record only grows -/

/-- The record `g` holds what `f` holds: its first fault, where it has one, and its later kinds. -/
def FaultRecord.Grows (f g : FaultRecord) : Prop := (f.first ≠ none → g.first = f.first) ∧ f.later ⊆ g.later

theorem FaultRecord.Grows.refl (f : FaultRecord) : f.Grows f := ⟨fun _ => rfl, List.Subset.refl _⟩

theorem FaultRecord.Grows.trans {f g h : FaultRecord} (hfg : f.Grows g) (hgh : g.Grows h) : f.Grows h :=
  ⟨fun hf => (hgh.1 (by rwa [hfg.1 hf])).trans (hfg.1 hf), fun _ hj => hgh.2 (hfg.2 hj)⟩

theorem captured_grows (s : State) (k : FaultKind) (o : FaultOrigin) (d : FaultDetail) : s.fault.Grows (captured s k o d) := by
  refine ⟨fun h => captured_first_of_locked h k o d, fun j hj => ?_⟩
  cases h : s.fault.first with
  | none => simpa [captured, h] using hj
  | some x => exact (mem_captured_later (by simp [h]) k o d j).mpr (.inr hj)

/-- A fault that the record has taken stands in it: it is the first one, or its kind is among the later ones. -/
theorem captured_holds (s : State) (k : FaultKind) (o : FaultOrigin) (d : FaultDetail) {g : FaultRecord}
    (hg : (captured s k o d).Grows g) :
    (s.fault.first = none → g.first = some { kind := k, origin := o, pos := s.align.prog.pos, count := s.framer.count, detail := d })
      ∧ (s.fault.first ≠ none → g.first = s.fault.first ∧ k ∈ g.later) := by
  have hfirst := hg.1 (captured_first_ne_none s k o d)
  refine ⟨fun h => hfirst.trans (captured_first_of_empty h k o d), fun h => ⟨hfirst.trans (captured_first_of_locked h k o d), ?_⟩⟩
  exact hg.2 ((mem_captured_later h k o d k).mpr (.inl rfl))

/-- The stamp and the record that a fault taken at `s` meets are those of `u`. -/
def SameStamp (s u : State) : Prop := u.fault = s.fault ∧ u.align.prog.pos = s.align.prog.pos ∧ u.framer.count = s.framer.count

theorem captured_congr (h : SameStamp s u) (k : FaultKind) (o : FaultOrigin) (d : FaultDetail) :
    captured u k o d = captured s k o d := by
  obtain ⟨hfault, hpos, hcount⟩ := h
  simp only [captured, hfault, hpos, hcount]

/-! ## What one monitor may do -/

/-- The fields that R28 writes when a condition becomes set, besides the conditions and the event. -/
structure SameGrade (m n : HealthRec) : Prop where
  state : n.state = m.state
  qual : n.qual = m.qual
  recovery : n.recovery = m.recovery
  ready : n.requalifyReady = m.requalifyReady

theorem SameGrade.refl (m : HealthRec) : SameGrade m m := ⟨rfl, rfl, rfl, rfl⟩

theorem SameGrade.trans {m n k : HealthRec} (hmn : SameGrade m n) (hnk : SameGrade n k) : SameGrade m k :=
  ⟨hnk.state.trans hmn.state, hnk.qual.trans hmn.qual, hnk.recovery.trans hmn.recovery, hnk.ready.trans hmn.ready⟩

/-- R28: the rig's record after a condition that did not hold became set. -/
structure Struck (m n : HealthRec) : Prop where
  state : n.state = .failed
  qual : n.qual = if m.state = .failed then m.qual else 0
  recovery : n.recovery = if m.state = .failed then none else m.recovery
  ready : n.requalifyReady = if m.state = .failed then false else m.requalifyReady

/-- What the monitor of condition `c` may do to rig `r`: leave its grade, with the condition cleared or as it was, or set it. -/
inductive Judged (c : HardCond) (r : Rig) (s t : State) : Prop
  | quiet (grade : SameGrade (s.monitor r) (t.monitor r)) (hard : ∀ j, j ≠ c → (t.monitor r).hard.get j = (s.monitor r).hard.get j)
      (own : (t.monitor r).hard.get c = true → (s.monitor r).hard.get c = true) (fault : s.fault.Grows t.fault)
  | strike (d : FaultDetail) (on : (s.monitor r).state ≠ .offline) (new : (s.monitor r).hard.get c = false)
      (hard : (t.monitor r).hard = (s.monitor r).hard.set c true) (struck : Struck (s.monitor r) (t.monitor r))
      (fault : t.fault = captured s c.fault r.origin d)

namespace Judged

theorem grows (h : Judged c r s t) : s.fault.Grows t.fault := by
  cases h with
  | quiet _ _ _ hfault => exact hfault
  | strike d _ _ _ _ hfault =>
    rw [hfault]
    exact captured_grows _ _ _ _

theorem hard_other (h : Judged c r s t) (hj : j ≠ c) : (t.monitor r).hard.get j = (s.monitor r).hard.get j := by
  cases h with
  | quiet _ hhard _ _ => exact hhard j hj
  | strike _ _ _ hhard _ _ => rw [hhard, HardSet.get_set_other _ hj]

theorem failed (h : Judged c r s t) (hs : (s.monitor r).state = .failed) : (t.monitor r).state = .failed := by
  cases h with
  | quiet hgrade _ _ _ => exact hgrade.state.trans hs
  | strike _ _ _ _ hstruck _ => exact hstruck.state

theorem on (h : Judged c r s t) (hs : (s.monitor r).state ≠ .offline) : (t.monitor r).state ≠ .offline := by
  cases h with
  | quiet hgrade _ _ _ => rwa [hgrade.state]
  | strike _ _ _ _ hstruck _ => simp [hstruck.state]

/-- A monitor that leaves its condition clear leaves the grade as it is. -/
theorem grade_of_clear (h : Judged c r s t) (hclear : (t.monitor r).hard.get c = false) : SameGrade (s.monitor r) (t.monitor r) := by
  cases h with
  | quiet hgrade _ _ _ => exact hgrade
  | strike _ _ _ hhard _ _ => simp [hhard] at hclear

/-- The monitor may be given the state after a preparation that the rig's grade and the record do not see. -/
theorem of_prepared (hgrade : SameGrade (s.monitor r) (u.monitor r)) (hhard : (u.monitor r).hard = (s.monitor r).hard)
    (hstamp : SameStamp s u) (h : Judged c r u t) : Judged c r s t := by
  cases h with
  | quiet hg hj hown hfault =>
    rw [hstamp.1] at hfault
    rw [hhard] at hj hown
    exact .quiet (hgrade.trans hg) hj hown hfault
  | strike d hon hnew hset hstruck hfault =>
    rw [captured_congr hstamp] at hfault
    rw [hgrade.state] at hon
    rw [hhard] at hnew hset
    refine .strike d hon hnew hset ⟨hstruck.state, ?_, ?_, ?_⟩ hfault
    · rw [hstruck.qual, hgrade.state, hgrade.qual]
    · rw [hstruck.recovery, hgrade.state, hgrade.recovery]
    · rw [hstruck.ready, hgrade.state, hgrade.ready]

end Judged

namespace State

/-! ## R28's setting and clearing -/

theorem setHard_of_offline (h : (s.monitor r).state = .offline) (c : HardCond) (d : FaultDetail) : s.setHard r c d = s :=
  if_pos (.inl h)

theorem setHard_of_set (h : (s.monitor r).hard.get c = true) (d : FaultDetail) : s.setHard r c d = s := if_pos (.inr h)

/-- R28: the rig's record after a condition that did not hold became set. -/
theorem setHard_monitor (hon : (s.monitor r).state ≠ .offline) (hnew : (s.monitor r).hard.get c = false) (d : FaultDetail) :
    ((s.setHard r c d).monitor r).hard = (s.monitor r).hard.set c true ∧ Struck (s.monitor r) ((s.setHard r c d).monitor r) := by
  have hgo : ¬((s.monitor r).state = .offline ∨ (s.monitor r).hard.get c = true) := by simp [hon, hnew]
  simp only [setHard, if_neg hgo]
  split
  next hfailed =>
    simp only [setRigHealth_monitor, raise_monitor]
    exact ⟨trivial, hfailed, by simp [hfailed], by simp [hfailed], by simp [hfailed]⟩
  next hfailed => refine ⟨by simp, healthChange_state _ _ _ _, ?_, ?_, ?_⟩ <;> simp [hfailed]

theorem setHard_fault (hon : (s.monitor r).state ≠ .offline) (hnew : (s.monitor r).hard.get c = false) (d : FaultDetail) :
    (s.setHard r c d).fault = captured s c.fault r.origin d := by
  have hgo : ¬((s.monitor r).state = .offline ∨ (s.monitor r).hard.get c = true) := by simp [hon, hnew]
  simp only [setHard, if_neg hgo]
  repeat' split
  · exact raise_fault _ _ _ _
  · simp only [healthChange_frame, setRigHealth_fault]
    exact raise_fault _ _ _ _

theorem setHard_judged (s : State) (r : Rig) (c : HardCond) (d : FaultDetail) : Judged c r s (s.setHard r c d) := by
  by_cases hon : (s.monitor r).state = .offline
  · rw [setHard_of_offline hon]
    exact .quiet (.refl _) (fun _ _ => rfl) id (.refl _)
  cases hnew : (s.monitor r).hard.get c with
  | true =>
    rw [setHard_of_set hnew]
    exact .quiet (.refl _) (fun _ _ => rfl) id (.refl _)
  | false =>
    obtain ⟨hhard, hstruck⟩ := setHard_monitor hon hnew d
    exact .strike d hon hnew hhard hstruck (setHard_fault hon hnew d)

theorem setHard_get (hon : (s.monitor r).state ≠ .offline) (c : HardCond) (d : FaultDetail) :
    ((s.setHard r c d).monitor r).hard.get c = true := by
  cases hnew : (s.monitor r).hard.get c with
  | true => rwa [setHard_of_set hnew]
  | false =>
    obtain ⟨hhard, -⟩ := setHard_monitor hon hnew d
    rw [hhard, HardSet.get_set_same]

theorem clearHard_hard (s : State) (r : Rig) (c : HardCond) :
    ((s.clearHard r c).monitor r).hard = (s.monitor r).hard.set c false := by
  simp [clearHard]

theorem clearHard_judged (s : State) (r : Rig) (c : HardCond) : Judged c r s (s.clearHard r c) := by
  refine .quiet ⟨?_, ?_, ?_, ?_⟩ (fun j hj => ?_) (fun h => ?_) (by simpa using .refl s.fault)
  · simp [clearHard]
  · simp [clearHard]
  · simp [clearHard]
  · simp [clearHard]
  · rw [clearHard_hard, HardSet.get_set_other _ hj]
  · simp [clearHard_hard] at h

/-- A preparation of the rig's record that R28 does not see. -/
theorem setRigHealth_judged {v : HealthRec} (hgrade : SameGrade (s.monitor r) v) (hhard : v.hard = (s.monitor r).hard)
    (h : Judged c r (s.setRigHealth r v) t) : Judged c r s t :=
  .of_prepared (u := s.setRigHealth r v) (by simpa using hgrade) (by simpa using hhard) ⟨rfl, rfl, rfl⟩ h

theorem setRigHealth_quiet (c : HardCond) {v : HealthRec} (hgrade : SameGrade (s.monitor r) v) (hhard : v.hard = (s.monitor r).hard) :
    Judged c r s (s.setRigHealth r v) :=
  .quiet (by simpa using hgrade) (by simp [hhard]) (by simp [hhard]) (.refl _)

/-! ## The monitors -/

theorem declaredSlot_judged (s : State) (r : Rig) (x : InFrame) : Judged .declared r s (s.declaredSlot r x) := by
  unfold declaredSlot
  split
  · exact setHard_judged _ _ _ _
  · exact clearHard_judged _ _ _

theorem stallReached_judged (s : State) (r : Rig) : Judged .stall r s (s.stallReached r) := by
  simp only [stallReached]
  repeat' split
  · refine .of_prepared (u := s.setRigHealth r { s.monitor r with repeatStall := true }) ?_ ?_ ⟨rfl, rfl, rfl⟩
      (.quiet (.refl _) (fun _ _ => rfl) id ?_)
    · exact ⟨by simp, by simp, by simp, by simp⟩
    · simp
    · rw [raise_fault]
      exact captured_grows _ _ _ _
  · exact .quiet (.refl _) (fun _ _ => rfl) id (.refl _)
  · exact setRigHealth_judged (v := { s.monitor r with repeatStall := true }) ⟨rfl, rfl, rfl, rfl⟩ rfl (setHard_judged _ _ _ _)
  · exact setHard_judged _ _ _ _

theorem gapSlot_judged (s : State) (r : Rig) (live : Bool) : Judged .stall r s (s.gapSlot r live) := by
  simp only [gapSlot]
  repeat' split
  · exact setRigHealth_judged (v := { s.monitor r with gap := 0 }) ⟨rfl, rfl, rfl, rfl⟩ rfl (clearHard_judged _ _ _)
  · exact setRigHealth_judged (v := { s.monitor r with gap := min 400 ((s.monitor r).gap + 1) }) ⟨rfl, rfl, rfl, rfl⟩ rfl
      (stallReached_judged _ _)
  · exact setRigHealth_quiet _ (v := { s.monitor r with gap := min 400 ((s.monitor r).gap + 1) }) ⟨rfl, rfl, rfl, rfl⟩ rfl

/-- R33: the bucket after a slot outcome. -/
def bucketNext (b : Nat) (valid : Bool) : Nat := if valid then b - 1 else min 1024 (b + 16)

/-- R33: a rig's record with a new bucket and the WARN it gives. -/
def withBucket (m : HealthRec) (b : Nat) : HealthRec := { m with bucket := b, warn := decide (m.limits.warn ≤ b) }

theorem bucketSlot_eq (s : State) (r : Rig) (valid : Bool) :
    s.bucketSlot r valid
      = (let b := bucketNext (s.monitor r).bucket valid
         let u := s.setRigHealth r (withBucket (s.monitor r) b)
         if (s.monitor r).limits.corrupt ≤ b then u.setHard r .corrupt (.bucket b)
         else if b < (s.monitor r).limits.warn then u.clearHard r .corrupt
         else u) := rfl

theorem bucketSlot_judged (s : State) (r : Rig) (valid : Bool) : Judged .corrupt r s (s.bucketSlot r valid) := by
  rw [bucketSlot_eq]
  dsimp only
  repeat' split
  · exact setRigHealth_judged (v := withBucket (s.monitor r) _) ⟨rfl, rfl, rfl, rfl⟩ rfl (setHard_judged _ _ _ _)
  · exact setRigHealth_judged (v := withBucket (s.monitor r) _) ⟨rfl, rfl, rfl, rfl⟩ rfl (clearHard_judged _ _ _)
  · exact setRigHealth_quiet _ (v := withBucket (s.monitor r) _) ⟨rfl, rfl, rfl, rfl⟩ rfl

/-- R34: a rig's record with a new pilot hold count and peak. -/
def withPilot (m : HealthRec) (n peak : Nat) : HealthRec := { m with pilotCount := n, pilotPeak := peak }

theorem withPilot_judged {n peak : Nat} (h : Judged c r (s.setRigHealth r (withPilot (s.monitor r) n peak)) t) : Judged c r s t :=
  setRigHealth_judged (v := withPilot (s.monitor r) n peak) ⟨rfl, rfl, rfl, rfl⟩ rfl h

theorem withPilot_quiet (s : State) (r : Rig) (c : HardCond) (n peak : Nat) :
    Judged c r s (s.setRigHealth r (withPilot (s.monitor r) n peak)) :=
  setRigHealth_quiet _ (v := withPilot (s.monitor r) n peak) ⟨rfl, rfl, rfl, rfl⟩ rfl

theorem pilotSlot_judged (s : State) (r : Rig) (x : InFrame) : Judged .pilotLost r s (s.pilotSlot r x) := by
  simp only [pilotSlot]
  split
  · exact withPilot_judged (n := 0) (peak := 0) (clearHard_judged _ _ _)
  split
  · exact withPilot_quiet s r _ 0 0
  repeat' split
  · exact withPilot_judged (n := 0) (peak := 0) (clearHard_judged _ _ _)
  · exact withPilot_judged (setHard_judged _ _ _ _)
  · exact withPilot_quiet s r _ _ _

/-- R35: a rig's record with a new continuity reference. -/
def withRef (m : HealthRec) (x : Option ContRef) : HealthRec := { m with ref := x }

theorem withRef_judged {x : Option ContRef} (h : Judged c r (s.setRigHealth r (withRef (s.monitor r) x)) t) : Judged c r s t :=
  setRigHealth_judged (v := withRef (s.monitor r) x) ⟨rfl, rfl, rfl, rfl⟩ rfl h

theorem jumped_judged (s : State) (r : Rig) (p : ShowPos) : Judged .jump r s (s.jumped r p) := by
  unfold jumped
  split
  · exact setHard_judged _ _ _ _
  · exact setRigHealth_quiet _ (v := { s.monitor r with softJump := some Config.softJump }) ⟨rfl, rfl, rfl, rfl⟩ rfl

theorem continuitySlot_judged (s : State) (r : Rig) (x : InFrame) (k : Word) : Judged .jump r s (s.continuitySlot r x k) := by
  simp only [continuitySlot]
  split
  · split
    · exact withRef_judged (clearHard_judged _ _ _)
    · exact .quiet (.refl _) (fun _ _ => rfl) id (.refl _)
  · split
    · exact setRigHealth_quiet _ (v := withRef (s.monitor r) _) ⟨rfl, rfl, rfl, rfl⟩ rfl
    · split
      · exact withRef_judged (clearHard_judged _ _ _)
      · exact withRef_judged (jumped_judged _ _ _)

theorem noStartSlot_judged (s : State) (r : Rig) (x : InFrame) : Judged .noStart r s (s.noStartSlot r x) := by
  unfold noStartSlot
  split
  · exact clearHard_judged _ _ _
  · exact .quiet (.refl _) (fun _ _ => rfl) id (.refl _)

end State

end Sys2Proof.Machine
end

section
/-! PROOFS, family other. A slot of a rig's UP link at the health monitor (R24, R28 to R37): the monitors in their order (log 3), and what
they leave together. -/

namespace Sys2Proof.Machine

variable {s t u v : State} {r : Rig} {c : HardCond}

/-! ## Several monitors, one after another -/

/-- What a run of monitors over rig `r` keeps: a FAILED rig stays FAILED with its count, a rig that becomes FAILED has count 0, no rig
becomes OFFLINE, and the fault record grows. -/
structure Advance (r : Rig) (s t : State) : Prop where
  failed : (s.monitor r).state = .failed → (t.monitor r).state = .failed ∧ (t.monitor r).qual = (s.monitor r).qual
  idle : (s.monitor r).state = .failed → (s.monitor r).recovery = none → (t.monitor r).recovery = none
  unready : (s.monitor r).state = .failed → (s.monitor r).requalifyReady = false → (t.monitor r).requalifyReady = false
  newly : (s.monitor r).state ≠ .failed → (t.monitor r).state = .failed → (t.monitor r).qual = 0
  on : (s.monitor r).state ≠ .offline → (t.monitor r).state ≠ .offline
  grows : s.fault.Grows t.fault

/-- A rig that a condition has made FAILED, or that was FAILED and met a new one (R28). -/
structure Hit (m n : HealthRec) : Prop where
  state : n.state = .failed
  qual : m.state ≠ .failed → n.qual = 0
  timers : m.state = .failed → n.recovery = none ∧ n.requalifyReady = false

theorem Advance.trans (hsu : Advance r s u) (hut : Advance r u t) : Advance r s t where
  failed h := by
    obtain ⟨hu, hqual⟩ := hsu.failed h
    obtain ⟨ht, hqual'⟩ := hut.failed hu
    exact ⟨ht, hqual'.trans hqual⟩
  idle h hr := hut.idle (hsu.failed h).1 (hsu.idle h hr)
  unready h hr := hut.unready (hsu.failed h).1 (hsu.unready h hr)
  newly h ht := by
    by_cases hu : (u.monitor r).state = .failed
    · exact (hut.failed hu).2.trans (hsu.newly h hu)
    · exact hut.newly hu ht
  on h := hut.on (hsu.on h)
  grows := hsu.grows.trans hut.grows

theorem Advance.of_same (hgrade : SameGrade (s.monitor r) (t.monitor r)) (hfault : s.fault.Grows t.fault) : Advance r s t where
  failed h := ⟨hgrade.state.trans h, hgrade.qual⟩
  idle _ h := hgrade.recovery.trans h
  unready _ h := hgrade.ready.trans h
  newly h ht := absurd (hgrade.state.symm.trans ht) h
  on h := by rwa [hgrade.state]
  grows := hfault

theorem Advance.refl (r : Rig) (s : State) : Advance r s s := .of_same (.refl _) (.refl _)

theorem Judged.advance (h : Judged c r s t) : Advance r s t := by
  cases h with
  | quiet hgrade _ _ hfault => exact .of_same hgrade hfault
  | strike d hon hnew hhard hstruck hfault =>
    exact {
      failed := fun hs => ⟨hstruck.state, by rw [hstruck.qual, if_pos hs]⟩
      idle := fun hs _ => by rw [hstruck.recovery, if_pos hs]
      unready := fun hs _ => by rw [hstruck.ready, if_pos hs]
      newly := fun hs _ => by rw [hstruck.qual, if_neg hs]
      on := fun _ => by simp [hstruck.state]
      grows := hfault ▸ captured_grows _ _ _ _ }

/-- A condition set in a run of monitors leaves its effects of R28 at the end of the run. -/
theorem Hit.of_struck (hsu : Advance r s u) (huv : Struck (u.monitor r) (v.monitor r)) (hvt : Advance r v t) :
    Hit (s.monitor r) (t.monitor r) where
  state := (hvt.failed huv.state).1
  qual hs := by
    rw [(hvt.failed huv.state).2, huv.qual]
    split
    · exact hsu.newly hs ‹_›
    · rfl
  timers hs := by
    have hu := (hsu.failed hs).1
    exact ⟨hvt.idle huv.state (by rw [huv.recovery, if_pos hu]), hvt.unready huv.state (by rw [huv.ready, if_pos hu])⟩

/-- A fault raised in a run of monitors stands in the record at its end. -/
theorem fault_of_strike {k : FaultKind} {o : FaultOrigin} {d : FaultDetail} (hsu : s.fault.Grows u.fault)
    (huv : v.fault = captured u k o d) (hvt : v.fault.Grows t.fault) :
    (s.fault.first ≠ none → t.fault.first = s.fault.first ∧ k ∈ t.fault.later)
      ∧ (s.fault.first = none → (∃ y, t.fault.first = some y ∧ y.kind = k) ∨ k ∈ t.fault.later) := by
  rw [huv] at hvt
  obtain ⟨hempty, hlocked⟩ := captured_holds u k o d hvt
  refine ⟨fun hs => ?_, fun _ => ?_⟩
  · have hu := hsu.1 hs
    obtain ⟨hfirst, hmem⟩ := hlocked (by rwa [hu])
    exact ⟨hfirst.trans hu, hmem⟩
  · by_cases hu : u.fault.first = none
    · exact .inl ⟨_, hempty hu, rfl⟩
    · exact .inr (hlocked hu).2

namespace State

/-! ## The monitors of a valid frame, in their order -/

/-- The rig's monitor once it has heard a valid frame, before any condition is judged. -/
def heard (s : State) (r : Rig) (x : InFrame) (k : Word) : State :=
  (s.captureValid r x k).setRigHealth r
    { (s.captureValid r x k).monitor r with playing := playingAfter (s.monitor r) x, lastSeq := some x.seq }

def judgedDeclared (s : State) (r : Rig) (x : InFrame) (k : Word) : State := (s.heard r x k).declaredSlot r x
def judgedGap (s : State) (r : Rig) (x : InFrame) (k : Word) : State := (s.judgedDeclared r x k).gapSlot r (liveFrame (s.monitor r) x)
def judgedBucket (s : State) (r : Rig) (x : InFrame) (k : Word) : State := (s.judgedGap r x k).bucketSlot r true
def judgedPilot (s : State) (r : Rig) (x : InFrame) (k : Word) : State := (s.judgedBucket r x k).pilotSlot r x
def judgedJump (s : State) (r : Rig) (x : InFrame) (k : Word) : State := (s.judgedPilot r x k).continuitySlot r x k
def judgedValid (s : State) (r : Rig) (x : InFrame) (k : Word) : State := (s.judgedJump r x k).noStartSlot r x

/-- What follows the monitors in a slot: the recovery hold, the grade and the qualification count. -/
def finish (s : State) (r : Rig) (before : Bool) (k : FrameKind) (inRun : Bool) : State :=
  ((s.startRecovery r before).regrade r k).qualifySlot r k inRun

theorem validSlot_eq (s : State) (r : Rig) (x : InFrame) (k : Word) :
    s.validSlot r x k
      = (s.judgedValid r x k).finish r (!(s.monitor r).hard.isEmpty) x.kind (decide ((s.monitor r).lastSeq = some (x.seq - 1))) := rfl

theorem captureValid_grade (s : State) (r : Rig) (x : InFrame) (k : Word) :
    SameGrade (s.monitor r) ((s.captureValid r x k).monitor r)
      ∧ ((s.captureValid r x k).monitor r).hard = (s.monitor r).hard := by
  simp only [captureValid]
  split
  · exact ⟨.refl _, rfl⟩
  · exact ⟨⟨by simp, by simp, by simp, by simp⟩, by simp⟩

theorem heard_grade (s : State) (r : Rig) (x : InFrame) (k : Word) :
    SameGrade (s.monitor r) ((s.heard r x k).monitor r) ∧ ((s.heard r x k).monitor r).hard = (s.monitor r).hard := by
  obtain ⟨hgrade, hhard⟩ := captureValid_grade s r x k
  simp only [heard, setRigHealth_monitor]
  exact ⟨⟨hgrade.state, hgrade.qual, hgrade.recovery, hgrade.ready⟩, hhard⟩

theorem heard_stamp (s : State) (r : Rig) (x : InFrame) (k : Word) : SameStamp s (s.heard r x k) := by
  simp [SameStamp, heard]

theorem heard_advance (s : State) (r : Rig) (x : InFrame) (k : Word) : Advance r s (s.heard r x k) :=
  .of_same (heard_grade s r x k).1 ((heard_stamp s r x k).1 ▸ .refl _)

theorem judgedDeclared_judged (s : State) (r : Rig) (x : InFrame) (k : Word) : Judged .declared r s (s.judgedDeclared r x k) :=
  .of_prepared (heard_grade s r x k).1 (heard_grade s r x k).2 (heard_stamp s r x k) (declaredSlot_judged _ _ _)

theorem judgedGap_judged (s : State) (r : Rig) (x : InFrame) (k : Word) :
    Judged .stall r (s.judgedDeclared r x k) (s.judgedGap r x k) := gapSlot_judged _ _ _
theorem judgedBucket_judged (s : State) (r : Rig) (x : InFrame) (k : Word) :
    Judged .corrupt r (s.judgedGap r x k) (s.judgedBucket r x k) := bucketSlot_judged _ _ _
theorem judgedPilot_judged (s : State) (r : Rig) (x : InFrame) (k : Word) :
    Judged .pilotLost r (s.judgedBucket r x k) (s.judgedPilot r x k) := pilotSlot_judged _ _ _
theorem judgedJump_judged (s : State) (r : Rig) (x : InFrame) (k : Word) :
    Judged .jump r (s.judgedPilot r x k) (s.judgedJump r x k) := continuitySlot_judged _ _ _ _
theorem judgedValid_judged (s : State) (r : Rig) (x : InFrame) (k : Word) :
    Judged .noStart r (s.judgedJump r x k) (s.judgedValid r x k) := noStartSlot_judged _ _ _

/-! ## After the monitors -/

theorem startRecovery_of_hard (h : (s.monitor r).hard.isEmpty = false) (before : Bool) : s.startRecovery r before = s :=
  if_neg fun ⟨_, he, _⟩ => by simp [h] at he

theorem regrade_of_failed (h : (s.monitor r).state = .failed) (k : FrameKind) : s.regrade r k = s := by
  simp [regrade, HealthRec.graded, h]

theorem qualifySlot_of_not_qualifying (h : (s.monitor r).state ≠ .qualifying) (k : FrameKind) (inRun : Bool) : s.qualifySlot r k inRun = s :=
  if_neg h

theorem startRecovery_state (s : State) (r : Rig) (before : Bool) : ((s.startRecovery r before).monitor r).state = (s.monitor r).state := by
  simp only [startRecovery]
  split <;> simp

theorem finish_of_failed (h : (s.monitor r).state = .failed) (before : Bool) (k : FrameKind) (inRun : Bool) :
    s.finish r before k inRun = s.startRecovery r before := by
  have hstart : ((s.startRecovery r before).monitor r).state = .failed := (startRecovery_state s r before).trans h
  rw [finish, regrade_of_failed hstart, qualifySlot_of_not_qualifying (by simp [hstart])]

theorem finish_of_hard (h : (s.monitor r).state = .failed) (hhard : (s.monitor r).hard.isEmpty = false) (before : Bool) (k : FrameKind)
    (inRun : Bool) : s.finish r before k inRun = s := by
  rw [finish_of_failed h, startRecovery_of_hard hhard]

theorem finish_hard (s : State) (r : Rig) (before : Bool) (k : FrameKind) (inRun : Bool) :
    ((s.finish r before k inRun).monitor r).hard = (s.monitor r).hard := by
  simp [finish]

theorem finish_fault (s : State) (r : Rig) (before : Bool) (k : FrameKind) (inRun : Bool) :
    (s.finish r before k inRun).fault = s.fault := by
  simp [finish]

/-- R29: the end of a slot that has cleared a FAILED rig's last condition. -/
theorem startRecovery_of_cleared (h : (s.monitor r).state = .failed) (hclear : (s.monitor r).hard.isEmpty = true) :
    ((s.startRecovery r true).monitor r).recovery = some (s.monitor r).limits.recovery := by
  simp [startRecovery, h, hclear]

/-! ## The monitors of a discarded frame -/

def discardGap (s : State) (r : Rig) (d : Discard) (k : Word) : State := (s.captureDiscard r d k).gapSlot r false
def discardBucket (s : State) (r : Rig) (d : Discard) (k : Word) : State := (s.discardGap r d k).bucketSlot r false

/-- What follows the monitors in a slot without a valid frame: the recovery hold, the grade, and no qualification count. -/
def finishDiscard (s : State) (r : Rig) (before : Bool) : State :=
  let u := (s.startRecovery r before).regrade r .audio
  if (u.monitor r).state = .qualifying then u.setRigHealth r { u.monitor r with qual := 0 } else u

theorem discardSlot_eq (s : State) (r : Rig) (d : Discard) (k : Word) :
    s.discardSlot r d k = (s.discardBucket r d k).finishDiscard r (!(s.monitor r).hard.isEmpty) := rfl

theorem captureDiscard_grade (s : State) (r : Rig) (d : Discard) (k : Word) :
    SameGrade (s.monitor r) ((s.captureDiscard r d k).monitor r)
      ∧ ((s.captureDiscard r d k).monitor r).hard = (s.monitor r).hard := by
  simp only [captureDiscard]
  split
  · exact ⟨.refl _, rfl⟩
  · exact ⟨⟨by simp, by simp, by simp, by simp⟩, by simp⟩

theorem discardGap_judged (s : State) (r : Rig) (d : Discard) (k : Word) : Judged .stall r s (s.discardGap r d k) :=
  .of_prepared (captureDiscard_grade s r d k).1 (captureDiscard_grade s r d k).2 (by simp [SameStamp]) (gapSlot_judged _ _ _)

theorem discardBucket_judged (s : State) (r : Rig) (d : Discard) (k : Word) :
    Judged .corrupt r (s.discardGap r d k) (s.discardBucket r d k) := bucketSlot_judged _ _ _

theorem finishDiscard_of_failed (h : (s.monitor r).state = .failed) (before : Bool) : s.finishDiscard r before = s.startRecovery r before := by
  have hstart : ((s.startRecovery r before).monitor r).state = .failed := (startRecovery_state s r before).trans h
  simp [finishDiscard, regrade_of_failed hstart, hstart]

theorem finishDiscard_of_hard (h : (s.monitor r).state = .failed) (hhard : (s.monitor r).hard.isEmpty = false) (before : Bool) :
    s.finishDiscard r before = s := by
  rw [finishDiscard_of_failed h, startRecovery_of_hard hhard]

theorem finishDiscard_hard (s : State) (r : Rig) (before : Bool) : ((s.finishDiscard r before).monitor r).hard = (s.monitor r).hard := by
  simp only [finishDiscard]
  split <;> simp

theorem finishDiscard_fault (s : State) (r : Rig) (before : Bool) : (s.finishDiscard r before).fault = s.fault := by
  simp only [finishDiscard]
  split <;> simp

/-! ## MAIN_FRAME at the rig's monitor -/

theorem slotTaken_monitor (s : State) (r q : Rig) (o : SlotOutcome) : (s.slotTaken r o).monitor q = s.health.get q := rfl

theorem slotTaken_stamp (s : State) (r : Rig) (o : SlotOutcome) : SameStamp s (s.slotTaken r o) := ⟨rfl, rfl, rfl⟩

theorem upSlot_valid (s : State) (r : Rig) (x : InFrame) :
    let k := (s.align.rigs.get r).slotCount + 1
    (∀ q, (s.upSlot r.port (.valid x)).health.get q = ((s.slotTaken r (.valid x)).validSlot r x k).monitor q)
      ∧ (s.upSlot r.port (.valid x)).fault = ((s.slotTaken r (.valid x)).validSlot r x k).fault := by
  rw [upSlot_of_rig]
  simp [monitor]

theorem upSlot_discarded (s : State) (r : Rig) (d : Discard) :
    s.upSlot r.port (.discarded d) = (s.slotTaken r (.discarded d)).discardSlot r d ((s.align.rigs.get r).slotCount + 1) :=
  upSlot_of_rig _ _ _

/-! ## DECLARED (R37) -/

theorem declaredSlot_declared (hon : (s.monitor r).state ≠ .offline) (x : InFrame) :
    ((s.declaredSlot r x).monitor r).hard.get .declared = x.declared := by
  unfold declaredSlot
  cases hx : x.declared with
  | true => simpa using setHard_get hon .declared _
  | false => simp [clearHard_hard]

theorem judgedValid_declared (s : State) (r : Rig) (x : InFrame) (k : Word) :
    ((s.judgedValid r x k).monitor r).hard.get .declared = ((s.judgedDeclared r x k).monitor r).hard.get .declared := by
  rw [(judgedValid_judged s r x k).hard_other (by decide), (judgedJump_judged s r x k).hard_other (by decide),
    (judgedPilot_judged s r x k).hard_other (by decide), (judgedBucket_judged s r x k).hard_other (by decide),
    (judgedGap_judged s r x k).hard_other (by decide)]

/-- The monitors that follow R37's in a slot. -/
theorem judgedDeclared_advance (s : State) (r : Rig) (x : InFrame) (k : Word) :
    Advance r (s.judgedDeclared r x k) (s.judgedValid r x k) :=
  (judgedGap_judged s r x k).advance.trans <| (judgedBucket_judged s r x k).advance.trans <|
    (judgedPilot_judged s r x k).advance.trans <| (judgedJump_judged s r x k).advance.trans (judgedValid_judged s r x k).advance

theorem judged_advance (s : State) (r : Rig) (x : InFrame) (k : Word) : Advance r s (s.judgedValid r x k) :=
  (judgedDeclared_judged s r x k).advance.trans (judgedDeclared_advance s r x k)

theorem validSlot_failed (h : (s.monitor r).state = .failed) (x : InFrame) (k : Word) :
    ((s.validSlot r x k).monitor r).state = .failed := by
  have hjudged := ((judged_advance s r x k).failed h).1
  rw [validSlot_eq, finish_of_failed hjudged, startRecovery_state, hjudged]

/-- A condition that holds of a FAILED rig after the monitors leaves nothing to what follows them. -/
theorem validSlot_of_hit {x : InFrame} {k : Word} (hstate : ((s.judgedValid r x k).monitor r).state = .failed)
    (hhard : ((s.judgedValid r x k).monitor r).hard.get c = true) : s.validSlot r x k = s.judgedValid r x k := by
  rw [validSlot_eq, finish_of_hard hstate (HardSet.isEmpty_eq_false c hhard)]

theorem discardSlot_of_hit {d : Discard} {k : Word} (hstate : ((s.discardBucket r d k).monitor r).state = .failed)
    (hhard : ((s.discardBucket r d k).monitor r).hard.get c = true) : s.discardSlot r d k = s.discardBucket r d k := by
  rw [discardSlot_eq, finishDiscard_of_hard hstate (HardSet.isEmpty_eq_false c hhard)]

theorem validSlot_declared (hon : (s.monitor r).state ≠ .offline) (x : InFrame) (k : Word) :
    ((s.validSlot r x k).monitor r).hard.get .declared = x.declared := by
  rw [validSlot_eq, finish_hard, judgedValid_declared]
  refine declaredSlot_declared ?_ x
  rwa [(heard_grade s r x k).1.state]

/-- R28: a fault-declared flag that was not up makes the rig FAILED, and RIG DECLARED comes before the slot's other faults. -/
theorem validSlot_newly_declared (hon : (s.monitor r).state ≠ .offline) {x : InFrame} (hx : x.declared = true)
    (hnew : (s.monitor r).hard.get .declared = false) (k : Word) :
    ((s.validSlot r x k).monitor r).state = .failed
      ∧ (captured s .rigDeclared r.origin (.sequence x.seq)).Grows (s.validSlot r x k).fault := by
  obtain ⟨hgrade, hhard⟩ := heard_grade s r x k
  have hon' : ((s.heard r x k).monitor r).state ≠ .offline := by rwa [hgrade.state]
  have hnew' : ((s.heard r x k).monitor r).hard.get .declared = false := by rwa [hhard]
  have hset : s.judgedDeclared r x k = (s.heard r x k).setHard r .declared (.sequence x.seq) := if_pos hx
  obtain ⟨-, hstruck⟩ := setHard_monitor hon' hnew' (.sequence x.seq)
  have hfault : (s.judgedDeclared r x k).fault = captured s .rigDeclared r.origin (.sequence x.seq) := by
    rw [hset, setHard_fault hon' hnew', captured_congr (heard_stamp s r x k)]
    rfl
  rw [← hset] at hstruck
  have hstate := ((judgedDeclared_advance s r x k).failed hstruck.state).1
  refine ⟨?_, ?_⟩
  · rw [validSlot_eq, finish_of_failed hstate, startRecovery_state, hstate]
  · rw [validSlot_eq, finish_fault, ← hfault]
    exact (judgedDeclared_advance s r x k).grows

theorem discardSlot_declared (s : State) (r : Rig) (d : Discard) (k : Word) :
    ((s.discardSlot r d k).monitor r).hard.get .declared = (s.monitor r).hard.get .declared := by
  rw [discardSlot_eq, finishDiscard_hard, (discardBucket_judged s r d k).hard_other (by decide),
    (discardGap_judged s r d k).hard_other (by decide)]

end State

/-- Settles O13: R37's monitor is the first of a valid frame's, and the ones after it leave DECLARED, a FAILED rig and the first fault. -/
theorem declaredFollowsTheFlag : Obligations.DeclaredFollowsTheFlag := by
  intro s r slot hup hon
  refine ⟨_, State.exec_mainFrame_of_up hup slot, fun d hd => ?_, fun x hx => ?_⟩
  · rw [hd, State.upSlot_discarded]
    exact State.discardSlot_declared (s.slotTaken r (.discarded d)) r d _
  · obtain ⟨hhealth, hfault⟩ := State.upSlot_valid s r x
    rw [hx, hhealth, hfault]
    let u := s.slotTaken r (.valid x)
    have hgrade : (u.monitor r).state ≠ .offline := hon
    refine ⟨State.validSlot_declared hgrade x _, fun hflag hnew => ?_, fun hfailed => State.validSlot_failed (s := u) hfailed x _⟩
    obtain ⟨hstate, hgrows⟩ := State.validSlot_newly_declared (s := u) hgrade hflag hnew ((s.align.rigs.get r).slotCount + 1)
    rw [captured_congr (State.slotTaken_stamp s r (.valid x))] at hgrows
    exact ⟨hstate, captured_holds s _ _ _ hgrows⟩

end Sys2Proof.Machine
end

section
/-! PROOFS, family other. The CRC bucket, WARN, CORRUPT and the bad-frame capture at a rig's slot (R33, R40). -/

namespace Sys2Proof.Machine.State

variable {s t u : State} {r : Rig}

/-! ## The bucket -/

theorem bucketSlot_bucket (s : State) (r : Rig) (valid : Bool) :
    ((s.bucketSlot r valid).monitor r).bucket = bucketNext (s.monitor r).bucket valid := by
  rw [bucketSlot_eq]
  dsimp only
  (repeat' split) <;> simp [withBucket]

theorem bucketSlot_warn (s : State) (r : Rig) (valid : Bool) :
    ((s.bucketSlot r valid).monitor r).warn = decide ((s.monitor r).limits.warn ≤ bucketNext (s.monitor r).bucket valid) := by
  rw [bucketSlot_eq]
  dsimp only
  (repeat' split) <;> simp [withBucket]

/-- What a slot's monitors, in either kind of slot, leave of the bucket and of the fields it is judged by. -/
theorem validSlot_bucket (s : State) (r : Rig) (x : InFrame) (k : Word) :
    ((s.validSlot r x k).monitor r).bucket = (s.monitor r).bucket - 1
      ∧ ((s.validSlot r x k).monitor r).warn = decide ((s.monitor r).limits.warn ≤ (s.monitor r).bucket - 1) := by
  simp [validSlot_eq, finish, judgedValid, judgedJump, judgedPilot, judgedBucket, bucketSlot_bucket, bucketSlot_warn, judgedGap,
    judgedDeclared, heard, bucketNext]

theorem discardSlot_bucket (s : State) (r : Rig) (d : Discard) (k : Word) :
    ((s.discardSlot r d k).monitor r).bucket = min 1024 ((s.monitor r).bucket + 16)
      ∧ ((s.discardSlot r d k).monitor r).warn = decide ((s.monitor r).limits.warn ≤ min 1024 ((s.monitor r).bucket + 16)) := by
  simp only [discardSlot_eq, finishDiscard]
  split <;> simp [discardBucket, bucketSlot_bucket, bucketSlot_warn, discardGap, bucketNext]

theorem validSlot_capture (s : State) (r : Rig) (x : InFrame) (k : Word) :
    ((s.validSlot r x k).monitor r).capture = if (s.monitor r).capture.locked then (s.monitor r).capture else
      { locked := false, kind := if x.kind = .audio then 1 else 0, seq := x.seq, cue := x.pos.cue, pos := x.pos.pos,
        channels := BitVec.ofNat 8 x.count, arrival := k, received := none, computed := none } := by
  have hkind : x.kind.code = if x.kind = .audio then 1 else 0 := by cases x.kind <;> rfl
  rw [← hkind]
  have h : ((s.validSlot r x k).monitor r).capture = ((s.captureValid r x k).monitor r).capture := by
    simp [validSlot_eq, finish, judgedValid, judgedJump, judgedPilot, judgedBucket, judgedGap, judgedDeclared, heard]
  rw [h]
  unfold captureValid
  dsimp only
  (repeat' split) <;> simp

theorem discardSlot_capture (s : State) (r : Rig) (d : Discard) (k : Word) :
    ((s.discardSlot r d k).monitor r).capture = if (s.monitor r).capture.locked then (s.monitor r).capture else
      { locked := true, kind := byteAt d.bytes 0, seq := halfAt d.bytes 2, cue := halfAt d.bytes 4, pos := wordAt d.bytes 6,
        channels := byteAt d.bytes 10, arrival := k, received := some d.received, computed := some d.computed } := by
  have h : ((s.discardSlot r d k).monitor r).capture = ((s.captureDiscard r d k).monitor r).capture := by
    simp only [discardSlot_eq, finishDiscard]
    split <;> simp [discardBucket, discardGap]
  rw [h]
  unfold captureDiscard
  dsimp only
  (repeat' split) <;> simp

/-! ## CORRUPT -/

theorem bucketSlot_corrupt_of_high {valid : Bool} (hon : (s.monitor r).state ≠ .offline)
    (h : (s.monitor r).limits.corrupt ≤ bucketNext (s.monitor r).bucket valid) :
    ((s.bucketSlot r valid).monitor r).hard.get .corrupt = true := by
  rw [bucketSlot_eq]
  dsimp only
  rw [if_pos h]
  refine setHard_get ?_ .corrupt _
  simpa [withBucket] using hon

theorem bucketSlot_corrupt_of_low {valid : Bool} (h : bucketNext (s.monitor r).bucket valid < (s.monitor r).limits.corrupt)
    (hlow : bucketNext (s.monitor r).bucket valid < (s.monitor r).limits.warn) :
    ((s.bucketSlot r valid).monitor r).hard.get .corrupt = false := by
  rw [bucketSlot_eq]
  dsimp only
  rw [if_neg (Nat.not_le.mpr h), if_pos hlow]
  simp [clearHard_hard]

theorem bucketSlot_corrupt_of_mid {valid : Bool} (h : bucketNext (s.monitor r).bucket valid < (s.monitor r).limits.corrupt)
    (hmid : (s.monitor r).limits.warn ≤ bucketNext (s.monitor r).bucket valid) :
    ((s.bucketSlot r valid).monitor r).hard.get .corrupt = (s.monitor r).hard.get .corrupt := by
  rw [bucketSlot_eq]
  dsimp only
  rw [if_neg (Nat.not_le.mpr h), if_neg (Nat.not_lt.mpr hmid)]
  simp [withBucket]

/-- CORRUPT newly set: R28's effects, and its detail is the bucket. -/
theorem bucketSlot_newly {valid : Bool} (hon : (s.monitor r).state ≠ .offline) (hnew : (s.monitor r).hard.get .corrupt = false)
    (h : (s.monitor r).limits.corrupt ≤ bucketNext (s.monitor r).bucket valid) :
    Struck (s.monitor r) ((s.bucketSlot r valid).monitor r)
      ∧ (s.bucketSlot r valid).fault = captured s .rigCorrupt r.origin (.bucket (bucketNext (s.monitor r).bucket valid)) := by
  let u := s.setRigHealth r (withBucket (s.monitor r) (bucketNext (s.monitor r).bucket valid))
  have hset : s.bucketSlot r valid = u.setHard r .corrupt (.bucket (bucketNext (s.monitor r).bucket valid)) := if_pos h
  have hmonitor : u.monitor r = withBucket (s.monitor r) (bucketNext (s.monitor r).bucket valid) := setRigHealth_monitor _ _ _
  have hon' : (u.monitor r).state ≠ .offline := by simpa [hmonitor, withBucket] using hon
  have hnew' : (u.monitor r).hard.get .corrupt = false := by simpa [hmonitor, withBucket] using hnew
  obtain ⟨-, hstruck⟩ := setHard_monitor hon' hnew' (.bucket (bucketNext (s.monitor r).bucket valid))
  rw [hmonitor] at hstruck
  rw [hset]
  exact ⟨⟨hstruck.state, hstruck.qual, hstruck.recovery, hstruck.ready⟩, setHard_fault hon' hnew' _⟩

end Sys2Proof.Machine.State

namespace Sys2Proof.Machine

variable {s : State} {r : Rig}

open State

/-! ## R33's column for a slot's end, in terms of the record it began with -/

/-- What O14 says of CORRUPT: `n` and `f` are the rig's record and the fault record after the slot, `m` and `s` what it found. -/
structure CorruptEnd (s : State) (r : Rig) (m n : HealthRec) (f : FaultRecord) : Prop where
  high : m.limits.corrupt ≤ n.bucket → n.hard.get .corrupt = true
  newly : m.limits.corrupt ≤ n.bucket → m.hard.get .corrupt = false → Hit m n
  taken : m.limits.corrupt ≤ n.bucket → m.hard.get .corrupt = false →
    (s.fault.first ≠ none → f.first = s.fault.first ∧ .rigCorrupt ∈ f.later)
      ∧ (s.fault.first = none → (∃ y, f.first = some y ∧ y.kind = .rigCorrupt) ∨ .rigCorrupt ∈ f.later)
  low : n.bucket < m.limits.corrupt → n.bucket < m.limits.warn → n.hard.get .corrupt = false
  mid : n.bucket < m.limits.corrupt → m.limits.warn ≤ n.bucket → n.hard.get .corrupt = m.hard.get .corrupt
  cleared : m.state = .failed → m.hard.isEmpty = false → n.hard.isEmpty = true → n.state = .failed ∧ n.recovery = some m.limits.recovery

theorem validSlot_corruptEnd (hon : (s.monitor r).state ≠ .offline) (x : InFrame) (k : Word) :
    CorruptEnd s r (s.monitor r) ((s.validSlot r x k).monitor r) (s.validSlot r x k).fault := by
  have hbefore : Advance r s (s.judgedGap r x k) := (judgedDeclared_judged s r x k).advance.trans (judgedGap_judged s r x k).advance
  have hafter : Advance r (s.judgedBucket r x k) (s.judgedValid r x k) :=
    (judgedPilot_judged s r x k).advance.trans <| (judgedJump_judged s r x k).advance.trans (judgedValid_judged s r x k).advance
  have hbucket := (validSlot_bucket s r x k).1
  have hlimits : ((s.judgedGap r x k).monitor r).limits = (s.monitor r).limits
      ∧ ((s.judgedGap r x k).monitor r).bucket = (s.monitor r).bucket := by
    simp [judgedGap, judgedDeclared, heard]
  have hnext : bucketNext ((s.judgedGap r x k).monitor r).bucket true = ((s.validSlot r x k).monitor r).bucket := by
    rw [hbucket, hlimits.2]
    rfl
  have hkept : ((s.judgedGap r x k).monitor r).hard.get .corrupt = (s.monitor r).hard.get .corrupt := by
    rw [(judgedGap_judged s r x k).hard_other (by decide), (judgedDeclared_judged s r x k).hard_other (by decide)]
  have hend : ((s.validSlot r x k).monitor r).hard.get .corrupt = ((s.judgedBucket r x k).monitor r).hard.get .corrupt := by
    rw [validSlot_eq, finish_hard, (judgedValid_judged s r x k).hard_other (by decide),
      (judgedJump_judged s r x k).hard_other (by decide), (judgedPilot_judged s r x k).hard_other (by decide)]
  have hjudged : ((s.judgedValid r x k).monitor r).hard = ((s.validSlot r x k).monitor r).hard := by
    rw [validSlot_eq, finish_hard]
  have hhigh (h : (s.monitor r).limits.corrupt ≤ ((s.validSlot r x k).monitor r).bucket) :
      ((s.validSlot r x k).monitor r).hard.get .corrupt = true := by
    rw [hend]
    exact bucketSlot_corrupt_of_high (hbefore.on hon) (by rwa [hnext, hlimits.1])
  have hnewly (h : (s.monitor r).limits.corrupt ≤ ((s.validSlot r x k).monitor r).bucket)
      (hnew : (s.monitor r).hard.get .corrupt = false) :=
    bucketSlot_newly (s := s.judgedGap r x k) (valid := true) (hbefore.on hon) (by rwa [hkept]) (by rwa [hnext, hlimits.1])
  exact {
    high := hhigh
    newly := fun h hnew => by
      have hhit : Hit (s.monitor r) ((s.judgedValid r x k).monitor r) := .of_struck hbefore (hnewly h hnew).1 hafter
      rwa [validSlot_of_hit hhit.state (hjudged ▸ hhigh h)]
    taken := fun h hnew => by
      rw [validSlot_eq, finish_fault]
      exact fault_of_strike hbefore.grows (hnewly h hnew).2 hafter.grows
    low := fun h hlow => by
      rw [hend]
      exact bucketSlot_corrupt_of_low (by rwa [hnext, hlimits.1]) (by rwa [hnext, hlimits.1])
    mid := fun h hmid => by
      rw [hend, ← hkept]
      exact bucketSlot_corrupt_of_mid (by rwa [hnext, hlimits.1]) (by rwa [hnext, hlimits.1])
    cleared := fun hfailed hhard hclear => by
      have hstate := ((judged_advance s r x k).failed hfailed).1
      have hlim : ((s.judgedValid r x k).monitor r).limits = (s.monitor r).limits := by
        simp [judgedValid, judgedJump, judgedPilot, judgedBucket, hlimits]
      rw [← hjudged] at hclear
      rw [validSlot_eq, finish_of_failed hstate, hhard, ← hlim]
      exact ⟨(startRecovery_state _ _ _).trans hstate, startRecovery_of_cleared hstate hclear⟩ }

theorem discardSlot_corruptEnd (hon : (s.monitor r).state ≠ .offline) (d : Discard) (k : Word) :
    CorruptEnd s r (s.monitor r) ((s.discardSlot r d k).monitor r) (s.discardSlot r d k).fault := by
  have hbefore : Advance r s (s.discardGap r d k) := (discardGap_judged s r d k).advance
  have hlimits : ((s.discardGap r d k).monitor r).limits = (s.monitor r).limits
      ∧ ((s.discardGap r d k).monitor r).bucket = (s.monitor r).bucket := by
    simp [discardGap]
  have hnext : bucketNext ((s.discardGap r d k).monitor r).bucket false = ((s.discardSlot r d k).monitor r).bucket := by
    rw [(discardSlot_bucket s r d k).1, hlimits.2]
    rfl
  have hkept : ((s.discardGap r d k).monitor r).hard.get .corrupt = (s.monitor r).hard.get .corrupt :=
    (discardGap_judged s r d k).hard_other (by decide)
  have hjudged : ((s.discardBucket r d k).monitor r).hard = ((s.discardSlot r d k).monitor r).hard := by
    rw [discardSlot_eq, finishDiscard_hard]
  have hhigh (h : (s.monitor r).limits.corrupt ≤ ((s.discardSlot r d k).monitor r).bucket) :
      ((s.discardSlot r d k).monitor r).hard.get .corrupt = true := by
    rw [← hjudged]
    exact bucketSlot_corrupt_of_high (hbefore.on hon) (by rwa [hnext, hlimits.1])
  have hnewly (h : (s.monitor r).limits.corrupt ≤ ((s.discardSlot r d k).monitor r).bucket)
      (hnew : (s.monitor r).hard.get .corrupt = false) :=
    bucketSlot_newly (s := s.discardGap r d k) (valid := false) (hbefore.on hon) (by rwa [hkept]) (by rwa [hnext, hlimits.1])
  exact {
    high := hhigh
    newly := fun h hnew => by
      have hhit : Hit (s.monitor r) ((s.discardBucket r d k).monitor r) := .of_struck hbefore (hnewly h hnew).1 (.refl _ _)
      rwa [discardSlot_of_hit hhit.state (hjudged ▸ hhigh h)]
    taken := fun h hnew => by
      rw [discardSlot_eq, finishDiscard_fault]
      exact fault_of_strike hbefore.grows (hnewly h hnew).2 (.refl _)
    low := fun h hlow => by
      rw [← hjudged]
      exact bucketSlot_corrupt_of_low (by rwa [hnext, hlimits.1]) (by rwa [hnext, hlimits.1])
    mid := fun h hmid => by
      rw [← hjudged, ← hkept]
      exact bucketSlot_corrupt_of_mid (by rwa [hnext, hlimits.1]) (by rwa [hnext, hlimits.1])
    cleared := fun hfailed hhard hclear => by
      have hstate := ((hbefore.trans (discardBucket_judged s r d k).advance).failed hfailed).1
      have hlim : ((s.discardBucket r d k).monitor r).limits = (s.monitor r).limits := by
        simp [discardBucket, hlimits]
      rw [← hjudged] at hclear
      rw [discardSlot_eq, finishDiscard_of_failed hstate, hhard, ← hlim]
      exact ⟨(startRecovery_state _ _ _).trans hstate, startRecovery_of_cleared hstate hclear⟩ }

/-- Short of the gap limit a discarded frame raises no RIG STALL. -/
theorem gapSlot_fault_of_short (h : (s.monitor r).gap + 1 < (s.monitor r).limits.gap) : (s.gapSlot r false).fault = s.fault := by
  have hshort : ¬(s.monitor r).limits.gap ≤ min 400 ((s.monitor r).gap + 1) := by omega
  simp [gapSlot, hshort]

theorem discardSlot_fault_of_newly (hon : (s.monitor r).state ≠ .offline) (hgap : (s.monitor r).gap + 1 < (s.monitor r).limits.gap)
    (hnew : (s.monitor r).hard.get .corrupt = false) {d : Discard} {k : Word}
    (h : (s.monitor r).limits.corrupt ≤ ((s.discardSlot r d k).monitor r).bucket) :
    (s.discardSlot r d k).fault = captured s .rigCorrupt r.origin (.bucket ((s.discardSlot r d k).monitor r).bucket) := by
  have hcapture : ((s.captureDiscard r d k).monitor r).gap = (s.monitor r).gap
      ∧ ((s.captureDiscard r d k).monitor r).limits = (s.monitor r).limits := by simp
  have hstamp : SameStamp s (s.discardGap r d k) := by
    refine ⟨?_, by simp [discardGap], by simp [discardGap]⟩
    rw [discardGap, gapSlot_fault_of_short (by rwa [hcapture.1, hcapture.2])]
    simp
  have hlimits : ((s.discardGap r d k).monitor r).limits = (s.monitor r).limits
      ∧ ((s.discardGap r d k).monitor r).bucket = (s.monitor r).bucket := by
    simp [discardGap]
  have hnext : bucketNext ((s.discardGap r d k).monitor r).bucket false = ((s.discardSlot r d k).monitor r).bucket := by
    rw [(discardSlot_bucket s r d k).1, hlimits.2]
    rfl
  have hkept := (discardGap_judged s r d k).hard_other (j := .corrupt) (by decide)
  have hfault := (bucketSlot_newly (s := s.discardGap r d k) (valid := false) ((discardGap_judged s r d k).on hon) (by rwa [hkept])
    (by rwa [hnext, hlimits.1])).2
  rw [captured_congr hstamp, hnext] at hfault
  rw [discardSlot_eq, finishDiscard_fault]
  exact hfault

/-- Settles O14: the bucket's monitor is judged by its own limits, and the others leave it, WARN, CORRUPT and the capture alone. -/
theorem bucketAndCaptureTakeTheSlot : Obligations.BucketAndCaptureTakeTheSlot := by
  intro s r slot hup m k
  refine ⟨_, exec_mainFrame_of_up hup slot, ?_⟩
  cases hslot : checkMain slot with
  | valid x =>
    let u := s.slotTaken r (.valid x)
    obtain ⟨hhealth, hfault⟩ := upSlot_valid s r x
    obtain ⟨hbucket, hwarn⟩ := validSlot_bucket u r x k
    rw [hhealth, hfault]
    refine ⟨by rw [hwarn, hbucket]; rfl, ?_, hbucket, validSlot_capture u r x k⟩
    intro hon b
    have hend := validSlot_corruptEnd (s := u) (r := r) hon x k
    refine ⟨fun h => ⟨hend.high h, fun hnew => ?_⟩, hend.low, hend.mid, hend.cleared⟩
    have hhit := hend.newly h hnew
    obtain ⟨hlocked, hempty⟩ := hend.taken h hnew
    exact ⟨hhit.state, hhit.qual, hhit.timers, hlocked, hempty, fun d hd => by simp at hd⟩
  | discarded d =>
    let u := s.slotTaken r (.discarded d)
    obtain ⟨hbucket, hwarn⟩ := discardSlot_bucket u r d k
    rw [upSlot_discarded]
    refine ⟨by rw [State.health_get, hwarn, hbucket]; rfl, ?_, hbucket, discardSlot_capture u r d k⟩
    intro hon b
    have hend := discardSlot_corruptEnd (s := u) (r := r) hon d k
    refine ⟨fun h => ⟨hend.high h, fun hnew => ?_⟩, hend.low, hend.mid, hend.cleared⟩
    have hhit := hend.newly h hnew
    obtain ⟨hlocked, hempty⟩ := hend.taken h hnew
    exact ⟨hhit.state, hhit.qual, hhit.timers, hlocked, hempty, fun _ _ hgap => discardSlot_fault_of_newly (s := u) hon hgap hnew h⟩

end Sys2Proof.Machine
end

section
/-! PROOFS, family other. STALL, PILOT LOST and JUMP (R28, R31, R34 to R36) and the ends of a rig's timers (R26, R27, R29, R36). -/

namespace Sys2Proof.Machine

variable {s t u : State} {r : Rig}

open State

/-! ## The rows of STALL and PILOT LOST -/

theorem isUp_iff (s : State) (p : Port) : s.isUp p = true ↔ (s.links.get p).state = .up := beq_iff_eq

theorem execStall_at_limit (hup : (s.links.get r.port).state = .up) (hclear : (s.monitor r).hard.stall = false)
    (hgap : (s.monitor r).gap + 1 = (s.monitor r).limits.gap) : execStall r s = .next (s.stallNow r) :=
  congrArg Host.Outcome.next (if_pos (by simp [stallAtHand, isUp_iff, hup, hclear, hgap]))

theorem execPilotLost_at_limit (hup : (s.links.get r.port).state = .up) (hclear : (s.monitor r).hard.pilotLost = false)
    (hchannel : (s.monitor r).limits.pilotChannel.isSome = true) (hcount : (s.monitor r).pilotCount + 1 = (s.monitor r).limits.pilotHold) :
    execPilotLost r s = .next (s.pilotNow r) :=
  congrArg Host.Outcome.next (if_pos (by simp [pilotAtHand, isUp_iff, hup, hclear, hchannel, hcount]))

/-- R28 for a rig that is neither OFFLINE nor FAILED, from a record that `s` has been given for the row. -/
theorem setHard_prepared {v : HealthRec} {c : HardCond} (hgrade : SameGrade (s.monitor r) v) (hhard : v.hard = (s.monitor r).hard)
    (hon : (s.monitor r).state ≠ .offline) (hfit : (s.monitor r).state ≠ .failed) (hnew : (s.monitor r).hard.get c = false)
    (d : FaultDetail) :
    let t := (s.setRigHealth r v).setHard r c d
    (t.monitor r).hard = (s.monitor r).hard.set c true ∧ (t.monitor r).state = .failed ∧ (t.monitor r).qual = 0
      ∧ t.fault = captured s c.fault r.origin d := by
  intro t
  have hv : (s.setRigHealth r v).monitor r = v := setRigHealth_monitor _ _ _
  have hon' : ((s.setRigHealth r v).monitor r).state ≠ .offline := by rwa [hv, hgrade.state]
  have hnew' : ((s.setRigHealth r v).monitor r).hard.get c = false := by rwa [hv, hhard]
  obtain ⟨hset, hstruck⟩ := setHard_monitor hon' hnew' d
  refine ⟨by rw [hset, hv, hhard], hstruck.state, ?_, ?_⟩
  · rw [hstruck.qual, hv, hgrade.state, if_neg hfit]
  · exact (setHard_fault hon' hnew' d).trans (captured_congr ⟨rfl, rfl, rfl⟩ _ _ _)

/-- R31, R32: the rig's record as STALL finds it, with the repeat flag where the fault record is locked on the rig's RIG STALL. -/
def stalledRecord (s : State) (r : Rig) : HealthRec :=
  { s.monitor r with
    gap := max (s.monitor r).gap (s.monitor r).limits.gap
    repeatStall := if s.lockedOnStall r then true else (s.monitor r).repeatStall }

theorem stallNow_of_clear (h : (s.monitor r).hard.stall = false) :
    s.stallNow r = (s.setRigHealth r (stalledRecord s r)).setHard r .stall (.lastSequence (s.monitor r).lastSeq) := by
  simp only [stallNow, stallReached, setRigHealth_monitor, h, Bool.false_eq_true, if_false]
  have hlocked (v : HealthRec) : (s.setRigHealth r v).lockedOnStall r = s.lockedOnStall r := rfl
  rw [hlocked, stalledRecord]
  cases s.lockedOnStall r with
  | false => rfl
  | true =>
    have hset (v w : HealthRec) : (s.setRigHealth r v).setRigHealth r w = s.setRigHealth r w := by cases r <;> rfl
    simp only [if_true, hset]

theorem pilotNow_eq (s : State) (r : Rig) :
    s.pilotNow r
      = (s.setRigHealth r (withPilot (s.monitor r) (max (s.monitor r).pilotCount (s.monitor r).limits.pilotHold) (s.monitor r).pilotPeak)).setHard
          r .pilotLost (.magnitude (s.monitor r).pilotPeak) := by
  rw [pilotNow, pilotReached, setRigHealth_monitor]
  rfl

/-- What setting a condition on a prepared record may write. -/
theorem setHard_prepared_frame (s : State) (r : Rig) (v : HealthRec) (c : HardCond) (d : FaultDetail) :
    let t := (s.setRigHealth r v).setHard r c d
    t.health.get r.other = s.health.get r.other
      ∧ t = { s with health := t.health, fault := t.fault, ctl := { s.ctl with stamps := t.ctl.stamps } } := by
  refine ⟨?_, ?_⟩
  · exact (setHard_other r.other r c d (Rig.other_ne r)).trans (setRigHealth_monitor_other _ _ _ _ (Rig.other_ne r))
  · ext1 <;> try simp
    ext1 <;> simp

/-! ## JUMP (R35, R36) -/

theorem Oct.any_iff {α : Type} (f : α → Bool) (o : Oct α) : o.any f = true ↔ ∃ g, f (o.get g) = true := by
  simp [Oct.any, Oct.get, Fin.exists_fin_succ, or_assoc]

theorem usedBy_iff (s : State) (r : Rig) :
    s.usedBy r = true ↔ ∃ g, match (s.ctl.groups.get g).st with
      | .settled src => src = r.source
      | .fading origin dest _ _ _ => origin = r.source ∨ dest = r.source := by
  rw [State.usedBy, Oct.any_iff]
  refine exists_congr fun g => ?_
  cases h : (s.ctl.groups.get g).st <;> simp [GroupState.uses]

theorem continues_iff (y : ContRef) (p : ShowPos) (k : Word) :
    continues y p k = true ↔ p.cue ≠ 0
      ∧ (p.cue = y.pos.cue ∧ p.pos = y.pos.pos + (k - y.arrival) ∨ p.cue ≠ y.pos.cue ∧ p.pos.toNat ≤ 3) := by
  simp [continues]

/-- The fields R35 and R36 keep of a rig, apart from the conditions. -/
def Continuity (m : HealthRec) : Option ContRef × Option Nat × Bool := (m.ref, m.softJump, m.hard.jump)

theorem continuitySlot_idle {x : InFrame} (h : x.kind = .idle) (s : State) (r : Rig) (k : Word) :
    Continuity ((s.continuitySlot r x k).monitor r)
      = if x.stopped then (none, (s.monitor r).softJump, false) else Continuity (s.monitor r) := by
  simp only [continuitySlot, h]
  repeat' split
  · simp [Continuity, clearHard, HardSet.set]
  · rfl

theorem continuitySlot_first {x : InFrame} (h : x.kind = .audio) (href : (s.monitor r).ref = none) (k : Word) :
    Continuity ((s.continuitySlot r x k).monitor r)
      = (some { pos := x.pos, arrival := k }, (s.monitor r).softJump, (s.monitor r).hard.jump) := by
  simp [continuitySlot, h, href, Continuity]

theorem continuitySlot_goesOn {x : InFrame} {y : ContRef} {k : Word} (h : x.kind = .audio) (href : (s.monitor r).ref = some y)
    (hon : continues y x.pos k = true) :
    Continuity ((s.continuitySlot r x k).monitor r) = (some { pos := x.pos, arrival := k }, (s.monitor r).softJump, false) := by
  simp [continuitySlot, h, href, hon, Continuity, clearHard, HardSet.set]

/-- A break of continuity: what follows is R36's, on the new reference. -/
theorem continuitySlot_breaks {x : InFrame} {y : ContRef} {k : Word} (h : x.kind = .audio) (href : (s.monitor r).ref = some y)
    (hon : continues y x.pos k = false) :
    s.continuitySlot r x k = (s.setRigHealth r (withRef (s.monitor r) (some { pos := x.pos, arrival := k }))).jumped r x.pos := by
  simp [continuitySlot, h, href, hon, withRef]

theorem jumped_of_used (h : s.usedBy r = true) (p : ShowPos) : s.jumped r p = s.setHard r .jump (.carried p) := if_pos h

theorem jumped_of_unused (h : s.usedBy r = false) (p : ShowPos) :
    s.jumped r p = s.setRigHealth r { s.monitor r with softJump := some Config.softJump } := if_neg (by simp [h])

/-! ## The slot around R35's monitor -/

theorem judgedPilot_continuity (s : State) (r : Rig) (x : InFrame) (k : Word) :
    Continuity ((s.judgedPilot r x k).monitor r) = Continuity (s.monitor r) := by
  have hjump : ((s.judgedPilot r x k).monitor r).hard.get .jump = (s.monitor r).hard.get .jump := by
    rw [(judgedPilot_judged s r x k).hard_other (by decide), (judgedBucket_judged s r x k).hard_other (by decide),
      (judgedGap_judged s r x k).hard_other (by decide), (judgedDeclared_judged s r x k).hard_other (by decide)]
  simp only [Continuity, Prod.mk.injEq]
  refine ⟨?_, ?_, hjump⟩ <;> simp [judgedPilot, judgedBucket, judgedGap, judgedDeclared, heard]

theorem validSlot_continuity (s : State) (r : Rig) (x : InFrame) (k : Word) :
    Continuity ((s.validSlot r x k).monitor r) = Continuity ((s.judgedJump r x k).monitor r) := by
  have hjump : ((s.validSlot r x k).monitor r).hard.get .jump = ((s.judgedJump r x k).monitor r).hard.get .jump := by
    rw [validSlot_eq, finish_hard, (judgedValid_judged s r x k).hard_other (by decide)]
  simp only [Continuity, Prod.mk.injEq]
  refine ⟨?_, ?_, hjump⟩ <;> simp [validSlot_eq, finish, judgedValid]

theorem discardSlot_continuity (s : State) (r : Rig) (d : Discard) (k : Word) :
    Continuity ((s.discardSlot r d k).monitor r) = Continuity (s.monitor r) := by
  have hjump : ((s.discardSlot r d k).monitor r).hard.get .jump = (s.monitor r).hard.get .jump := by
    rw [discardSlot_eq, finishDiscard_hard, (discardBucket_judged s r d k).hard_other (by decide),
      (discardGap_judged s r d k).hard_other (by decide)]
  simp only [Continuity, Prod.mk.injEq]
  refine ⟨?_, ?_, hjump⟩ <;> simp only [discardSlot_eq, finishDiscard] <;> split <;> simp [discardBucket, discardGap]

theorem judgedPilot_advance (s : State) (r : Rig) (x : InFrame) (k : Word) : Advance r s (s.judgedPilot r x k) :=
  (judgedDeclared_judged s r x k).advance.trans <| (judgedGap_judged s r x k).advance.trans <|
    (judgedBucket_judged s r x k).advance.trans (judgedPilot_judged s r x k).advance

theorem judgedPilot_usedBy (s : State) (r : Rig) (x : InFrame) (k : Word) : (s.judgedPilot r x k).usedBy r = s.usedBy r := by
  simp [State.usedBy, judgedPilot, judgedBucket, judgedGap, judgedDeclared, heard]

theorem bucketSlot_fault_of_low {valid : Bool} (h : bucketNext (s.monitor r).bucket valid < (s.monitor r).limits.corrupt) :
    (s.bucketSlot r valid).fault = s.fault := by
  rw [bucketSlot_eq]
  dsimp only
  rw [if_neg (Nat.not_le.mpr h)]
  (repeat' split) <;> simp

/-- With no pilot channel, no flag up and the bucket below the corrupt level an AUDIO frame raises nothing before R35's monitor. -/
theorem judgedPilot_stamp {x : InFrame} (h : x.kind = .audio) (hflag : x.declared = false)
    (hpilot : (s.monitor r).limits.pilotChannel = none) (hbucket : (s.monitor r).bucket - 1 < (s.monitor r).limits.corrupt) (k : Word) :
    SameStamp s (s.judgedPilot r x k) := by
  have hlive : liveFrame (s.monitor r) x = true := by simp [liveFrame, h]
  have hlimits : ((s.judgedGap r x k).monitor r).limits = (s.monitor r).limits
      ∧ ((s.judgedGap r x k).monitor r).bucket = (s.monitor r).bucket := by
    simp [judgedGap, judgedDeclared, heard]
  have hdeclared : (s.judgedDeclared r x k).fault = s.fault := by simp [judgedDeclared, declaredSlot, hflag, heard]
  have hgap : (s.judgedGap r x k).fault = s.fault := by simp [judgedGap, gapSlot, hlive, hdeclared]
  have hjudged : (s.judgedBucket r x k).fault = s.fault := by
    rw [judgedBucket, bucketSlot_fault_of_low (by rwa [hlimits.1, hlimits.2]), hgap]
  have hchannel : ((s.judgedBucket r x k).monitor r).limits.pilotChannel = none := by simp [judgedBucket, hlimits, hpilot]
  refine ⟨?_, ?_, ?_⟩
  · simp [judgedPilot, pilotSlot, hchannel, hjudged]
  · simp [judgedPilot, judgedBucket, judgedGap, judgedDeclared, heard]
  · simp [judgedPilot, judgedBucket, judgedGap, judgedDeclared, heard]

/-- A hard JUMP: R28's effects at the end of the slot, and what is raised. -/
structure JumpEnd (s : State) (r : Rig) (x : InFrame) (m n : HealthRec) (f : FaultRecord) : Prop where
  hit : Hit m n
  locked : s.fault.first ≠ none → f.first = s.fault.first ∧ .rigJump ∈ f.later
  empty : s.fault.first = none → (∃ y, f.first = some y ∧ y.kind = .rigJump) ∨ .rigJump ∈ f.later
  alone : x.declared = false → m.limits.pilotChannel = none → m.bucket - 1 < m.limits.corrupt →
    f = captured s .rigJump r.origin (.carried x.pos)

theorem validSlot_hardJump {x : InFrame} {y : ContRef} {k : Word} (hon : (s.monitor r).state ≠ .offline) (h : x.kind = .audio)
    (href : (s.monitor r).ref = some y) (hbreak : continues y x.pos k = false) (hused : s.usedBy r = true) :
    Continuity ((s.validSlot r x k).monitor r) = (some { pos := x.pos, arrival := k }, (s.monitor r).softJump, true)
      ∧ ((s.monitor r).hard.jump = false → JumpEnd s r x (s.monitor r) ((s.validSlot r x k).monitor r) (s.validSlot r x k).fault) := by
  have hbefore := judgedPilot_advance s r x k
  have hprior := judgedPilot_continuity s r x k
  simp only [Continuity, Prod.mk.injEq] at hprior
  obtain ⟨hpref, hpsoft, hpjump⟩ := hprior
  let v := withRef ((s.judgedPilot r x k).monitor r) (some { pos := x.pos, arrival := k })
  let p := (s.judgedPilot r x k).setRigHealth r v
  have hp : p.monitor r = v := setRigHealth_monitor _ _ _
  have hpon : (p.monitor r).state ≠ .offline := by
    rw [hp]
    exact hbefore.on hon
  have hset : s.judgedJump r x k = p.setHard r .jump (.carried x.pos) := by
    rw [judgedJump, continuitySlot_breaks h (hpref.trans href) hbreak, jumped_of_used]
    exact (judgedPilot_usedBy s r x k).trans hused
  have hjudged : ((s.judgedJump r x k).monitor r).hard.get .jump = true := hset ▸ setHard_get hpon .jump _
  refine ⟨?_, fun hnew => ?_⟩
  · have hrest : ((s.judgedJump r x k).monitor r).ref = v.ref ∧ ((s.judgedJump r x k).monitor r).softJump = v.softJump := by
      simp [hset, hp]
    rw [validSlot_continuity]
    simp only [Continuity, Prod.mk.injEq]
    exact ⟨hrest.1, hrest.2.trans hpsoft, hjudged⟩
  · have hpnew : (p.monitor r).hard.get .jump = false := by
      rw [hp]
      exact hpjump.trans hnew
    obtain ⟨-, hstruck⟩ := setHard_monitor hpon hpnew (.carried x.pos)
    have hfault := setHard_fault hpon hpnew (.carried x.pos)
    rw [← hset, hp] at hstruck
    rw [← hset, captured_congr (s := s.judgedPilot r x k) (u := p) ⟨rfl, rfl, rfl⟩] at hfault
    have hstruck' : Struck ((s.judgedPilot r x k).monitor r) ((s.judgedJump r x k).monitor r) :=
      ⟨hstruck.state, hstruck.qual, hstruck.recovery, hstruck.ready⟩
    have hafter := (judgedValid_judged s r x k).advance
    have hhit := Hit.of_struck hbefore hstruck' hafter
    have hjump : ((s.judgedValid r x k).monitor r).hard.get .jump = true := by
      rw [(judgedValid_judged s r x k).hard_other (by decide), hjudged]
    rw [validSlot_of_hit hhit.state hjump]
    obtain ⟨hlocked, hempty⟩ := fault_of_strike hbefore.grows hfault hafter.grows
    refine ⟨hhit, hlocked, hempty, fun hflag hpilot hbucket => ?_⟩
    rw [captured_congr (judgedPilot_stamp h hflag hpilot hbucket k)] at hfault
    rw [← show (HardCond.fault .jump) = .rigJump from rfl, ← hfault]
    simp [judgedValid]

/-- With no condition standing after the monitors none of them has set one, so the rig has the grade it began with. -/
theorem judged_grade_of_empty {x : InFrame} {k : Word} (h : ((s.judgedValid r x k).monitor r).hard.isEmpty = true) :
    SameGrade (s.monitor r) ((s.judgedValid r x k).monitor r) := by
  have hvalid := judgedValid_judged s r x k
  have hjump := judgedJump_judged s r x k
  have hpilot := judgedPilot_judged s r x k
  have hbucket := judgedBucket_judged s r x k
  have hgap := judgedGap_judged s r x k
  have hclear := HardSet.get_eq_false_of_isEmpty h
  have h5 (c : HardCond) (hc : c ≠ .noStart) : ((s.judgedJump r x k).monitor r).hard.get c = false :=
    (hvalid.hard_other hc).symm.trans (hclear c)
  have h4 (c : HardCond) (hc : c ≠ .noStart) (hj : c ≠ .jump) : ((s.judgedPilot r x k).monitor r).hard.get c = false :=
    (hjump.hard_other hj).symm.trans (h5 c hc)
  have h3 (c : HardCond) (hc : c ≠ .noStart) (hj : c ≠ .jump) (hp : c ≠ .pilotLost) :
      ((s.judgedBucket r x k).monitor r).hard.get c = false := (hpilot.hard_other hp).symm.trans (h4 c hc hj)
  have h2 : ((s.judgedGap r x k).monitor r).hard.get .stall = false :=
    (hbucket.hard_other (by decide)).symm.trans (h3 _ (by decide) (by decide) (by decide))
  have h1 : ((s.judgedDeclared r x k).monitor r).hard.get .declared = false :=
    (hgap.hard_other (by decide)).symm.trans ((hbucket.hard_other (by decide)).symm.trans (h3 _ (by decide) (by decide) (by decide)))
  have h0 := (judgedDeclared_judged s r x k).grade_of_clear h1
  exact h0.trans <| (hgap.grade_of_clear h2).trans <|
    (hbucket.grade_of_clear (h3 _ (by decide) (by decide) (by decide))).trans <|
    (hpilot.grade_of_clear (h4 _ (by decide) (by decide))).trans <| (hjump.grade_of_clear (h5 _ (by decide))).trans <|
    hvalid.grade_of_clear (hclear _)

/-- R27: a rig of a soft JUMP that no condition holds of is SUSPECT. -/
theorem finish_of_soft {before inRun : Bool} {k : FrameKind} (hgraded : (s.monitor r).graded = true)
    (hplaying : (s.monitor r).playing = true) (hsoft : (s.monitor r).soft = true) :
    ((s.finish r before k inRun).monitor r).state = .suspect := by
  have hfit : (s.monitor r).state ≠ .failed := by
    intro h
    simp [HealthRec.graded, h] at hgraded
  have hstart : s.startRecovery r before = s := if_neg fun h => hfit h.1
  have hregrade : ((s.regrade r k).monitor r).state = .suspect := by
    simp only [regrade, hgraded, hplaying, hsoft, Bool.true_eq_false, if_false, if_true]
    exact healthChange_state _ _ _ _
  rw [finish, hstart, qualifySlot_of_not_qualifying (by simp [hregrade]), hregrade]

theorem validSlot_softJump {x : InFrame} {y : ContRef} {k : Word} (h : x.kind = .audio) (href : (s.monitor r).ref = some y)
    (hbreak : continues y x.pos k = false) (hused : s.usedBy r = false) :
    Continuity ((s.validSlot r x k).monitor r)
        = (some { pos := x.pos, arrival := k }, some 4000, (s.monitor r).hard.jump)
      ∧ (((s.validSlot r x k).monitor r).hard.isEmpty = true →
          (s.monitor r).state = .stopped ∨ (s.monitor r).state = .healthy ∨ (s.monitor r).state = .suspect →
          ((s.validSlot r x k).monitor r).state = .suspect) := by
  have hprior := judgedPilot_continuity s r x k
  simp only [Continuity, Prod.mk.injEq] at hprior
  obtain ⟨hpref, hpsoft, hpjump⟩ := hprior
  let p := (s.judgedPilot r x k).setRigHealth r (withRef ((s.judgedPilot r x k).monitor r) (some { pos := x.pos, arrival := k }))
  have hset : s.judgedJump r x k = p.setRigHealth r { p.monitor r with softJump := some Config.softJump } := by
    rw [judgedJump, continuitySlot_breaks h (hpref.trans href) hbreak, jumped_of_unused]
    exact (judgedPilot_usedBy s r x k).trans hused
  have hcontinuity : Continuity ((s.judgedJump r x k).monitor r)
      = (some { pos := x.pos, arrival := k }, some 4000, (s.monitor r).hard.jump) := by
    rw [hset]
    simp [Continuity, p, withRef, hpjump, Config.softJump]
  refine ⟨(validSlot_continuity s r x k).trans hcontinuity, fun hempty hgraded => ?_⟩
  rw [validSlot_eq, finish_hard] at hempty
  have hgrade := judged_grade_of_empty hempty
  have hsoft : ((s.judgedValid r x k).monitor r).softJump = some 4000 := by
    simp only [Continuity, Prod.mk.injEq] at hcontinuity
    simp [judgedValid, hcontinuity]
  have hplaying : ((s.judgedValid r x k).monitor r).playing = true := by
    simp [judgedValid, judgedJump, judgedPilot, judgedBucket, judgedGap, judgedDeclared, heard, playingAfter, h]
  rw [validSlot_eq]
  refine finish_of_soft ?_ hplaying (by simp [HealthRec.soft, hsoft])
  obtain hm | hm | hm := hgraded <;> simp [HealthRec.graded, hgrade.state, hm]

/-! ## R35's columns at the end of a slot -/

theorem validSlot_idle {x : InFrame} (h : x.kind = .idle) (k : Word) :
    Continuity ((s.validSlot r x k).monitor r)
      = if x.stopped then (none, (s.monitor r).softJump, false) else Continuity (s.monitor r) := by
  have hsoft : ((s.judgedPilot r x k).monitor r).softJump = (s.monitor r).softJump :=
    congrArg (fun c => c.2.1) (judgedPilot_continuity s r x k)
  rw [validSlot_continuity, judgedJump, continuitySlot_idle h, hsoft, judgedPilot_continuity]

theorem validSlot_first {x : InFrame} (h : x.kind = .audio) (href : (s.monitor r).ref = none) (k : Word) :
    Continuity ((s.validSlot r x k).monitor r)
      = (some { pos := x.pos, arrival := k }, (s.monitor r).softJump, (s.monitor r).hard.jump) := by
  have hprior := judgedPilot_continuity s r x k
  simp only [Continuity, Prod.mk.injEq] at hprior
  obtain ⟨hpref, hpsoft, hpjump⟩ := hprior
  rw [validSlot_continuity, judgedJump, continuitySlot_first h (hpref.trans href), hpsoft, hpjump]

theorem validSlot_goesOn {x : InFrame} {y : ContRef} {k : Word} (h : x.kind = .audio) (href : (s.monitor r).ref = some y)
    (hon : continues y x.pos k = true) :
    Continuity ((s.validSlot r x k).monitor r) = (some { pos := x.pos, arrival := k }, (s.monitor r).softJump, false) := by
  have hprior := judgedPilot_continuity s r x k
  simp only [Continuity, Prod.mk.injEq] at hprior
  obtain ⟨hpref, hpsoft, -⟩ := hprior
  rw [validSlot_continuity, judgedJump, continuitySlot_goesOn h (hpref.trans href) hon, hpsoft]

theorem continuitySlot_ref {x : InFrame} (h : x.kind = .audio) (s : State) (r : Rig) (k : Word) :
    ((s.continuitySlot r x k).monitor r).ref = some { pos := x.pos, arrival := k } := by
  simp only [continuitySlot, h]
  split
  · simp
  · split <;> simp

theorem validSlot_ref {x : InFrame} (h : x.kind = .audio) (k : Word) :
    ((s.validSlot r x k).monitor r).ref = some { pos := x.pos, arrival := k } :=
  (congrArg Prod.fst (validSlot_continuity s r x k)).trans (continuitySlot_ref h _ r k)

/-- Settles O15: the two rows prepare the rig's count and set their condition; R35's monitor alone writes the reference and JUMP. -/
theorem hardConditionFailsTheRig : Obligations.HardConditionFailsTheRig := by
  refine ⟨fun s r hup hon hfit => ?_, fun s r slot hup hon => ?_⟩
  · intro m
    refine ⟨fun hclear hgap => ?_, fun hclear hchannel hcount => ?_⟩
    · have hexec : exec (.stall r) s = .next (s.stallNow r) := execStall_at_limit hup hclear hgap
      rw [stallNow_of_clear hclear] at hexec
      obtain ⟨hhard, hstate, hqual, hfault⟩ :=
        setHard_prepared (s := s) (v := stalledRecord s r) (c := .stall) ⟨rfl, rfl, rfl, rfl⟩ rfl hon hfit hclear (.lastSequence m.lastSeq)
      obtain ⟨hother, hframe⟩ := setHard_prepared_frame s r (stalledRecord s r) .stall (.lastSequence m.lastSeq)
      refine ⟨_, hexec, hhard, hstate, hqual, ?_, hother, hfault, hframe⟩
      have hmax : max (s.monitor r).gap (s.monitor r).limits.gap = (s.monitor r).limits.gap := by
        have : (s.monitor r).gap + 1 = (s.monitor r).limits.gap := hgap
        omega
      simp only [health_get, setHard_rest, setRigHealth_monitor, stalledRecord]
      exact hmax
    · have hexec : exec (.pilotLost r) s = .next (s.pilotNow r) := execPilotLost_at_limit hup hclear hchannel hcount
      rw [pilotNow_eq] at hexec
      let v := withPilot (s.monitor r) (max (s.monitor r).pilotCount (s.monitor r).limits.pilotHold) (s.monitor r).pilotPeak
      obtain ⟨hhard, hstate, hqual, hfault⟩ :=
        setHard_prepared (s := s) (v := v) (c := .pilotLost) ⟨rfl, rfl, rfl, rfl⟩ rfl hon hfit hclear (.magnitude m.pilotPeak)
      obtain ⟨hother, hframe⟩ := setHard_prepared_frame s r v .pilotLost (.magnitude m.pilotPeak)
      refine ⟨_, hexec, hhard, hstate, hqual, ?_, hother, hfault, hframe⟩
      have hmax : max (s.monitor r).pilotCount (s.monitor r).limits.pilotHold = (s.monitor r).limits.pilotHold := by
        have : (s.monitor r).pilotCount + 1 = (s.monitor r).limits.pilotHold := hcount
        omega
      simp only [health_get, setHard_rest, setRigHealth_monitor, withPilot]
      exact hmax
  · intro m k used
    refine ⟨_, exec_mainFrame_of_up hup slot, fun d hd => ?_, fun x hx => ?_⟩
    · have h := discardSlot_continuity (s.slotTaken r (.discarded d)) r d k
      simp only [Continuity, Prod.mk.injEq] at h
      rw [hd, upSlot_discarded]
      exact ⟨h.1, h.2.2, h.2.1⟩
    · let u := s.slotTaken r (.valid x)
      have hused : used ↔ u.usedBy r = true := (usedBy_iff s r).symm
      obtain ⟨hhealth, hfault⟩ := upSlot_valid s r x
      rw [hx, hhealth, hfault]
      refine ⟨fun hkind hstop => ?_, fun hkind hstop => ?_, fun hkind => ?_, fun hkind href => ?_, fun y hkind href => ?_⟩
      · have h := validSlot_idle (s := u) (r := r) hkind k
        simp only [hstop, if_true, Continuity, Prod.mk.injEq] at h
        exact ⟨h.1, h.2.2, h.2.1⟩
      · have h := validSlot_idle (s := u) (r := r) hkind k
        simp only [hstop, Bool.false_eq_true, if_false, Continuity, Prod.mk.injEq] at h
        exact ⟨h.1, h.2.2, h.2.1⟩
      · exact validSlot_ref (s := u) hkind k
      · have h := validSlot_first (s := u) hkind href k
        simp only [Continuity, Prod.mk.injEq] at h
        exact ⟨h.2.2, h.2.1⟩
      · intro goesOn
        have hgoes : goesOn ↔ continues y x.pos k = true := (continues_iff y x.pos k).symm
        refine ⟨fun hyes => ?_, fun hno huse => ?_, fun hno huse => ?_⟩
        · have h := validSlot_goesOn (s := u) hkind href (hgoes.mp hyes)
          simp only [Continuity, Prod.mk.injEq] at h
          exact ⟨h.2.2, h.2.1⟩
        · have hbreak : continues y x.pos k = false := by simpa using mt hgoes.mpr hno
          obtain ⟨h, hend⟩ := validSlot_hardJump (s := u) hon hkind href hbreak (hused.mp huse)
          simp only [Continuity, Prod.mk.injEq] at h
          refine ⟨h.2.2, h.2.1, fun hnew => ?_⟩
          obtain ⟨hhit, hlocked, hempty, halone⟩ := hend hnew
          exact ⟨hhit.state, hhit.qual, hhit.timers, hlocked, hempty, halone⟩
        · have hbreak : continues y x.pos k = false := by simpa using mt hgoes.mpr hno
          have hfree : u.usedBy r = false := by simpa using mt hused.mpr huse
          obtain ⟨h, hend⟩ := validSlot_softJump (s := u) hkind href hbreak hfree
          simp only [Continuity, Prod.mk.injEq] at h
          exact ⟨h.2.2, h.2.1, hend⟩

end Sys2Proof.Machine
end

section
/-! PROOFS, family other. The ends of a rig's qualification, recovery hold and soft-jump timer (R26, R27, R29, R36). -/

namespace Sys2Proof.Machine

variable {s t : State} {r : Rig}

namespace State

theorem setRigHealth_setRigHealth (s : State) (r : Rig) (v w : HealthRec) : (s.setRigHealth r v).setRigHealth r w = s.setRigHealth r w := by
  cases r <;> rfl

/-- R30: a change from any state but HEALTHY touches the rig's record alone. -/
theorem healthChange_of_not_healthy {after : HealthState} (hne : (s.monitor r).state ≠ after) (hgood : (s.monitor r).state ≠ .healthy)
    (reason : HealthReason) :
    s.healthChange r after reason = s.setRigHealth r { s.monitor r with
      state := after, event := some { before := (s.monitor r).state, after := after, reason := reason } } := by
  simp [healthChange, hne, hgood]

/-- The health record after a change to rig `r` alone. -/
theorem health_eq_set (h : t.health.get r.other = s.health.get r.other) : t.health = s.health.set r (t.health.get r) :=
  Pair.eq_of_get r (Pair.get_set_same _ _ _).symm (h.trans (Pair.get_set_other _ _ _ _ (Rig.other_ne r)).symm)

theorem setRigHealth_eq_self (s : State) (r : Rig) (v : HealthRec) :
    s.setRigHealth r v = { s with health := s.health.set r ((s.setRigHealth r v).health.get r) } := by
  rw [health_get, setRigHealth_monitor]
  rfl

/-! ## RIG_QUALIFIED -/

/-- R26: the state a rig qualifies for. -/
def qualifiedState (m : HealthRec) (k : FrameKind) : HealthState :=
  match k with
  | .idle => .stopped
  | .audio => if m.soft then .suspect else .healthy

theorem qualified_eq (s : State) (r : Rig) (k : FrameKind) : ∃ reason, s.qualified r k = s.healthChange r (qualifiedState (s.monitor r) k) reason := by
  cases k with
  | idle => exact ⟨_, rfl⟩
  | audio =>
    simp only [qualified, qualifiedState]
    (repeat' split) <;> exact ⟨_, rfl⟩

theorem qualifiedState_ne (m : HealthRec) (k : FrameKind) : qualifiedState m k ≠ .qualifying := by
  unfold qualifiedState
  cases k with
  | idle => simp
  | audio =>
    dsimp only
    (repeat' split) <;> simp

theorem qualifyNow_eq (h : (s.monitor r).state = .qualifying) (k : FrameKind) :
    ∃ event, s.qualifyNow r k = s.setRigHealth r { s.monitor r with
      state := qualifiedState (s.monitor r) k, qual := max (s.monitor r).qual (s.monitor r).limits.qualify, event := event } := by
  let v : HealthRec := { s.monitor r with qual := max (s.monitor r).qual (s.monitor r).limits.qualify }
  have hv : (s.setRigHealth r v).monitor r = v := setRigHealth_monitor _ _ _
  obtain ⟨reason, hq⟩ := qualified_eq (s.setRigHealth r v) r k
  have hkept : qualifiedState v k = qualifiedState (s.monitor r) k := rfl
  have hne : ((s.setRigHealth r v).monitor r).state ≠ qualifiedState (s.monitor r) k := by
    rw [hv]
    exact h ▸ (qualifiedState_ne _ k).symm
  rw [hv, hkept, healthChange_of_not_healthy hne (by simp [v, h]), setRigHealth_setRigHealth, hv] at hq
  exact ⟨_, hq⟩

theorem execRigQualified_at_limit (hq : (s.monitor r).state = .qualifying) (hhard : (s.monitor r).hard.isEmpty = true)
    (hcount : (s.monitor r).qual + 1 = (s.monitor r).limits.qualify) (audio : Bool) :
    execRigQualified r audio s = .next (s.qualifyNow r (if audio then .audio else .idle)) :=
  congrArg Host.Outcome.next (if_pos (by simp [qualifyAtHand, hq, hhard, hcount]))

/-! ## RECOVERY_HOLD_EXPIRY -/

theorem recoveryReached_auto (h : (s.monitor r).limits.auto = true) (hf : (s.monitor r).state = .failed) :
    s.recoveryReached r = s.setRigHealth r { s.monitor r with
      state := .qualifying, qual := 0, recovery := none
      event := some { before := .failed, after := .qualifying, reason := .recovered } } := by
  simp [recoveryReached, h, setRigHealth_setRigHealth, healthChange, hf]

theorem recoveryReached_held (h : (s.monitor r).limits.auto = false) :
    s.recoveryReached r = s.setRigHealth r { s.monitor r with recovery := none, requalifyReady := true } := by
  simp [recoveryReached, h, setRigHealth_setRigHealth]

theorem execRecoveryHoldExpiry_at_end (h : (s.monitor r).recovery = some 1) : execRecoveryHoldExpiry r s = .next (s.recoveryReached r) :=
  congrArg Host.Outcome.next (if_pos (by simp [h, lastFrame]))

/-! ## SOFT_JUMP_EXPIRY -/

theorem execSoftJumpExpiry_at_end (h : (s.monitor r).softJump = some 1) : execSoftJumpExpiry r s = .next (s.softJumpReached r) :=
  congrArg Host.Outcome.next (if_pos (by simp [h, lastFrame]))

theorem softJumpReached_softJump (s : State) (r : Rig) : ((s.softJumpReached r).monitor r).softJump = none := by
  simp [softJumpReached]

theorem regrade_of_not_graded (h : (s.monitor r).graded = false) (k : FrameKind) : s.regrade r k = s := if_pos h

/-- R27's grade of a rig that plays. -/
theorem regrade_of_playing (hgraded : (s.monitor r).graded = true) (hplaying : (s.monitor r).playing = true) (k : FrameKind) :
    ((s.regrade r k).monitor r).state = if (s.monitor r).soft then .suspect else .healthy := by
  simp only [regrade, hgraded, hplaying, Bool.true_eq_false, if_false]
  (repeat' split) <;> exact healthChange_state _ _ _ _

theorem softJumpReached_of_suspect (h : (s.monitor r).state = .suspect) (hplaying : (s.monitor r).playing = true) :
    ((s.softJumpReached r).monitor r).state = if (s.monitor r).warn then .suspect else .healthy := by
  rw [softJumpReached, regrade_of_playing (by simp [HealthRec.graded, h]) (by simpa using hplaying)]
  simp [HealthRec.soft]

theorem softJumpReached_of_not_graded (h : (s.monitor r).graded = false) :
    ((s.softJumpReached r).monitor r).state = (s.monitor r).state := by
  rw [softJumpReached, regrade_of_not_graded (by simpa [HealthRec.graded] using h)]
  simp

end State

open State

/-- Settles O16: each row's end writes the rig's record, and only a rig that leaves HEALTHY loses its stamp. -/
theorem rigStateTimersExpire : Obligations.RigStateTimersExpire := by
  intro s r m
  refine ⟨fun audio hq hhard hcount => ?_, fun hrecovery hf => ?_, fun hsoft => ?_⟩
  · have hexec : exec (.rigQualified r audio) s = .next (s.qualifyNow r (if audio then .audio else .idle)) :=
      execRigQualified_at_limit hq hhard hcount audio
    obtain ⟨event, hnow⟩ := qualifyNow_eq (s := s) (r := r) hq (if audio then .audio else .idle)
    have hmax : max (s.monitor r).qual (s.monitor r).limits.qualify = m.limits.qualify := by
      have : (s.monitor r).qual + 1 = (s.monitor r).limits.qualify := hcount
      exact Nat.max_eq_right (by omega)
    rw [hnow] at hexec
    refine ⟨_, hexec, ?_, ?_, ?_⟩
    · rw [health_get, setRigHealth_monitor]
      cases audio <;> rfl
    · rw [health_get, setRigHealth_monitor]
      exact hmax
    · rw [health_get, setRigHealth_monitor]
      rfl
  · have hexec : exec (.recoveryHoldExpiry r) s = .next (s.recoveryReached r) := execRecoveryHoldExpiry_at_end hrecovery
    cases hauto : (s.monitor r).limits.auto with
    | true =>
      rw [recoveryReached_auto hauto hf] at hexec
      refine ⟨_, hexec, fun _ => ?_, fun h => absurd (hauto.symm.trans h) (by decide), ?_, setRigHealth_eq_self s r _⟩
      · rw [health_get, setRigHealth_monitor]
        exact ⟨rfl, rfl, rfl⟩
      · rw [health_get, setRigHealth_monitor]
    | false =>
      rw [recoveryReached_held hauto] at hexec
      refine ⟨_, hexec, fun h => absurd (hauto.symm.trans h) (by decide), fun _ => ?_, ?_, setRigHealth_eq_self s r _⟩
      · rw [health_get, setRigHealth_monitor]
        exact ⟨hf, rfl⟩
      · rw [health_get, setRigHealth_monitor]
  · have hexec : exec (.softJumpExpiry r) s = .next (s.softJumpReached r) := execSoftJumpExpiry_at_end hsoft
    refine ⟨_, hexec, softJumpReached_softJump s r, softJumpReached_of_suspect, fun hstate => ?_, ?_⟩
    · refine softJumpReached_of_not_graded ?_
      obtain h | h | h := hstate <;> simp [HealthRec.graded, ← health_get, show (s.health.get r).state = _ from h]
    · have hother : (s.softJumpReached r).health.get r.other = s.health.get r.other := softJumpReached_other _ _ (Rig.other_ne r)
      ext1 <;> try simp
      · exact health_eq_set hother
      · ext1 <;> simp

end Sys2Proof.Machine
end


section
/-! PROOFS, family other. The program's timers at an output period: the start grace timer, the held anchor, the third miss, and a group's fade
and deferral timer (R5, R8, R12, R18, R81, R85). -/

namespace Sys2Proof.Machine

@[simp] theorem Oct.set_set {α : Type} (p : Oct α) (k : Fin 8) (v w : α) : (p.set k v).set k w = p.set k w := by
  refine Oct.ext_get _ _ fun j => ?_
  by_cases h : j = k
  · subst h
    simp
  · simp [h]

namespace State

variable {s : State} {r : Rig} {g : Fin 8}

/-! ## STEP_LOST -/

theorem lossAtHand_of_third (hplay : s.align.prog.state ≠ .stopped) (hother : s.ctl.groups.g0.st.current ≠ r.source)
    (hin : (s.align.rigs.get r).step.state ≠ .outOfStep) (hmiss : (s.align.rigs.get r).step.miss = 2) : s.lossAtHand r = true := by
  have htiming : s.timingRig ≠ some r := fun h => hother ((timingRig_eq_some_iff s r).mp h)
  have hstep : s.rig r = s.align.rigs.get r := rfl
  simp [lossAtHand, playing_eq, hplay, htiming, hstep, hin, hmiss]

theorem stepLostEvent_stamps (s : State) (r : Rig) (skew : Option Int) :
    (s.stepLostEvent r skew).ctl.stamps = { a := if r = .a then none else s.ctl.stamps.a, b := if r = .b then none else s.ctl.stamps.b,
                                            bed := s.ctl.stamps.bed } := by
  have hstamps : (s.stepLostEvent r skew).ctl.stamps = (s.clearStamp r).ctl.stamps := by
    simp only [stepLostEvent]
    (repeat' split) <;> simp
  rw [hstamps]
  cases r <;> rfl

end State

/-- Settles O20: two misses stand, so the tracker's third-miss row runs. -/
theorem stepLostPutsTheRigOut : Obligations.StepLostPutsTheRigOut := by
  intro s r hplay hother hin hmiss
  refine (congrArg Host.Outcome.next (if_pos (State.lossAtHand_of_third hplay hother hin hmiss))).trans (congrArg Host.Outcome.next ?_)
  ext1 <;> try simp
  case align => simp [State.stepLostNow, State.setStep, State.setAlignRig, State.rig, Reset.step]
  case ctl =>
    ext1 <;> try simp
    case stamps => exact State.stepLostEvent_stamps _ _ _
  case fault => exact State.stepLostNow_fault s r

namespace State

variable {s : State} {r : Rig} {g : Fin 8}

/-! ## FADE_COMPLETE and DEFERRAL_LIMIT -/

theorem place_of_same_source {st : GroupState} (h : st.current = (s.ctl.groups.get g).st.current) (hard : Bool) :
    s.place g st hard = s.setGroup g { s.ctl.groups.get g with st := st } := by
  have hsame : ∀ u : State, u.timingChange (s.ctl.groups.get g).st.current st.current hard = u := fun u => if_pos h.symm
  exact (congrArg (fun u => if g = 0 then u else _) (hsame _)).trans (ite_self _)

theorem execFadeComplete_at_end {o d : Source} {k : Nat} {start : Word} {ret : Bool}
    (hfade : (s.ctl.groups.get g).st = .fading o d k start ret) (hlast : k ≤ (s.framer.count - start).toNat + 1) :
    execFadeComplete g s = .next (s.setGroup g { s.ctl.groups.get g with st := .settled d }) := by
  have hfade' : (s.group g).st = .fading o d k start ret := hfade
  have hatHand : s.fadeAtHand g = true := by
    simp only [fadeAtHand, hfade', progress]
    exact decide_eq_true hlast
  have hdone : s.fadeDone g = s.place g (.settled d) false := by simp only [fadeDone, hfade']
  refine (congrArg Host.Outcome.next (if_pos hatHand)).trans (congrArg Host.Outcome.next (hdone.trans (place_of_same_source ?_ _)))
  rw [hfade]
  rfl

theorem execDeferralLimit_at_limit (hact : s.framer.run = .gangWait ∨ s.framer.run = .running)
    (hopen : (s.ctl.groups.get g).limitReached = false) (hpos : 0 < (s.ctl.policies.get g).deferral)
    (htimer : (s.ctl.groups.get g).timer = some ((s.ctl.policies.get g).deferral - 1)) :
    execDeferralLimit g s = .next (s.limitHit g) := by
  refine congrArg Host.Outcome.next (if_pos ?_)
  have hopen' : (s.group g).limitReached = false := hopen
  have hpos' : 0 < (s.policy g).deferral := hpos
  have htimer' : (s.group g).timer = some ((s.policy g).deferral - 1) := htimer
  have hlast : (s.policy g).deferral ≤ (s.policy g).deferral - 1 + 1 := by omega
  simp [limitAtHand, (acting_iff s).mpr hact, hopen', hpos', htimer', hlast]

end State

/-- Settles O21: each timer is at its last frame, so its end runs, and neither end moves the group's source. -/
theorem groupTimersEnd : Obligations.GroupTimersEnd := by
  intro s g x n
  refine ⟨fun o d k start ret hfade hlast => State.execFadeComplete_at_end hfade hlast, fun hact hopen hpos htimer => ?_⟩
  refine (State.execDeferralLimit_at_limit hact hopen hpos htimer).trans (congrArg Host.Outcome.next ?_)
  have hfirst : 0 < (s.policy g).deferral ∧ (s.group g).limitReached = false := ⟨hpos, hopen⟩
  ext1 <;> try simp
  case ctl =>
    ext1 <;> try simp
    case groups =>
      simp only [State.limitHit, if_pos hfirst]
      simp [x, n]
      rfl
  case fault =>
    simp only [State.limitHit, if_pos hfirst]
    exact State.raise_fault _ _ _ _

end Sys2Proof.Machine
end


section
/-! PROOFS, family other. What ends a wait of the stopped program: the start grace timer's end and the held anchor (R5, R8, R12, R38, R73). -/

namespace Sys2Proof.Machine

/-! ## What a change of the pending table leaves (R70) -/

theorem Group.settleTimer_eq (g : Group) : g.settleTimer = { g with timer := if g.waits then g.timer else none } := by
  unfold Group.settleTimer
  (repeat' split) <;> rfl

/-- R70: the deferral timer's start and its becoming idle leave a latched request as it is. -/
theorem Group.latch_health (g : Group) (q : SwitchReq) : (g.latch .health q).health = some q := by
  simp only [Group.latch, Group.settleTimer_eq]
  (repeat' split) <;> rfl

namespace State

variable {s : State} {r : Rig} {a : HeldAnchor}

/-! ## START_GRACE_EXPIRY -/

theorem noStart_of_offline (h : (s.health.get r).state = .offline) :
    s.noStart r = s.raise .rigNoStart r.origin (.startGrace s.ctl.policies.g0.startGrace) := if_pos h

theorem noStart_of_on (h : (s.health.get r).state ≠ .offline) :
    s.noStart r = s.setHard r .noStart (.startGrace s.ctl.policies.g0.startGrace) := if_neg h

theorem noStart_fault (hnew : (s.health.get r).hard.noStart = false) :
    (s.noStart r).fault = captured s .rigNoStart r.origin (.startGrace s.ctl.policies.g0.startGrace) := by
  by_cases hoff : (s.health.get r).state = .offline
  · rw [noStart_of_offline hoff]
    exact raise_fault _ _ _ _
  · rw [noStart_of_on hoff]
    exact setHard_fault (c := .noStart) hoff hnew _

theorem noStart_failed (hon : (s.health.get r).state ≠ .offline) (hnew : (s.health.get r).hard.noStart = false) :
    ((s.noStart r).health.get r).state = .failed ∧ ((s.noStart r).health.get r).hard.noStart = true := by
  rw [noStart_of_on hon]
  obtain ⟨hhard, hfailed, -⟩ := setHard_monitor (c := .noStart) hon hnew (.startGrace s.ctl.policies.g0.startGrace)
  exact ⟨hfailed, setHard_get (c := .noStart) hon _⟩

theorem graceExpire_fault (s : State) (r : Rig) : (s.graceExpire r).fault = (s.noStart r).fault := by
  simp only [graceExpire]
  (repeat' split) <;> simp

theorem graceExpire_health (s : State) (r : Rig) : (s.graceExpire r).health = (s.noStart r).health := by
  simp only [graceExpire]
  (repeat' split) <;> simp

theorem graceExpire_align (s : State) (r : Rig) :
    (s.graceExpire r).align = { s.align with prog := { s.align.prog with grace := none, graceSpent := true } } := by
  have hprog : (s.noStart r).prog = s.align.prog := by simp [prog]
  simp only [graceExpire]
  (repeat' split) <;> simp [hprog]

theorem latchHealth_of_empty {g : Fin 8} (h : (s.group g).health = none) (u : Urgency) :
    ((s.latchHealth g u).group g).health = some (s.request g .health none u) := by
  simp only [latchHealth, h]
  simp [Group.latch_health]

theorem graceExpire_latches (hrole : s.gang.role = .leader) (hempty : s.ctl.groups.g0.health = none) :
    (s.graceExpire r).ctl.groups.g0.health
      = some { target := none, urgency := .immediate, level := s.ctl.policies.g0.healthLevel, hard := false, latched := s.framer.count } := by
  let u := (s.noStart r).setProg { (s.noStart r).prog with grace := none, graceSpent := true }
  have hdecides : ¬(u.joined = true ∨ u.discovering = true) := by simp [u, joined, discovering, hrole]
  have hslot : (u.group 0).health = none := by
    have hgroups : u.ctl.groups = s.ctl.groups := by simp [u]
    rwa [group, hgroups]
  have hreq : u.request 0 .health none .immediate
      = { target := none, urgency := .immediate, level := s.ctl.policies.g0.healthLevel, hard := false, latched := s.framer.count } := by
    simp [u, request, policy, GroupPolicy.level]
    rfl
  have hu : s.graceExpire r = u.latchHealth 0 .immediate := if_neg hdecides
  rw [hu, ← hreq]
  exact latchHealth_of_empty hslot .immediate

theorem startGrace_at_end (hact : s.framer.run = .gangWait ∨ s.framer.run = .running) (htiming : s.ctl.groups.g0.st.current = r.source)
    (hstop : s.align.prog.state = .stopped) (hgrace : s.align.prog.grace = some 1) (hholds : s.graceHolds r = true) :
    execStartGraceExpiry s = .next (s.graceExpire r) := by
  have hrig : s.timingRig = some r := (timingRig_eq_some_iff s r).mpr htiming
  have hhand : s.graceAtHand r = true := by
    simp [graceAtHand, (acting_iff s).mpr hact, hholds, prog, hstop, hgrace, lastFrame]
  simp only [execStartGraceExpiry, hrig, if_pos hhand]

/-- R12's conditions, as the statement of START_GRACE_EXPIRY lists them. -/
theorem graceHolds_of (hheld : s.align.prog.held = none) (hhold : s.align.prog.stopHold = false)
    (hquiet : (s.align.rigs.get r).newestAudio ≠ some true) (hlisted : r.other.source ∈ s.ctl.policies.g0.fallback)
    (haudio : (s.align.rigs.get r.other).newestAudio = some true)
    (hgraded : (s.health.get r.other).state = .stopped ∨ (s.health.get r.other).state = .healthy
      ∨ (s.health.get r.other).state = .suspect) : s.graceHolds r = true := by
  have hon : (s.monitor r.other).state ≠ .offline ∧ (s.monitor r.other).state ≠ .qualifying ∧ (s.monitor r.other).state ≠ .failed := by
    have hm : (s.monitor r.other).state = (s.health.get r.other).state := rfl
    rw [hm]
    obtain h | h | h := hgraded <;> simp [h]
  obtain ⟨hoff, hqual, hfail⟩ := hon
  simp [graceHolds, prog, hheld, hhold, newestIsAudio, rig, hquiet, listed, hlisted, haudio, hoff, hqual, hfail]

end State

/-- Settles O17: the timer is at its last frame and R12's conditions hold, so the row is `graceExpire`, whose parts are `noStart` and the
latch of a HEALTH request. -/
theorem startGraceExpires : Obligations.StartGraceExpires := by
  intro s r hact htiming hstop hgrace hheld hhold hquiet hlisted haudio hgraded hnew
  have hholds : s.graceHolds r = true := State.graceHolds_of hheld hhold hquiet hlisted haudio hgraded
  refine ⟨s.graceExpire r, State.startGrace_at_end hact htiming hstop hgrace hholds, State.graceExpire_align s r, ?_, fun hon => ?_,
    fun hoff => ?_, State.graceExpire_latches, ?_⟩
  · rw [State.graceExpire_fault, State.noStart_fault hnew]
  · rw [State.graceExpire_health]
    exact State.noStart_failed hon hnew
  · rw [State.graceExpire_health, State.noStart_of_offline hoff]
    simp
  · ext1 <;> simp

namespace State

variable {s : State} {a : HeldAnchor}

/-! ## HELD_ANCHOR_DUE -/

theorem bySlot_isSome_of_mem {x : AlignRig} {k : Word} (h : ∃ e ∈ x.ring, e.arrival = k) : (x.bySlot k).isSome = true := by
  obtain ⟨e, he, hk⟩ := h
  simp only [AlignRig.bySlot, List.find?_isSome, beq_iff_eq]
  exact ⟨e, he, hk⟩

theorem nextSlot_of_timingRig {r : Rig} (hact : s.framer.run = .gangWait ∨ s.framer.run = .running)
    (htiming : s.ctl.groups.g0.st.current = r.source) (hup : (s.links.get r.port).state = .up) :
    s.nextSlot = (s.align.rigs.get r).slotCount := by
  have hrig : s.timingRig = some r := (timingRig_eq_some_iff s r).mpr htiming
  have hclock : s.clockNow = .link r := by simp [clockNow, hrig, (acting_iff s).mpr hact, isUp, hup]
  simp only [nextSlot, hclock]
  rfl

/-- R5: E at the anchor is D in force. -/
theorem diff_add_ofNat {k : Word} {n : Nat} (h : n ≤ 32) : Word.diff (k + BitVec.ofNat 32 n) k = (n : Int) := by
  have hsub : BitVec.sub (k + BitVec.ofNat 32 n) k = BitVec.ofNat 32 n := by
    show k + BitVec.ofNat 32 n - k = _
    rw [BitVec.add_comm, BitVec.add_sub_cancel]
  rw [Word.diff, hsub, BitVec.toInt_eq_toNat_of_lt] <;> simp only [BitVec.toNat_ofNat] <;> omega

theorem anchorStart_delayE (h : s.align.prog.dInForce ≤ 32) : (s.anchorStart a).delayE = (s.align.prog.dInForce : Int) :=
  diff_add_ofNat h

/-- R7, R48: after the event the cue in use is the program cue, unless no change of cue shows. -/
theorem cueEvent_inUse (hplay : s.playing = true) (hdiff : s.align.prog.pos.cue ≠ s.align.prog.prevCue) :
    s.cueEvent.cues.inUse = some s.align.prog.pos.cue.toNat := by
  have hdiffers : s.cueDiffers = true := by simp [cueDiffers, hplay, prog, hdiff]
  by_cases hsame : s.cues.inUse = some s.prog.pos.cue.toNat
  · have hstays : s.cueEvent = s := if_neg (by simp [hsame])
    rw [hstays]
    exact hsame
  · have hchange : s.cueEvent = s.cueChange := if_pos ⟨hdiffers, hsame⟩
    rw [hchange]
    simp [cueChange, prog]

end State

/-- Settles O18: the anchor's slot is the next output period's, so the program starts there, and R7's event follows. -/
theorem heldAnchorStartsTheProgram : Obligations.HeldAnchorStartsTheProgram := by
  intro s a hact hstop hheld htiming hup hring hslot
  have hanchor : s.anchorSlot a = (s.align.rigs.get a.rig).slotCount := hslot.symm
  have hhand : s.anchorAtHand a = true := by
    have hfound : s.anchorFound a = true := State.bySlot_isSome_of_mem hring
    simp [State.anchorAtHand, (State.acting_iff s).mpr hact, State.prog, hstop, hfound, hanchor,
      State.nextSlot_of_timingRig hact htiming hup]
  have hexec : exec .heldAnchorDue s = .next (s.anchorStart a).cueEvent := by
    show execHeldAnchorDue s = _
    have hheld' : s.prog.held = some a := hheld
    simp only [execHeldAnchorDue, hheld', if_pos hhand]
  refine ⟨_, hexec, ?_, fun hd => ?_, fun hcue => ?_, ?_⟩
  · simp [State.anchorStart, State.prog, hanchor]
  · simp only [State.delayE, State.prog, State.cueEvent_frame]
    exact State.anchorStart_delayE hd
  · exact State.cueEvent_inUse rfl (Ne.symm hcue)
  · ext1 <;> simp

end Sys2Proof.Machine
end


section
/-! PROOFS, family other. The judgement of a request (R168, R176, R181, R182): what is ignored, what is refused, and what reaches its owner. -/

namespace Sys2Proof.Machine

namespace State

variable {s : State} {h : CtlHead} {k : ReqKind}

/-! ## Steps 2 and 3 -/

theorem ignored_iff : s.ignored h = true ↔
    (s.links.get h.port.port).state ≠ .up ∨ s.mgmt.grants.get h.port = .none
      ∨ (h.addr ≠ BitVec.ofNat 8 s.gang.position ∧ h.addr ≠ 15) := by
  simp only [ignored, isUp, Bool.or_eq_true, Bool.not_eq_true', beq_eq_false_iff_ne, beq_iff_eq, Bool.and_eq_true, bne_iff_ne, or_assoc]

theorem ignored_eq_false (hup : (s.links.get h.port.port).state = .up) (hgrant : s.mgmt.grants.get h.port ≠ .none)
    (haddr : h.addr = BitVec.ofNat 8 s.gang.position ∨ h.addr = 15) : s.ignored h = false := by
  rw [Bool.eq_false_iff, Ne, ignored_iff]
  rintro (hdown | hnone | ⟨hother, hfar⟩)
  · exact hdown hup
  · exact hgrant hnone
  · exact haddr.elim hother hfar

theorem control_of_ignored (hi : s.ignored h = true) (o : State) : s.control h k o = s := if_pos hi

theorem control_of_refusal {c : Completion} (hi : s.ignored h = false) (hc : s.refusal h k = some c) (o : State) :
    s.control h k o = replied s h (BitVec.ofNat 8 k.code) c .none := by
  have hgo : ¬s.ignored h = true := by simp [hi]
  simp only [control, if_neg hgo, hc, answer_eq_replied]

theorem unknownKind_of_ignored (hi : s.ignored h = true) (kind : Byte) : s.unknownKind h kind = s := if_pos hi

theorem unknownKind_of_not_ignored (hi : s.ignored h = false) (kind : Byte) :
    s.unknownKind h kind = replied s h kind (if (s.mgmt.inService.get h.port).isSome then .busy else .malformed) .none := by
  unfold unknownKind
  rw [if_neg (by simp [hi])]
  (repeat' split) <;> rfl

end State

/-- Settles O33: an ignored CONTROL leaves the state as it is, whatever its kind. -/
theorem ignoredRequestsChangeNothing : Obligations.IgnoredRequestsChangeNothing := by
  intro s h hcase
  have hi : s.ignored h = true := State.ignored_iff.mpr hcase
  refine ⟨fun q => ?_, fun kind => congrArg Host.Outcome.next (State.unknownKind_of_ignored hi kind)⟩
  rw [exec_command]
  exact congrArg Host.Outcome.next (State.control_of_ignored hi _)

namespace State

variable {s : State} {h : CtlHead} {k : ReqKind}

/-! ## Steps 4 to 10 -/

/-- R181: past OFF the tables are not loaded in HOLD and in LOAD alone. -/
theorem early_iff (hon : s.framer.run ≠ .off) : s.early = true ↔ s.framer.run = .hold ∨ s.framer.run = .load := by
  simp [early, hon]

theorem refusal_eq (hon : s.framer.run ≠ .off) : s.refusal h k =
    if (s.mgmt.inService.get h.port).isSome then some .busy
    else if h.addr = 15 ∧ k.farEnd = false then some .malformed
    else if s.mgmt.grants.get h.port = .observe ∧ k.isRead = false then some .denied
    else if (s.framer.run = .hold ∨ s.framer.run = .load) ∧ k.early = false then some .busy
    else if s.mgmt.lock = true ∧ k.underLock = true then some .locked
    else if h.lengthOk = false then some .malformed
    else none := by
  simp only [refusal, early_iff hon]

theorem reaches_of_refusal (hup : (s.links.get h.port.port).state = .up) (hgrant : s.mgmt.grants.get h.port ≠ .none)
    (haddr : h.addr = BitVec.ofNat 8 s.gang.position ∨ h.addr = 15) (hon : s.framer.run ≠ .off) (hnone : s.refusal h k = none) :
    Reaches s h k := by
  rw [refusal_eq hon] at hnone
  split at hnone
  next => cases hnone
  next hidle =>
  split at hnone
  next => cases hnone
  next hfar =>
  split at hnone
  next => cases hnone
  next hread =>
  split at hnone
  next => cases hnone
  next hload =>
  split at hnone
  next => cases hnone
  next hlock =>
  split at hnone
  next => cases hnone
  next hlen =>
  refine ⟨hup, ?_, ⟨haddr, fun h15 => ?_⟩, ?_, ?_, ?_, ?_⟩
  · cases hg : s.mgmt.grants.get h.port with
    | full => exact .inl rfl
    | observe => exact .inr ⟨rfl, by simpa [hg] using hread⟩
    | none => exact absurd hg hgrant
  · simpa [h15] using hfar
  · simpa using hidle
  · cases hrun : s.framer.run with
    | off => exact absurd hrun hon
    | hold => exact .inr (.inr (by simpa [hrun] using hload))
    | load => exact .inr (.inr (by simpa [hrun] using hload))
    | gangWait => exact .inl rfl
    | running => exact .inr (.inl rfl)
  · cases hl : s.mgmt.lock with
    | false => exact .inl rfl
    | true => exact .inr (by simpa [hl] using hlock)
  · simpa using hlen

theorem refusal_of_reaches (hr : Reaches s h k) : s.refusal h k = none := by
  obtain ⟨-, hgrant, ⟨-, hfar⟩, hidle, hload, hlock, hlen⟩ := hr
  have hread : ¬(s.mgmt.grants.get h.port = .observe ∧ k.isRead = false) := by
    rintro ⟨hobserve, hwrite⟩
    obtain hfull | ⟨-, hread⟩ := hgrant
    · simp [hfull] at hobserve
    · simp [hread] at hwrite
  have hearly : ¬(s.early = true ∧ k.early = false) := by
    rintro ⟨hs, hk⟩
    obtain hrun | hrun | hke := hload
    · simp [early, hrun] at hs
    · simp [early, hrun] at hs
    · simp [hke] at hk
  have hunlocked : ¬(s.mgmt.lock = true ∧ k.underLock = true) := by
    rintro ⟨hl, hk⟩
    obtain h' | h' := hlock
    · simp [h'] at hl
    · simp [h'] at hk
  have haddr : ¬(h.addr = 15 ∧ k.farEnd = false) := by
    rintro ⟨h15, hk⟩
    simp [hfar h15] at hk
  rw [refusal, if_neg (by simp [hidle]), if_neg haddr, if_neg hread, if_neg hearly, if_neg hunlocked, if_neg (by simp [hlen])]

end State

/-- Settles O34: `State.refusal` is the first row of R176 that applies, and none applies to a request that reaches its owner. -/
theorem firstRefusalAnswers : Obligations.FirstRefusalAnswers := by
  intro s h hup hgrant haddr hon
  have hi : s.ignored h = false := State.ignored_eq_false hup hgrant haddr
  refine ⟨?_, fun kind => congrArg Host.Outcome.next (State.unknownKind_of_not_ignored hi kind)⟩
  intro q k first
  have hfirst : s.refusal h k = first := State.refusal_eq hon
  refine ⟨fun c hc => ?_, ?_⟩
  · rw [exec_command]
    exact congrArg Host.Outcome.next (State.control_of_refusal hi (hfirst.trans hc) _)
  · rw [← hfirst]
    exact ⟨State.reaches_of_refusal hup hgrant haddr hon, State.refusal_of_reaches⟩

end Sys2Proof.Machine
end


section
/-! PROOFS, family other. Requests that act at once or read one record: READ BAD FRAME, READ CUE, LIST CUES, CLEAR FAULT, the show lock, WRITE
PORT GRANTS and RESET UNIT (R41, R60, R163, R182, R183, R185). -/

namespace Sys2Proof.Machine

/-- R176 step 11: a request that nothing refuses is its owner's. -/
theorem exec_request {s : State} {h : CtlHead} {q : Request} (hr : Reaches s h q.kind) : exec (q.command h) s = .next (s.owner h q) :=
  (exec_command h q s).trans (congrArg Host.Outcome.next (State.control_reaches hr _))

theorem exec_owner {s t : State} {h : CtlHead} {q : Request} (hr : Reaches s h q.kind) (ht : s.owner h q = t) :
    exec (q.command h) s = .next t := ht ▸ exec_request hr

/-- Settles O41: the owner answers with the record and leaves an empty one. -/
theorem clearFaultEmptiesTheRecord : Obligations.ClearFaultEmptiesTheRecord := fun _ _ hr => exec_request (q := .clearFault) hr

/-- Settles O38: the capture is read, and its locked flag cleared, where the parameter names a rig. -/
theorem readBadFrameUnlocks : Obligations.ReadBadFrameUnlocks := by
  intro s h hr
  refine ⟨fun r => ?_, exec_request (q := .readBadFrame .both) hr, exec_request (q := .readBadFrame .other) hr⟩
  cases r with
  | a => exact exec_request (q := .readBadFrame .a) hr
  | b => exact exec_request (q := .readBadFrame .b) hr

namespace State

variable {s : State} {h : CtlHead}

/-! ## READ CUE and LIST CUES -/

theorem ownReadCue_of_found {c : Nat} {r : CueRecord} (hfound : s.cues.records.find? (fun r => r.cue == c) = some r) :
    s.ownReadCue h c = replied s h 11 .done (.cue (some r) (stagedFor s.cues c)) := by
  have hrecord : s.cues.record c = some r := hfound
  have hhas : s.cues.hasRecord c = true := by simp [CueMap.hasRecord, hrecord]
  simp only [ownReadCue, hrecord, if_pos hhas]
  rfl

theorem ownReadCue_of_missing {c : Nat} (hmissing : ∀ r ∈ s.cues.records, r.cue ≠ c) :
    s.ownReadCue h c = replied s h 11 .notFound (.cue none (stagedFor s.cues c)) := by
  have hrecord : s.cues.record c = none := by simpa [CueMap.record, List.find?_eq_none] using hmissing
  have hhas : ¬s.cues.hasRecord c = true := by simp [CueMap.hasRecord, hrecord]
  simp only [ownReadCue, hrecord, if_neg hhas]
  rfl

theorem ownListCues_of_range {start : Nat} (hlow : 1 ≤ start) (hhigh : start ≤ 65535) :
    s.ownListCues h start = replied s h 13 .done (.cueList
      (((s.cues.records.map (fun r => r.cue)).filter (fun c => decide (start ≤ c))).take 40)
      (decide (40 < ((s.cues.records.map (fun r => r.cue)).filter (fun c => decide (start ≤ c))).length)) s.cues.occupancy
      (s.cues.staged.map (fun x => x.cue))) :=
  if_neg (by omega)

end State

/-- Settles O39, by whether the map holds the record and by the range of the start. -/
theorem cueReadsAnswer : Obligations.CueReadsAnswer := by
  intro s h
  refine ⟨fun hr c => ?_, fun hr start => ?_⟩
  · intro staged
    exact ⟨fun r hfound => exec_owner (q := .readCue c) hr (State.ownReadCue_of_found hfound),
      fun hmissing => exec_owner (q := .readCue c) hr (State.ownReadCue_of_missing hmissing)⟩
  · intro from_
    exact ⟨fun hzero => exec_owner (q := .listCues start) hr (if_pos (.inl (by omega))),
      fun hlow hhigh => exec_owner (q := .listCues start) hr (State.ownListCues_of_range hlow hhigh)⟩

namespace State

variable {s : State} {h : CtlHead}

/-! ## WRITE PORT GRANTS and RESET UNIT -/

theorem grantsOf_of_full {a b c d : Grant} (hfull : a = .full ∨ b = .full ∨ c = .full ∨ d = .full) :
    grantsOf { ra := some a, rb := some b, o1 := some c, o2 := some d } = some { ra := a, rb := b, o1 := c, o2 := d } := by
  have hold : grantsHoldFull { ra := a, rb := b, o1 := c, o2 := d } = true := by
    simpa [grantsHoldFull, or_assoc] using hfull
  exact if_pos hold

/-- R183: a set of grants that is taken names all four, one of them FULL. -/
theorem of_grantsOf {g : Four (Option Grant)} {v : Four Grant} (hv : grantsOf g = some v) :
    (∀ p, g.get p = some (v.get p)) ∧ ∃ p, v.get p = .full := by
  unfold grantsOf at hv
  split at hv
  case h_1 a b c d hra hrb ho1 ho2 =>
    obtain ⟨hfull, hsame⟩ := Option.ite_none_right_eq_some.mp hv
    obtain rfl := Option.some.inj hsame
    refine ⟨fun p => by cases p <;> assumption, ?_⟩
    simp only [grantsHoldFull, Bool.or_eq_true, beq_iff_eq] at hfull
    obtain ((ha | hb) | hc) | hd := hfull
    · exact ⟨.ra, ha⟩
    · exact ⟨.rb, hb⟩
    · exact ⟨.o1, hc⟩
    · exact ⟨.o2, hd⟩
  case h_2 => cases hv

theorem grantsOf_eq_none {g : Four (Option Grant)} (hbad : (∃ p, g.get p = none) ∨ ∀ p, g.get p ≠ some .full) : grantsOf g = none := by
  cases hv : grantsOf g with
  | none => rfl
  | some v =>
    obtain ⟨hall, p, hp⟩ := of_grantsOf hv
    obtain ⟨q, hq⟩ | hnofull := hbad
    · simp [hall q] at hq
    · exact absurd (by rw [hall p, hp]) (hnofull p)

theorem ownWriteGrants_of_some {g : Four (Option Grant)} {v : Four Grant} (hg : grantsOf g = some v) :
    s.ownWriteGrants h g = replied { s with mgmt := { s.mgmt with grants := v } } h 32 .done .none := by
  simp only [ownWriteGrants, hg]
  rfl

theorem ownWriteGrants_of_none {g : Four (Option Grant)} (hg : grantsOf g = none) :
    s.ownWriteGrants h g = replied s h 32 .outOfRange .none := by
  simp only [ownWriteGrants, hg]
  rfl

theorem ownResetUnit_first (hfree : s.framer.resetReq = none) :
    s.ownResetUnit h = { inHand (replied s h 33 .done .none) h .resetUnit with
      framer := { (replied s h 33 .done .none).framer with resetReq := some { port := h.port, sent := false } } } := by
  have hreq : ((s.answer h .resetUnit .done .none).accept h .resetUnit).framer.resetReq = none := hfree
  simp only [ownResetUnit, hreq]
  rfl

theorem ownResetUnit_again {x : ResetReq} (htaken : s.framer.resetReq = some x) :
    s.ownResetUnit h = inHand (replied s h 33 .done .none) h .resetUnit := by
  have hreq : ((s.answer h .resetUnit .done .none).accept h .resetUnit).framer.resetReq = some x := htaken
  simp only [ownResetUnit, hreq]
  rfl

end State

/-- Settles O52: the show lock and the grants are single fields; RESET UNIT is answered, held in service, and noted where none is. -/
theorem managementRequestsActAtOnce : Obligations.ManagementRequestsActAtOnce := by
  intro s h
  refine ⟨fun hr => exec_request (q := .showLock) hr, fun hr => exec_request (q := .showUnlock) hr, fun hr => ⟨?_, fun g hbad => ?_⟩,
    fun hr hfree => ?_, fun x hr htaken => ⟨?_, htaken⟩⟩
  · intro a b c d hfull
    exact exec_owner (q := .writePortGrants { ra := some a, rb := some b, o1 := some c, o2 := some d }) hr
      (State.ownWriteGrants_of_some (State.grantsOf_of_full hfull))
  · exact exec_owner (q := .writePortGrants g) hr (State.ownWriteGrants_of_none (State.grantsOf_eq_none hbad))
  · exact exec_owner (q := .resetUnit) hr (State.ownResetUnit_first hfree)
  · exact exec_owner (q := .resetUnit) hr (State.ownResetUnit_again htaken)

end Sys2Proof.Machine
end


section
/-! PROOFS, family other. The reads that answer from the records as they stand (R65, R97, R140, R186). -/

namespace Sys2Proof.Machine

namespace State

variable {s : State} {h : CtlHead}

/-- R172: the clock source, by the rig that is timing source. -/
theorem clockNow_eq (s : State) : s.clockNow =
    if (s.framer.run = .gangWait ∨ s.framer.run = .running) ∧ s.ctl.groups.g0.st.current = .a ∧ s.links.ra.state = .up then .link .a
    else if (s.framer.run = .gangWait ∨ s.framer.run = .running) ∧ s.ctl.groups.g0.st.current = .b ∧ s.links.rb.state = .up then .link .b
    else .localOsc := by
  simp only [clockNow, timingRig, timingSource, acting_iff]
  cases s.ctl.groups.g0.st.current with
  | a => simp [Source.rig, isUp_iff, Rig.port, Six.get]
  | b => simp [Source.rig, isUp_iff, Rig.port, Six.get]
  | bed => simp [Source.rig]
  | mute => simp [Source.rig]

/-- R20: the step state READ STATUS shows. -/
theorem stepOf_eq (s : State) (r : Rig) :
    s.stepOf r = if s.ctl.groups.g0.st.current = r.source then .inStep else (s.align.rigs.get r).step.state := by
  simp only [stepOf, timingRig_eq_some_iff]
  rfl

theorem rigStatus_eq (s : State) (r : Rig) : s.rigStatus r =
    { link := (s.links.get r.port).state, breaks := (s.links.get r.port).breaks, health := (s.health.get r).state
      step := if s.ctl.groups.g0.st.current = r.source then .inStep else (s.align.rigs.get r).step.state
      streak := (s.align.rigs.get r).step.streak, miss := (s.align.rigs.get r).step.miss
      lastSkew := (s.align.rigs.get r).step.lastSkew } := by
  rw [rigStatus, stepOf_eq]
  rfl

/-- R186: a request of the port is in service, for the asker and for any other control port. -/
theorem portStatus_of_ctl {p : Port} {q : CtlPort} (hp : p.ctl = some q) (s : State) (asker : CtlPort) : s.portStatus asker p =
    { link := (s.links.get p).state, breaks := (s.links.get p).breaks, grant := some (s.mgmt.grants.get q)
      inService := decide (q = asker ∨ s.mgmt.inService.get q ≠ none ∨ (s.framer.holders.get q).short ≠ [])
      completions := (s.framer.holders.get q).completion.length } := by
  have hserving : (q == asker || s.serving q)
      = decide (q = asker ∨ s.mgmt.inService.get q ≠ none ∨ (s.framer.holders.get q).short ≠ []) := by
    rw [Bool.eq_iff_iff]
    simp [serving, holders, Option.isSome_iff_ne_none]
  simp only [portStatus, hp, hserving]
  rfl

/-! ## READ JOURNAL -/

/-- R97: successive indices from the start and on from index 0, as one formula. -/
theorem range_rotated (n start : Nat) :
    (List.range n).drop (start % n) ++ (List.range n).take (start % n) = (List.range n).map (fun i => (start + i) % n) := by
  refine List.ext_getElem (by simp; omega) fun i hi _ => ?_
  have hin : i < n := by simp at hi; omega
  have hstart : start % n < n := Nat.mod_lt _ (by omega)
  have hsum : (start + i) % n = (start % n + i) % n := by rw [Nat.mod_add_mod]
  simp only [List.getElem_append, List.getElem_drop, List.getElem_take, List.getElem_range, List.length_drop, List.length_range,
    List.getElem_map, hsum]
  split
  next hlow => exact (Nat.mod_eq_of_lt (by omega)).symm
  next hhigh =>
    have hwrap : (start % n + i) % n = start % n + i - n := (Nat.mod_eq_sub_mod (by omega)).trans (Nat.mod_eq_of_lt (by omega))
    omega

theorem ownReadGroup_of_lt {n : Nat} (hn : n < 8) :
    s.ownReadGroup h n = replied s h 18 .done (.group (s.ctl.policies.get ⟨n, hn⟩) (s.groupReport ⟨n, hn⟩)) := by
  have hfin : Fin.ofNat 8 n = ⟨n, hn⟩ := Fin.ext (Nat.mod_eq_of_lt hn)
  rw [ownReadGroup, if_neg (by omega), hfin]
  rfl

end State

/-- Settles O37: each reply is built from the records it names; the parts that the statement writes out afresh are the clock source, the bed
readiness, the step states, the ports' service and the journal's order. -/
theorem readsAnswerAndChangeNothing : Obligations.ReadsAnswerAndChangeNothing := by
  intro s h prog source acts held bedReady report rig control gangPort unit program gang status numbered
  have hbed : s.bedReady = bedReady := by
    simp only [bedReady, State.bedReady]
    cases s.player.tracked with
    | none => rfl
    | some p =>
      obtain ⟨c, start⟩ := p
      simp only [Store.clip]
      cases s.store.dir.find? (fun e => e.id == c) with
      | none => rfl
      | some e =>
        have hoff : s.clipOffset start = (prog.pos.pos.toNat : Int) - (start : Int) := rfl
        simp only [DirEntry.effective, ← hoff]
        by_cases hneg : s.clipOffset start < 0
        · simp only [if_pos hneg]
        by_cases hin : (s.clipOffset start).toNat < e.length
        · simp only [if_neg hneg, if_pos hin]
          rfl
        by_cases hloop : 0 < e.loopLength
        · simp only [if_neg hneg, if_neg hin, if_pos hloop]
          rfl
        · simp only [if_neg hneg, if_neg hin, if_neg hloop]
  have hreport (n : Fin 8) : s.groupReport n = report n := by
    have hst : s.stateReport (s.group n).st = (report n).st := by
      simp only [report, State.group]
      cases (s.ctl.groups.get n).st <;> rfl
    rw [State.groupReport, hst]
    rfl
  have hrig (r : Rig) : s.rigStatus r = rig r := State.rigStatus_eq s r
  have hunit : s.unitStatus = unit := by rw [State.unitStatus, hbed, State.clockNow_eq]
  have hprogram : s.programStatus = program := by
    have he : (if s.playing then some s.delayE else none) = program.e := by
      by_cases hstop : s.align.prog.state = .stopped
      · simp [program, prog, State.playing_eq, hstop]
      · simp only [program, prog, State.playing_eq, bne_iff_ne, ne_eq, hstop, not_false_eq_true, if_true]
        rfl
    rw [State.programStatus, he]
    rfl
  have hjournal (start : Nat) : State.journalRead s.ctl.journal start
      = (((List.range 64).map (fun i => (start + i) % 64)).filterMap numbered).take 4 := by
    rw [State.journalRead, State.range_rotated]
    rfl
  refine ⟨fun hr => exec_request (q := .identify) hr, fun hr => ?_, fun hr n => ⟨fun hn => ?_, fun hn => ?_⟩, fun hr start => ?_,
    fun hr start => ⟨fun hlow hhigh => ?_, fun hzero => ?_⟩, fun hr => ?_⟩
  · have hstatus (part : StatusPart) (d : StatusData) (hd : s.statusData h.port part = some d) : status part d :=
      exec_owner (q := .readStatus part) hr (by simp only [State.owner, State.ownReadStatus, hd]; rfl)
    refine ⟨hstatus _ _ (by rw [← hunit]; rfl), hstatus _ _ (by rw [← hprogram]; rfl),
      hstatus _ _ (by rw [← hrig, ← hrig]; rfl), hstatus _ _ (by simp only [← hreport]; rfl),
      hstatus _ _ (by simp only [← hreport]; rfl), hstatus _ _ rfl, hstatus _ _ ?_,
      exec_request (q := .readStatus .other) hr⟩
    have hctl (p : Port) (q : CtlPort) (hp : p.ctl = some q) : s.portStatus h.port p = control p q := State.portStatus_of_ctl hp s h.port
    simp only [← hctl .ra .ra rfl, ← hctl .rb .rb rfl, ← hctl .o1 .o1 rfl, ← hctl .o2 .o2 rfl]
    rfl
  · exact exec_owner (q := .readGroup n) hr ((State.ownReadGroup_of_lt hn).trans (by rw [hreport]))
  · exact exec_owner (q := .readGroup n) hr (if_pos hn)
  · exact exec_owner (q := .readJournal start) hr (by rw [← hjournal]; rfl)
  · exact exec_owner (q := .bedList start) hr (if_neg (by omega))
  · exact exec_owner (q := .bedList start) hr (if_pos (.inl (by omega)))
  · refine exec_owner (q := .bedStatus) hr ?_
    simp only [State.owner, State.ownBedStatus, State.answer_eq_replied]
    congr 2
    simp only [State.bedStatusData, State.engineState]
    congr 1
    cases s.store.engine with
    | none => rfl
    | some x =>
      obtain ⟨op, job, start, progress, suspended, orphan⟩ := x
      cases op <;> rfl

end Sys2Proof.Machine
end


section
/-! PROOFS, family other. The requests of the health monitors: SET HEALTH LIMITS and REQUALIFY RIG (R27, R42, R43). -/

namespace Sys2Proof.Machine

/-- The rig parameter that names one rig. -/
def Rig.arg : Rig → RigArg | .a => .a | .b => .b

namespace State

variable {s : State} {h : CtlHead} {r : Rig} {l : HealthLimits}

/-! ## SET HEALTH LIMITS -/

theorem limitsValid_iff (l : HealthLimits) : limitsValid l = true ↔
    2 ≤ l.gap ∧ l.gap ≤ 400 ∧ 1 ≤ l.warn ∧ l.warn ≤ 1023 ∧ 2 ≤ l.corrupt ∧ l.corrupt ≤ 1024 ∧ l.warn < l.corrupt
      ∧ (∀ c, l.pilotChannel = some c → c ≤ 63) ∧ 1 ≤ l.pilotFloor ∧ l.pilotFloor ≤ 8388607 ∧ 4 ≤ l.pilotHold ∧ l.pilotHold ≤ 4000
      ∧ 40 ≤ l.qualify ∧ l.qualify ≤ 40000 ∧ 400 ≤ l.recovery ∧ l.recovery ≤ 400000 := by
  unfold limitsValid
  cases hc : l.pilotChannel with
  | none => simp
  | some c => simp only [Bool.and_eq_true, decide_eq_true_eq, Option.some.injEq, forall_eq']; omega

/-- What R43 leaves in the record of a rig whose limits a set replaces. -/
structure LimitsApplied (l : HealthLimits) (m v : HealthRec) : Prop where
  limits : v.limits = l
  state : v.state = m.state
  qual : v.qual = m.qual
  bucket : v.bucket = m.bucket
  gap : v.gap = m.gap
  samePilot : l.pilotChannel = m.limits.pilotChannel → l.pilotFloor = m.limits.pilotFloor →
    v = { m with limits := l, recovery := m.recovery.map (fun n => min n l.recovery) }
  newPilot : l.pilotChannel ≠ m.limits.pilotChannel ∨ l.pilotFloor ≠ m.limits.pilotFloor → v.pilotCount = 0 ∧ v.hard.pilotLost = false

theorem applyLimits_of_samePilot (hc : l.pilotChannel = (s.monitor r).limits.pilotChannel)
    (hf : l.pilotFloor = (s.monitor r).limits.pilotFloor) :
    s.applyLimits r l = s.setRigHealth r { s.monitor r with
      limits := l, recovery := (s.monitor r).recovery.map (fun n => min n l.recovery) } :=
  if_neg (by simp [hc, hf])

theorem applyLimits_limits (s : State) (r : Rig) (l : HealthLimits) : ((s.applyLimits r l).monitor r).limits = l := by
  simp only [applyLimits]
  (repeat' split) <;> simp [clearHard]

theorem applyLimits_of_newPilot
    (hnew : l.pilotChannel ≠ (s.monitor r).limits.pilotChannel ∨ l.pilotFloor ≠ (s.monitor r).limits.pilotFloor) :
    ((s.applyLimits r l).monitor r).pilotCount = 0 ∧ ((s.applyLimits r l).monitor r).hard.pilotLost = false := by
  simp only [applyLimits, decide_eq_true hnew, if_true]
  simp [clearHard, HardSet.set]

theorem applyLimits_applied (s : State) (r : Rig) (l : HealthLimits) : LimitsApplied l (s.monitor r) ((s.applyLimits r l).monitor r) where
  limits := applyLimits_limits s r l
  state := by simp
  qual := by simp
  bucket := by simp
  gap := by simp
  samePilot hc hf := by rw [applyLimits_of_samePilot hc hf, setRigHealth_monitor]
  newPilot := applyLimits_of_newPilot

/-- R43: the rigs that the parameter names take the set, and no other. -/
theorem setLimits_applied (s : State) (rig : RigArg) (l : HealthLimits) (r : Rig) :
    if rig = .both ∨ (rig = .a ∧ r = .a) ∨ (rig = .b ∧ r = .b) then LimitsApplied l (s.monitor r) ((s.setLimits rig l).monitor r)
    else (s.setLimits rig l).monitor r = s.monitor r := by
  cases rig with
  | a => cases r <;> simp [setLimits, applyLimits_applied]
  | b => cases r <;> simp [setLimits, applyLimits_applied]
  | other => cases r <;> simp [setLimits]
  | both =>
    cases r with
    | a => simpa [setLimits] using applyLimits_applied s .a l
    | b => simpa [setLimits] using applyLimits_applied (s.applyLimits .a l) .b l

theorem setLimits_eq_health (s : State) (rig : RigArg) (l : HealthLimits) : s.setLimits rig l = { s with health := (s.setLimits rig l).health } := by
  ext1 <;> simp

theorem ownSetHealthLimits_of_invalid (hbad : limitsValid l = false) (rig : RigArg) :
    s.ownSetHealthLimits h rig l = replied s h 4 .outOfRange .none := if_pos (.inr hbad)

theorem ownSetHealthLimits_other : s.ownSetHealthLimits h .other l = replied s h 4 .outOfRange .none := if_pos (.inl rfl)

theorem ownSetHealthLimits_of_valid (hok : limitsValid l = true) {rig : RigArg} (hrig : rig ≠ .other) :
    s.ownSetHealthLimits h rig l = replied (s.setLimits rig l) h 4 .done .none := if_neg (by simp [hrig, hok])

end State

/-- Settles O42: `State.limitsValid` is the statement's check, and each named rig's record is that of `State.LimitsApplied`. -/
theorem setHealthLimitsReplaces : Obligations.SetHealthLimitsReplaces := by
  intro s h l hr ok
  have hvalid : State.limitsValid l = true ↔ ok := State.limitsValid_iff l
  refine ⟨fun hbad rig => ?_, exec_owner (q := .setHealthLimits .other l) hr State.ownSetHealthLimits_other, fun hok rig hrig => ?_⟩
  · exact exec_owner (q := .setHealthLimits rig l) hr
      (State.ownSetHealthLimits_of_invalid (Bool.eq_false_iff.mpr fun hv => hbad (hvalid.mp hv)) rig)
  · refine ⟨(s.setLimits rig l).health, exec_owner (q := .setHealthLimits rig l) hr ?_, fun r => ?_⟩
    · rw [← State.setLimits_eq_health]
      exact State.ownSetHealthLimits_of_valid (hvalid.mpr hok) hrig
    · have happlied := State.setLimits_applied s rig l r
      split
      next hnamed =>
        rw [if_pos hnamed] at happlied
        obtain ⟨hlimits, hstate, hqual, hbucket, hgap, hsame, hnew⟩ := happlied
        exact ⟨hlimits, hstate, hqual, hbucket, hgap, hsame, hnew⟩
      next hnamed =>
        rw [if_neg hnamed] at happlied
        exact happlied

namespace State

variable {s : State} {h : CtlHead} {r : Rig}

/-! ## REQUALIFY RIG -/

/-- R42: what every taken REQUALIFY RIG clears. -/
def requalifyCleared (m : HealthRec) : HealthRec := { m with patches := 0, repeatStall := false, softJump := none }

theorem ownRequalify_eq (s : State) (h : CtlHead) (r : Rig) :
    s.ownRequalify h (Rig.arg r)
      = if requalifyRefused (s.monitor r) then replied s h 5 .busy .none else replied (s.requalifyTaken r) h 5 .done .none := by
  cases r <;> rfl

theorem requalifyRefused_iff (m : HealthRec) : requalifyRefused m = true ↔ m.state = .failed ∧ m.requalifyReady = false := by
  simp [requalifyRefused]

theorem requalifyTaken_of_offline (hs : (s.monitor r).state = .offline) :
    s.requalifyTaken r = s.setRigHealth r (requalifyCleared (s.monitor r)) := by
  simp [requalifyTaken, hs, requalifyCleared]

theorem requalifyTaken_of_qualifying (hs : (s.monitor r).state = .qualifying) :
    s.requalifyTaken r = s.setRigHealth r { requalifyCleared (s.monitor r) with qual := 0 } := by
  simp [requalifyTaken, hs, requalifyCleared, setRigHealth_setRigHealth]

theorem requalifyTaken_of_failed (hs : (s.monitor r).state = .failed) :
    s.requalifyTaken r = s.setRigHealth r { requalifyCleared (s.monitor r) with
      qual := 0, requalifyReady := false, state := .qualifying
      event := some { before := .failed, after := .qualifying, reason := .requested } } := by
  simp only [requalifyTaken, hs, setRigHealth_monitor, setRigHealth_setRigHealth]
  rw [healthChange_of_not_healthy] <;> simp [hs, setRigHealth_setRigHealth, requalifyCleared]

theorem requalifyTaken_of_graded (hs : (s.monitor r).state = .stopped ∨ (s.monitor r).state = .healthy ∨ (s.monitor r).state = .suspect)
    (hnone : (s.monitor r).softJump = none) : s.requalifyTaken r = s.setRigHealth r (requalifyCleared (s.monitor r)) := by
  obtain hs | hs | hs := hs <;> simp [requalifyTaken, hs, hnone, requalifyCleared]

theorem requalifyTaken_of_softJump (hs : (s.monitor r).state = .stopped ∨ (s.monitor r).state = .healthy ∨ (s.monitor r).state = .suspect)
    (hsome : (s.monitor r).softJump ≠ none) :
    s.requalifyTaken r = (s.setRigHealth r (requalifyCleared (s.monitor r))).regrade r .audio := by
  have hsoft : (s.monitor r).softJump.isSome = true := Option.isSome_iff_ne_none.mpr hsome
  obtain hs | hs | hs := hs <;> simp [requalifyTaken, hs, hsoft, requalifyCleared]

/-- R27: the grade of a rig, by its frames and its soft conditions. -/
theorem regrade_state (hgraded : (s.monitor r).graded = true) (k : FrameKind) :
    ((s.regrade r k).monitor r).state
      = if (s.monitor r).playing then (if (s.monitor r).soft then .suspect else .healthy) else .stopped := by
  cases hplaying : (s.monitor r).playing with
  | true => exact regrade_of_playing hgraded hplaying k
  | false =>
    simp only [regrade, hgraded, hplaying, Bool.true_eq_false, if_false, if_true, Bool.false_eq_true]
    exact healthChange_state _ _ _ _

end State

/-- Settles O43, by the rig's health state. -/
theorem requalifyActsOnTheState : Obligations.RequalifyActsOnTheState := by
  intro s h r hr m cmd cleared
  have hexec {t : State} (ht : (if State.requalifyRefused m then replied s h 5 .busy .none else replied (s.requalifyTaken r) h 5 .done .none) = t) :
      exec cmd s = .next t := by
    have hcmd : cmd = (Request.requalifyRig (Rig.arg r)).command h := by cases r <;> rfl
    rw [hcmd]
    exact exec_owner (q := .requalifyRig (Rig.arg r)) hr ((State.ownRequalify_eq s h r).trans ht)
  have htaken (hs : m.state ≠ .failed ∨ m.requalifyReady = true) : exec cmd s = .next (replied (s.requalifyTaken r) h 5 .done .none) := by
    refine hexec (if_neg fun hrefused => ?_)
    obtain ⟨hf, hready⟩ := (State.requalifyRefused_iff m).mp hrefused
    exact hs.elim (· hf) (by simp [hready])
  refine ⟨fun hf hready => hexec (if_pos ((State.requalifyRefused_iff m).mpr ⟨hf, hready⟩)), fun hoff => ?_, fun hq => ?_, fun hf hready => ?_,
    fun hg => ?_⟩
  · rw [htaken (.inl (by simp [hoff])), State.requalifyTaken_of_offline hoff]
    rfl
  · rw [htaken (.inl (by simp [hq])), State.requalifyTaken_of_qualifying hq]
    rfl
  · rw [htaken (.inr hready), State.requalifyTaken_of_failed hf]
    rfl
  · have hlive : m.state ≠ .failed := by rcases hg with hg | hg | hg <;> simp [hg]
    rw [htaken (.inl hlive)]
    refine ⟨fun hnone => ?_, fun hsome => ?_⟩
    · rw [State.requalifyTaken_of_graded hg hnone]
      rfl
    · let u := s.setRigHealth r cleared
      have hu : s.requalifyTaken r = u.regrade r .audio := State.requalifyTaken_of_softJump hg hsome
      have hm : u.monitor r = cleared := State.setRigHealth_monitor _ _ _
      have hgraded : (u.monitor r).graded = true := by
        rw [hm]
        rcases hg with hg | hg | hg <;> simp [HealthRec.graded, cleared, hg]
      refine ⟨(u.regrade r .audio).health, (u.regrade r .audio).ctl.stamps, ?_, ?_, ?_, ?_, ?_, ?_⟩
      · rw [hu]
        congr 2
        ext1 <;> try simp [u]
        ext1 <;> simp
      · simp [State.health_get, hm, cleared]
      · simp [State.health_get, hm, cleared]
      · simp [State.health_get, hm, cleared]
      · simp [State.health_get, u, Rig.other_ne]
      · rw [State.health_get, State.regrade_state hgraded, hm]
        simp [HealthRec.soft, cleared]

end Sys2Proof.Machine
end


section
/-! PROOFS, family other. WRITE CUE and DELETE CUE for the cue in use: R51's table. -/

namespace Sys2Proof.Machine

namespace CueMap

variable {m : CueMap} {r : CueRecord} {c : Nat}

theorem stagedNew_iff : m.stagedNew = true ↔ ∃ x, m.staged = some x ∧ x.isNew = true := by
  unfold stagedNew
  cases m.staged <;> simp

theorem write_inUse (hv : CueRecordValid r = true) (hu : m.inUse = some r.cue) (hhas : ∃ x ∈ m.records, x.cue = r.cue) :
    m.write r = { map := { m with staged := some { cue := r.cue, action := .write r.policy, isNew := false } }, code := .done,
                  data := .staged true, notice := false } := by
  rw [← hasRecord_iff] at hhas
  simp only [write, cueRecordValid_iff_firstBadField.mp hv, if_pos hu, if_pos hhas]

theorem write_inUse_new (hv : CueRecordValid r = true) (hu : m.inUse = some r.cue) (hhas : ¬∃ x ∈ m.records, x.cue = r.cue)
    (hroom : m.occupancy < 256 ∨ ∃ x, m.staged = some x ∧ x.isNew = true) :
    m.write r = { map := { m with staged := some { cue := r.cue, action := .write r.policy, isNew := true } }, code := .done,
                  data := .staged true, notice := false } := by
  rw [← hasRecord_iff] at hhas
  rw [← stagedNew_iff] at hroom
  simp only [write, cueRecordValid_iff_firstBadField.mp hv, if_pos hu, if_neg hhas]
  exact if_pos hroom

theorem write_inUse_full (hv : CueRecordValid r = true) (hu : m.inUse = some r.cue) (hhas : ¬∃ x ∈ m.records, x.cue = r.cue)
    (hfull : 256 ≤ m.occupancy) (hold : ¬∃ x, m.staged = some x ∧ x.isNew = true) :
    m.write r = { map := m, code := .full, data := .none, notice := false } := by
  rw [← hasRecord_iff] at hhas
  rw [← stagedNew_iff] at hold
  simp only [write, cueRecordValid_iff_firstBadField.mp hv, if_pos hu, if_neg hhas]
  exact if_neg (not_or.mpr ⟨Nat.not_lt.mpr hfull, hold⟩)

theorem delete_inUse (hu : m.inUse = some c) (hhas : ∃ x ∈ m.records, x.cue = c) :
    m.delete c = { map := { m with staged := some { cue := c, action := .delete, isNew := false } }, code := .done,
                   data := .staged true, notice := false } := by
  rw [← hasRecord_iff] at hhas
  simp only [delete, if_pos hu, if_pos hhas]

theorem delete_inUse_staged (hu : m.inUse = some c) (hhas : ¬∃ x ∈ m.records, x.cue = c) (hstaged : m.staged ≠ none) :
    m.delete c = { map := { m with staged := none }, code := .done, data := .staged true, notice := false } := by
  rw [← hasRecord_iff] at hhas
  obtain ⟨x, hx⟩ := Option.ne_none_iff_exists'.mp hstaged
  simp only [delete, if_pos hu, if_neg hhas, hx]

theorem delete_inUse_notFound (hu : m.inUse = some c) (hhas : ¬∃ x ∈ m.records, x.cue = c) (hstaged : m.staged = none) :
    m.delete c = { map := m, code := .notFound, data := .none, notice := false } := by
  rw [← hasRecord_iff] at hhas
  simp only [delete, if_pos hu, if_neg hhas, hstaged]

end CueMap

/-- Settles O46, row by row of R51's table. -/
theorem editsOfTheCueInUseAreStaged : Obligations.EditsOfTheCueInUseAreStaged := by
  intro s h r hv hu has holdsNew slot
  refine ⟨fun hr => ?_, fun hr => ?_⟩
  · have hexec {x : CueMap.Edited} {t : State} (hx : s.cues.write r = x) (ht : s.cueEdited h .writeCue r.cue x = t) :
        exec (.writeCue h r r.policy.zones.length) s = .next t := by
      rw [State.exec_writeCue_of_reaches hr, hx, ht]
    exact ⟨fun hhas => hexec (CueMap.write_inUse hv hu hhas) rfl, fun hhas hroom => hexec (CueMap.write_inUse_new hv hu hhas hroom) rfl,
      fun hhas hfull hold => hexec (CueMap.write_inUse_full hv hu hhas hfull hold) rfl⟩
  · have hexec {x : CueMap.Edited} {t : State} (hx : s.cues.delete r.cue = x) (ht : s.cueEdited h .deleteCue r.cue x = t) :
        exec (.deleteCue h r.cue) s = .next t := by
      rw [State.exec_deleteCue_of_reaches hr, hx, ht]
    exact ⟨fun hhas => hexec (CueMap.delete_inUse hu hhas) rfl,
      fun hhas hstaged => hexec (CueMap.delete_inUse_staged hu hhas hstaged) rfl,
      fun hhas hstaged => hexec (CueMap.delete_inUse_notFound hu hhas hstaged) rfl⟩

end Sys2Proof.Machine
end


section
/-! PROOFS, family other. The search for a switch point (R56, R58). -/

namespace Sys2Proof.Machine

variable {p : CuePolicy} {x y w : Nat}

/-! ## The grid (R56) -/

/-- R56: a position on the beat grid; without one every position is. -/
def onGrid (p : CuePolicy) (y : Nat) : Prop :=
  p.framesPerBeat = 0 ∨ (p.beatOffset ≤ y ∧ ∃ n, y = p.beatOffset + n * p.framesPerBeat)

/-- R56: a switch position: on the grid, outside the zones and before the end. -/
def switchesAt (p : CuePolicy) (y : Nat) : Prop :=
  onGrid p y ∧ (∀ z ∈ p.zones, y < z.1 ∨ z.2 ≤ y) ∧ ∀ n, p.length = some n → y < n

theorem onGrid_iff_mod (hb : p.framesPerBeat ≠ 0) :
    onGrid p y ↔ p.beatOffset ≤ y ∧ (y - p.beatOffset) % p.framesPerBeat = 0 := by
  simp only [onGrid, hb, false_or]
  refine and_congr_right fun hle => ⟨?_, fun hmod => ⟨(y - p.beatOffset) / p.framesPerBeat, ?_⟩⟩
  · rintro ⟨n, rfl⟩
    simp
  · rw [Nat.div_mul_cancel (Nat.dvd_of_mod_eq_zero hmod)]
    omega

theorem switchPosition_iff (p : CuePolicy) (y : Nat) : CuePolicy.switchPosition p y = true ↔ switchesAt p y := by
  have hgrid : (p.framesPerBeat == 0 || (decide (p.beatOffset ≤ y) && (y - p.beatOffset) % p.framesPerBeat == 0)) = true ↔ onGrid p y := by
    by_cases hb : p.framesPerBeat = 0
    · simp [onGrid, hb]
    · simp [onGrid_iff_mod hb, hb]
  have hend : (match p.length with | none => true | some n => decide (y < n)) = true ↔ ∀ n, p.length = some n → y < n := by
    cases p.length <;> simp
  have hzones : p.zones.all (fun z => decide (y < z.1) || decide (z.2 ≤ y)) = true ↔ ∀ z ∈ p.zones, y < z.1 ∨ z.2 ≤ y := by simp
  rw [switchesAt, ← hgrid, ← hzones, ← hend, CuePolicy.switchPosition, Bool.and_eq_true, Bool.and_eq_true, and_assoc] <;> rfl

/-- The first multiple of `b` at or above `d`. -/
theorem next_multiple (d : Nat) {b : Nat} (hb : b ≠ 0) : ∃ q, d + (b - d % b) % b = q * b ∧ ∀ m, d ≤ m * b → q ≤ m := by
  have hdiv : d / b * b + d % b = d := Nat.div_add_mod' d b
  have hlt : d % b < b := Nat.mod_lt d (Nat.pos_of_ne_zero hb)
  by_cases hzero : d % b = 0
  · refine ⟨d / b, by rw [hzero, Nat.sub_zero, Nat.mod_self]; omega, fun m hm => ?_⟩
    exact Nat.le_trans (Nat.div_le_div_right hm) (Nat.le_of_eq (Nat.mul_div_cancel m (Nat.pos_of_ne_zero hb)))
  · have hstep : (b - d % b) % b = b - d % b := Nat.mod_eq_of_lt (by omega)
    refine ⟨d / b + 1, by rw [hstep, Nat.succ_mul]; omega, fun m hm => ?_⟩
    refine Nat.lt_of_mul_lt_mul_right (a := b) ?_
    omega

theorem le_toGrid (p : CuePolicy) (x : Nat) : x ≤ toGrid p x := by
  unfold toGrid
  (repeat' split) <;> omega

/-- R58 step 2 goes up to a grid position. -/
theorem toGrid_onGrid (p : CuePolicy) (x : Nat) : onGrid p (toGrid p x) := by
  unfold toGrid
  split
  next hb => exact .inl hb
  next hb =>
  split
  next => exact .inr ⟨Nat.le_refl _, 0, by simp⟩
  next hlow =>
    obtain ⟨q, hq, -⟩ := next_multiple (x - p.beatOffset) hb
    exact .inr ⟨by omega, q, by omega⟩

/-- R58 step 2 goes up to the first grid position. -/
theorem toGrid_le (hxw : x ≤ w) (hw : onGrid p w) : toGrid p x ≤ w := by
  unfold toGrid
  split
  next => exact hxw
  next hb =>
  split
  next =>
    obtain hzero | ⟨hle, -⟩ := hw
    · exact absurd hzero hb
    · exact hle
  next hlow =>
    obtain hzero | ⟨hle, n, rfl⟩ := hw
    · exact absurd hzero hb
    · obtain ⟨q, hq, hfirst⟩ := next_multiple (x - p.beatOffset) hb
      have hqn : q * p.framesPerBeat ≤ n * p.framesPerBeat := Nat.mul_le_mul_right _ (hfirst n (by omega))
      omega

/-! ## The search (R58) -/

/-- What R58 asks of an answer from `x` on. -/
def FirstSwitch (p : CuePolicy) (x : Nat) : Option Nat → Prop
  | some y => x ≤ y ∧ y ≤ 4294967295 ∧ switchesAt p y ∧ ∀ w, x ≤ w → w < y → ¬switchesAt p w
  | none => ∀ w, x ≤ w → w ≤ 4294967295 → ¬switchesAt p w

/-- The zones that end above `x`: R58's moves to a zone's end use them up. -/
def zonesAhead (p : CuePolicy) (x : Nat) : Nat := p.zones.countP (fun z => decide (x < z.2))

theorem zonesAhead_lt {z : Nat × Nat} (hz : z ∈ p.zones) (hx : x < z.2) : zonesAhead p z.2 < zonesAhead p x := by
  have hmono (l : List (Nat × Nat)) : l.countP (fun y => decide (z.2 < y.2)) ≤ l.countP (fun y => decide (x < y.2)) :=
    List.countP_mono_left fun y _ hy => decide_eq_true (Nat.lt_trans hx (of_decide_eq_true hy))
  obtain ⟨l, m, hzones⟩ := List.append_of_mem hz
  have hl := hmono l
  have hm := hmono m
  simp only [zonesAhead, hzones, List.countP_append, List.countP_cons, decide_eq_true hx, Nat.lt_irrefl, decide_false, if_true, Bool.false_eq_true,
    if_false]
  omega

/-- A stretch without a switch position moves the search's start. -/
theorem FirstSwitch.of_skip {z : Nat} (hxz : x ≤ z) (hskip : ∀ w, x ≤ w → w < z → ¬switchesAt p w) {o : Option Nat} (h : FirstSwitch p z o) :
    FirstSwitch p x o := by
  have hbelow {w : Nat} (hw : x ≤ w) (hrest : z ≤ w → ¬switchesAt p w) : ¬switchesAt p w :=
    (Nat.lt_or_ge w z).elim (hskip w hw) hrest
  cases o with
  | none => exact fun w hw hmax => hbelow hw fun hzw => h w hzw hmax
  | some y =>
    obtain ⟨hle, hmax, hy, hfirst⟩ := h
    exact ⟨Nat.le_trans hxz hle, hmax, hy, fun w hw hwy => hbelow hw fun hzw => hfirst w hzw hwy⟩

theorem not_switchesAt_of_lt_toGrid (hxw : x ≤ w) (hw : w < toGrid p x) : ¬switchesAt p w :=
  fun h => Nat.not_lt.mpr (toGrid_le hxw h.1) hw

theorem zoneAt_eq_some {z : Nat × Nat} (h : zoneAt p y = some z) : z ∈ p.zones ∧ z.1 ≤ y ∧ y < z.2 := by
  have hin := List.find?_some (p := fun z : Nat × Nat => decide (z.1 ≤ y) && decide (y < z.2)) h
  simp only [Bool.and_eq_true, decide_eq_true_eq] at hin
  exact ⟨List.mem_of_find?_eq_some h, hin⟩

theorem zoneAt_eq_none (h : zoneAt p y = none) : ∀ z ∈ p.zones, y < z.1 ∨ z.2 ≤ y := by
  intro z hz
  have hout := List.find?_eq_none.mp h z hz
  simp only [Bool.and_eq_true, decide_eq_true_eq] at hout
  omega

/-- R58's stretch up to a zone's end, once the grid has led into the zone. -/
theorem not_switchesAt_of_zone {z : Nat × Nat} (hz : zoneAt p (toGrid p x) = some z) (hxw : x ≤ w) (hw : w < z.2) : ¬switchesAt p w := by
  obtain ⟨hmem, hlow, -⟩ := zoneAt_eq_some hz
  obtain hbelow | habove := Nat.lt_or_ge w (toGrid p x)
  · exact not_switchesAt_of_lt_toGrid hxw hbelow
  · rintro ⟨-, hout, -⟩
    have := hout z hmem
    omega

theorem searchFrom_succ_of_zone {n : Nat} {z : Nat × Nat} (hmax : toGrid p x ≤ 4294967295) (hz : zoneAt p (toGrid p x) = some z) :
    searchFrom p (n + 1) x = searchFrom p n z.2 := by
  have hin : ¬Config.maxPosition < toGrid p x := Nat.not_lt.mpr hmax
  rw [searchFrom.eq_def p (n + 1) x]
  simp only [if_neg hin, hz]

/-- R58 steps 3 and 5: past the last position, or outside every zone, the search ends. -/
theorem searchFrom_ends {fuel : Nat} (h : 4294967295 < toGrid p x ∨ zoneAt p (toGrid p x) = none) : FirstSwitch p x (searchFrom p fuel x) := by
  unfold searchFrom
  by_cases hmax : Config.maxPosition < toGrid p x
  · simp only [if_pos hmax]
    exact fun w hxw hw => not_switchesAt_of_lt_toGrid hxw (Nat.lt_of_le_of_lt hw hmax)
  · have hnone : zoneAt p (toGrid p x) = none := h.resolve_left hmax
    simp only [if_neg hmax, hnone]
    have hanswer (hlen : ∀ n, p.length = some n → toGrid p x < n) : FirstSwitch p x (some (toGrid p x)) :=
      ⟨le_toGrid p x, Nat.not_lt.mp hmax, ⟨toGrid_onGrid p x, zoneAt_eq_none hnone, hlen⟩, fun w hxw hw => not_switchesAt_of_lt_toGrid hxw hw⟩
    cases hlen : p.length with
    | none => exact hanswer (by simp [hlen])
    | some n =>
      dsimp only
      split
      next hn =>
        intro w hxw _ hswitch
        obtain ⟨hgrid, -, hend⟩ := hswitch
        have hw := hend n hlen
        have := toGrid_le hxw hgrid
        omega
      next hn => exact hanswer (by simpa [hlen] using hn)

theorem searchFrom_first (p : CuePolicy) : ∀ (fuel x : Nat), zonesAhead p x ≤ fuel → FirstSwitch p x (searchFrom p fuel x) := by
  have hend (fuel x : Nat) (hzone : ∀ z, zoneAt p (toGrid p x) = some z → toGrid p x ≤ 4294967295 → FirstSwitch p x (searchFrom p fuel x)) :
      FirstSwitch p x (searchFrom p fuel x) := by
    cases hz : zoneAt p (toGrid p x) with
    | none => exact searchFrom_ends (.inr hz)
    | some z => exact (Nat.lt_or_ge 4294967295 (toGrid p x)).elim (fun hmax => searchFrom_ends (.inl hmax)) (hzone z hz)
  intro fuel
  induction fuel with
  | zero =>
    refine fun x hfuel => hend 0 x fun z hz _ => ?_
    obtain ⟨hmem, -, hlt⟩ := zoneAt_eq_some hz
    exact absurd (zonesAhead_lt hmem (Nat.lt_of_le_of_lt (le_toGrid p x) hlt)) (by omega)
  | succ n ih =>
    refine fun x hfuel => hend (n + 1) x fun z hz hmax => ?_
    obtain ⟨hmem, -, hlt⟩ := zoneAt_eq_some hz
    have hxz : x < z.2 := Nat.lt_of_le_of_lt (le_toGrid p x) hlt
    rw [searchFrom_succ_of_zone hmax hz]
    exact .of_skip (Nat.le_of_lt hxz) (fun w hxw hw => not_switchesAt_of_zone hz hxw hw) (ih z.2 (by have := zonesAhead_lt hmem hxz; omega))

theorem search_first (p : CuePolicy) (x : Nat) : FirstSwitch p x (search p x) := by
  unfold search
  split
  next hmax => exact fun w hxw hw => absurd (Nat.le_trans hxw hw) (Nat.not_le.mpr hmax)
  next => exact searchFrom_first p _ x (Nat.le_trans List.countP_le_length (Nat.le_succ _))

/-- Settles O57: the search is R56's first switch position, for any policy at all. -/
theorem searchFindsTheFirstSwitchPosition : Obligations.SearchFindsTheFirstSwitchPosition := by
  intro r x _ p switches
  refine ⟨fun y => switchPosition_iff p y, ?_⟩
  have hfirst := search_first p x
  cases hs : search p x with
  | none => exact hs ▸ hfirst
  | some y => exact hs ▸ hfirst

end Sys2Proof.Machine
end


section
/-! PROOFS, family other. STOP PROGRAM and the program's entry into STOPPED (R11, R52, R54, R82). -/

namespace Sys2Proof.Machine

/-- A program record that a change of timing source in STOPPED leaves as it is. -/
def Program.Idle (p : Program) : Prop := p.state = .stopped ∧ p.held = none ∧ p.grace = none ∧ p.graceSpent = false

namespace State

variable {s : State} {g : Fin 8}

theorem timingChange_prog_of_idle (h : s.align.prog.Idle) (old new : Source) (hard : Bool) :
    (s.timingChange old new hard).align.prog = s.align.prog := by
  obtain ⟨hstate, hheld, hgrace, hspent⟩ := h
  have hstopped : s.playing = false := by simp [playing_eq, hstate]
  have hprog : { s.prog with held := none, grace := none, graceSpent := false } = s.align.prog := by
    rw [← hheld, ← hgrace, ← hspent]
    rfl
  simp only [timingChange, if_pos hstopped]
  repeat' split
  · rfl
  · simp only [timingStopped, setProg_align]
    exact hprog

theorem place_prog_of_idle (h : s.align.prog.Idle) (st : GroupState) (hard : Bool) : (s.place g st hard).align.prog = s.align.prog := by
  simp only [place]
  repeat' split
  · exact timingChange_prog_of_idle (s := s.setGroup g _) h _ _ _
  · rfl

theorem carry_prog_of_idle (h : s.align.prog.Idle) (o : Source) (st : GroupState) (hard : Bool) (n : Nat) (w : SwitchInfo) (tell : Bool) :
    (s.carry g o st hard n w tell).align.prog = s.align.prog := by
  simp only [carry]
  (repeat' split) <;> simp [place_prog_of_idle h]

theorem fadeDone_prog_of_idle (h : s.align.prog.Idle) : (s.fadeDone g).align.prog = s.align.prog := by
  simp only [fadeDone]
  split
  · rfl
  · exact place_prog_of_idle h _ _

theorem stopGroup_prog_of_idle (h : s.align.prog.Idle) : (s.stopGroup g).align.prog = s.align.prog := by
  have hdone : (s.fadeDone g).align.prog = s.align.prog := fadeDone_prog_of_idle h
  simp only [stopGroup]
  split
  · exact hdone
  · refine (carry_prog_of_idle ?_ _ _ _ _ _ _).trans hdone
    exact hdone ▸ h

theorem stopGroups_prog_of_idle (h : s.align.prog.Idle) : s.stopGroups.align.prog = s.align.prog := by
  refine List.foldlRecOn allGroups stopGroup (motive := fun t => t.align.prog = s.align.prog) rfl fun t ht g _ => ?_
  exact (stopGroup_prog_of_idle (ht ▸ h)).trans ht

theorem stoppedProgram_idle (p : Program) (d : Nat) : (stoppedProgram p d).Idle := ⟨rfl, rfl, rfl, rfl⟩

/-! ## The player and the cue map -/

theorem playerRetrack_tracked (s : State) : s.playerRetrack.player.tracked = s.trackTarget := by
  simp only [playerRetrack]
  split
  next h => exact h
  next => rfl

theorem trackTarget_of_stopped (h : s.align.prog.state = .stopped) : s.trackTarget = none := by
  have hstopped : s.playing = false := by simp [playing_eq, h]
  simp [trackTarget, hstopped]

theorem applyEdit_cues_eq (s : State) : s.applyEdit.cues = s.cues.applyStaged := by
  simp only [applyEdit, CueMap.applyStaged]
  cases hstaged : s.cues.staged with
  | none => rfl
  | some x => simp

/-! ## The stop -/

theorem enterStopped_prog (s : State) : s.enterStopped.align.prog = stoppedProgram s.align.prog s.ctl.policies.g0.dSet := by
  have hprog : (s.setProg (stoppedProgram s.prog s.ctl.policies.g0.dSet)).applyEdit.align.prog
      = stoppedProgram s.align.prog s.ctl.policies.g0.dSet := by
    simp only [applyEdit_frame, setProg_align]
    rfl
  simp only [enterStopped, playerRetrack_frame]
  refine (stopGroups_prog_of_idle ?_).trans ?_
  · simp only [setCues_align, hprog]
    exact stoppedProgram_idle _ _
  · simp only [setCues_align, hprog]

theorem enterStopped_cues (s : State) : s.enterStopped.cues = { s.cues.applyStaged with inUse := none } := by
  simp [enterStopped, applyEdit_cues_eq]

theorem enterStopped_tracked (s : State) : s.enterStopped.player.tracked = none := by
  have hstate : s.enterStopped.align.prog.state = .stopped := by rw [enterStopped_prog]; rfl
  have hframe : ∀ u : State, u.playerRetrack.align.prog.state = .stopped → u.playerRetrack.player.tracked = none := fun u hu => by
    rw [playerRetrack_tracked, trackTarget_of_stopped (by simpa using hu)]
  exact hframe _ hstate

theorem stopProgram_of_stopped (h : s.align.prog.state = .stopped) :
    s.stopProgram = { s with align := { s.align with prog := { s.align.prog with held := none, grace := none, stopHold := true } } } := by
  have hstopped : ¬s.playing = true := by simp [playing_eq, h]
  simp only [stopProgram, if_neg hstopped]
  rfl

theorem stopProgram_of_playing (h : s.align.prog.state ≠ .stopped) :
    s.stopProgram = s.enterStopped.setProg { s.enterStopped.prog with stopHold := true } := by
  have hplays : s.playing = true := by simp [playing_eq, h]
  simp only [stopProgram, if_pos hplays]

end State

/-- Settles O51: a playing program enters STOPPED, where the groups' stops leave its record. -/
theorem stopProgramStops : Obligations.StopProgramStops := by
  intro s h hr
  refine ⟨fun hstop => exec_owner (q := .stopProgram) hr ?_, fun hplay => ⟨s.stopProgram, exec_request (q := .stopProgram) hr, ?_⟩⟩
  · simp only [State.owner, State.ownStopProgram, State.stopProgram_of_stopped hstop]
    rfl
  · have hprog : s.stopProgram.align.prog = { State.stoppedProgram s.align.prog s.ctl.policies.g0.dSet with stopHold := true } := by
      rw [State.stopProgram_of_playing hplay, ← State.enterStopped_prog]
      rfl
    have hcues : s.stopProgram.cues = { s.cues.applyStaged with inUse := none } := by
      rw [State.stopProgram_of_playing hplay, ← State.enterStopped_cues]
      rfl
    have htracked : s.stopProgram.player.tracked = none := by
      rw [State.stopProgram_of_playing hplay, ← State.enterStopped_tracked s]
      rfl
    simp only [hprog, hcues, htracked, CueMap.applyStaged_staged, State.stopProgram_frame]
    simp [State.stoppedProgram, Reset.show0]

end Sys2Proof.Machine
end


section
/-! PROOFS, family other. FORCE SOURCE, RELEASE FORCE and WRITE GROUP (R64, R65, R77, R78, R143). -/

namespace Sys2Proof.Machine

/-! ## A group's OPERATOR slot -/

/-- R65: what the pending OPERATOR request and the deferral timer do not concern. -/
structure Group.SameButOperator (x y : Group) : Prop where
  st : y.st = x.st
  health : y.health = x.health
  revert : y.revert = x.revert
  placed : y.placed = x.placed

theorem Group.drop_op (x : Group) : (x.drop .operator).op = none := by
  simp [Group.drop, Group.settleTimer_eq, Group.setSlot]

theorem Group.drop_operator_same (x : Group) (n : Nat) : x.SameButOperator { x.drop .operator with h := n } := by
  constructor <;> simp [Group.drop, Group.settleTimer_eq, Group.setSlot]

theorem Group.latch_op (x : Group) (q : SwitchReq) : (x.latch .operator q).op = some q := by
  simp only [Group.latch, Group.settleTimer_eq]
  (repeat' split) <;> rfl

theorem Group.latch_operator_same (x : Group) (q : SwitchReq) (n : Nat) : x.SameButOperator { x.latch .operator q with h := n } := by
  constructor <;> simp only [Group.latch, Group.settleTimer_eq] <;> (repeat' split) <;> rfl

namespace State

variable {s : State} {h : CtlHead}

/-! ## One update for each of several groups -/

/-- A walk over distinct groups, each of whose steps writes its own group's record from that record and what no step writes. -/
theorem foldl_groups {act : State → Fin 8 → State} (f : Fin 8 → Group → Group)
    (hact : ∀ (t : State) (g : Fin 8), t = { s with ctl := { s.ctl with groups := t.ctl.groups } } →
      act t g = { s with ctl := { s.ctl with groups := t.ctl.groups.set g (f g (t.ctl.groups.get g)) } })
    {gs : List (Fin 8)} (hgs : gs.Nodup) {t : State} (ht : t = { s with ctl := { s.ctl with groups := t.ctl.groups } }) :
    gs.foldl act t = { s with ctl := { s.ctl with groups := (gs.foldl act t).ctl.groups } }
    ∧ ∀ g, (gs.foldl act t).ctl.groups.get g = if g ∈ gs then f g (t.ctl.groups.get g) else t.ctl.groups.get g := by
  induction gs generalizing t with
  | nil => exact ⟨ht, fun g => by simp⟩
  | cons k m ih =>
    obtain ⟨hk, hm⟩ := List.nodup_cons.mp hgs
    have hstep := hact t k ht
    obtain ⟨hrest, hget⟩ := ih hm (t := act t k) (by rw [hstep])
    refine ⟨hrest, fun g => ?_⟩
    rw [List.foldl_cons, hget, hstep]
    by_cases hgk : g = k
    · subst hgk
      simp [hk]
    · simp [hgk]

/-! ## FORCE SOURCE and RELEASE FORCE -/

/-- R178: a follower that is JOINED or DISCOVERING. -/
theorem notLeader_iff : s.notLeader = true ↔ s.gang.role = .follower ∧ (s.gang.state = .joined ∨ s.gang.state = .discovering) := by
  simp only [notLeader, joined, discovering, Bool.or_eq_true, Bool.and_eq_true, beq_iff_eq, ← and_or_left]

/-- R77: a group's record after a force to `x`. -/
def forced (s : State) (x : Source) (u : Urgency) (hard : Bool) (g : Fin 8) (y : Group) : Group :=
  let lv := (s.ctl.policies.get g).operatorLevel
  if y.st.current = x then { y.drop .operator with h := lv }
  else { y.latch .operator { target := some x, urgency := u, level := lv, hard := hard, latched := s.framer.count } with h := 0 }

/-- R78: a group's record after a release. -/
def released (y : Group) : Group := { y.drop .operator with h := 0 }

theorem forceGroup_eq {t : State} (ht : t = { s with ctl := { s.ctl with groups := t.ctl.groups } }) (x : Source) (u : Urgency) (hard : Bool)
    (g : Fin 8) :
    t.forceGroup x u hard g
      = { s with ctl := { s.ctl with groups := t.ctl.groups.set g (s.forced x u hard g (t.ctl.groups.get g)) } } := by
  obtain ⟨v, rfl⟩ : ∃ v, t = { s with ctl := { s.ctl with groups := v } } := ⟨_, ht⟩
  by_cases hon : (v.get g).st.current = x
  · simp only [forced, if_pos hon]
    exact if_pos hon
  · simp only [forced, if_neg hon]
    exact if_neg hon

theorem releaseGroup_eq {t : State} (ht : t = { s with ctl := { s.ctl with groups := t.ctl.groups } }) (g : Fin 8) :
    t.releaseGroup g = { s with ctl := { s.ctl with groups := t.ctl.groups.set g (released (t.ctl.groups.get g)) } } := by
  obtain ⟨v, rfl⟩ : ∃ v, t = { s with ctl := { s.ctl with groups := v } } := ⟨_, ht⟩
  rfl

theorem forced_same (s : State) (x : Source) (u : Urgency) (hard : Bool) (g : Fin 8) (y : Group) :
    y.SameButOperator (s.forced x u hard g y) := by
  simp only [forced]
  repeat' split
  · exact y.drop_operator_same _
  · exact y.latch_operator_same _ _

theorem ownForceSource_of_follower (hf : s.notLeader = true) (gs : List (Fin 8)) (t : Option Source) (u : Option Urgency) (hard : Bool) :
    s.ownForceSource h gs t u hard = replied s h 19 .notLeader .none := if_pos hf

theorem ownForceSource_of_groups (hf : ¬s.notLeader = true) {gs : List (Fin 8)} (hgs : gs ≠ []) (x : Source) (u : Urgency) (hard : Bool) :
    s.ownForceSource h gs (some x) (some u) hard
      = replied (gs.foldl (fun y k => y.forceGroup x u hard k) s) h 19 .done .none := by
  obtain ⟨g, m, rfl⟩ := List.exists_cons_of_ne_nil hgs
  exact if_neg hf

theorem ownReleaseForce_of_groups (hf : ¬s.notLeader = true) {gs : List (Fin 8)} (hgs : gs ≠ []) :
    s.ownReleaseForce h gs = replied (gs.foldl releaseGroup s) h 20 .done .none := by
  obtain ⟨g, m, rfl⟩ := List.exists_cons_of_ne_nil hgs
  exact if_neg hf

end State

/-- Settles O50: the walk over the named groups writes each one's record once. -/
theorem operatorRequestsActOnTheirGroups : Obligations.OperatorRequestsActOnTheirGroups := by
  intro s h gs x u hard hgs follows asked
  have hfollows : s.notLeader = true ↔ follows := State.notLeader_iff
  refine ⟨fun hr => ⟨fun hf => ?_, fun hf hnil => ?_, fun hf hsome => ?_⟩, fun hr => ⟨fun hf => ?_, fun hf hnil => ?_, fun hf hsome => ?_⟩⟩
  · exact exec_owner (q := .forceSource gs (some x) (some u) hard) hr (if_pos (hfollows.mpr hf))
  · subst hnil
    exact exec_owner (q := .forceSource [] (some x) (some u) hard) hr (if_neg (mt hfollows.mp hf))
  · obtain ⟨hrest, hget⟩ := State.foldl_groups (s := s) (s.forced x u hard) (fun _ g ht => State.forceGroup_eq ht x u hard g) hgs (t := s) rfl
    refine ⟨(gs.foldl (fun y k => y.forceGroup x u hard k) s).ctl.groups, ?_, fun g => ?_⟩
    · rw [← hrest]
      exact exec_owner (q := .forceSource gs (some x) (some u) hard) hr (State.ownForceSource_of_groups (mt hfollows.mp hf) hsome x u hard)
    · rw [hget g]
      by_cases hg : g ∈ gs
      · rw [if_pos hg]
        obtain ⟨hst, hhealth, hrevert, hplaced⟩ := State.forced_same s x u hard g (s.ctl.groups.get g)
        refine ⟨fun hout => absurd hg hout, fun _ hon => ?_, fun _ hoff => ?_, hst, hhealth, hrevert, hplaced⟩
        · rw [State.forced, if_pos hon]
          exact ⟨Group.drop_op _, rfl⟩
        · rw [State.forced, if_neg hoff]
          exact ⟨rfl, Group.latch_op _ _⟩
      · rw [if_neg hg]
        exact ⟨fun _ => rfl, fun hin => absurd hin hg, fun hin => absurd hin hg, rfl, rfl, rfl, rfl⟩
  · exact exec_owner (q := .releaseForce gs) hr (if_pos (hfollows.mpr hf))
  · subst hnil
    exact exec_owner (q := .releaseForce []) hr (if_neg (mt hfollows.mp hf))
  · obtain ⟨hrest, hget⟩ := State.foldl_groups (s := s) (fun _ => State.released) (fun _ g ht => State.releaseGroup_eq ht g) hgs (t := s) rfl
    refine ⟨(gs.foldl State.releaseGroup s).ctl.groups, ?_, fun g => ⟨fun hout => ?_, fun hin => ?_⟩⟩
    · rw [← hrest]
      exact exec_owner (q := .releaseForce gs) hr (State.ownReleaseForce_of_groups (mt hfollows.mp hf) hsome)
    · rw [hget g, if_neg hout]
    · rw [hget g, if_pos hin]
      obtain ⟨hst, hhealth, hrevert, hplaced⟩ := (s.ctl.groups.get g).drop_operator_same 0
      exact ⟨Group.drop_op _, rfl, hst, hhealth, hrevert, hplaced⟩

end Sys2Proof.Machine
end


section
/-! PROOFS, family other. WRITE GROUP (R5, R64, R143). -/

namespace Sys2Proof.Machine

theorem Group.drop_revert (x : Group) :
    (x.drop .revert).revert = none ∧ (x.drop .revert).op = x.op ∧ (x.drop .revert).h = x.h ∧ (x.drop .revert).st = x.st := by
  simp [Group.drop, Group.settleTimer_eq, Group.setSlot]

namespace State

variable {s : State} {h : CtlHead} {g : Fin 8} {p : GroupPolicy}

theorem policyInRange_iff (g : Fin 8) (p : GroupPolicy) : policyInRange g.val p = true ↔
    1 ≤ p.fallback.length ∧ p.fallback.length ≤ 3 ∧ p.fallback.Nodup ∧ .mute ∉ p.fallback
      ∧ p.operatorLevel ≤ 3 ∧ p.healthLevel ≤ 3 ∧ p.revertLevel ≤ 3 ∧ p.fade ≤ 32 ∧ p.deferral ≤ 40000
      ∧ 400 ≤ p.revertSettle ∧ p.revertSettle ≤ 400000
      ∧ (g = 0 → 4 ≤ p.dSet ∧ p.dSet ≤ 32 ∧ 4 ≤ p.startGrace ∧ p.startGrace ≤ 400 ∧ 2 ≤ p.gangLead ∧ p.gangLead ≤ 16) := by
  simp only [policyInRange, fallbackValid, Bool.and_eq_true, decide_eq_true_eq, Bool.or_eq_true, Bool.not_eq_true', bne_iff_ne, ne_eq,
    Fin.val_eq_zero_iff, List.contains_eq_mem, decide_eq_false_iff_not, and_assoc, Decidable.imp_iff_not_or]

/-- R64: a level of 0 keeps the previous one, and the reply says so. -/
theorem levelsKept_iff : levelsKept p = true ↔ p.operatorLevel = 0 ∨ p.healthLevel = 0 ∨ p.revertLevel = 0 := by
  simp [levelsKept, or_assoc]

theorem mergePolicy_fin (g : Fin 8) (old new : GroupPolicy) : mergePolicy g.val old new =
    { new with
      operatorLevel := keptLevel old.operatorLevel new.operatorLevel
      healthLevel := keptLevel old.healthLevel new.healthLevel
      revertLevel := keptLevel old.revertLevel new.revertLevel
      hardAllowed := if g = 0 then new.hardAllowed else old.hardAllowed
      dSet := if g = 0 then new.dSet else old.dSet
      startGrace := if g = 0 then new.startGrace else old.startGrace
      gangLead := if g = 0 then new.gangLead else old.gangLead } := by
  simp only [mergePolicy, Fin.val_eq_zero_iff]

/-! ## The three parts of a taken WRITE GROUP -/

theorem ownWriteGroup_of_inRange (hok : policyInRange g.val p = true) :
    s.ownWriteGroup h g.val p = replied (((s.setPolicy g (mergePolicy g.val (s.policy g) p)).dropRevert g).loadD g.val) h 17
      (if levelsKept p then .kept else .done) .none := by
  have hin : ¬(7 < g.val ∨ policyInRange g.val p = false) := by simp [hok]; omega
  have hfin : Fin.ofNat 8 g.val = g := Fin.ext (Nat.mod_eq_of_lt g.isLt)
  simp only [ownWriteGroup, if_neg hin, hfin]
  rfl

theorem dropRevert_of_other (h : (s.policy g).fallback.head? ≠ some (s.group g).st.current) : s.dropRevert g = s := if_neg h

theorem dropRevert_of_first (h : (s.policy g).fallback.head? = some (s.group g).st.current) :
    s.dropRevert g = s.setGroup g ((s.group g).drop .revert) := if_pos h

theorem dropRevert_eq_groups (s : State) (g : Fin 8) :
    s.dropRevert g = { s with ctl := { s.ctl with groups := (s.dropRevert g).ctl.groups } } := by
  unfold dropRevert
  (repeat' split) <;> rfl

theorem loadD_eq (s : State) (n : Nat) :
    s.loadD n = { s with align := { s.align with prog := { s.align.prog with
      dInForce := if n = 0 ∧ s.align.prog.state = .stopped then s.ctl.policies.g0.dSet else s.align.prog.dInForce } } } := by
  by_cases hload : n = 0 ∧ s.align.prog.state = .stopped
  · rw [if_pos hload]
    exact if_pos hload
  · rw [if_neg hload]
    exact if_neg hload

end State

/-- Settles O49: the policy is merged, the REVERT dropped and D loaded, each in its own part of the state. -/
theorem writeGroupReplacesThePolicy : Obligations.WriteGroupReplacesThePolicy := by
  intro s h g p hr old kept v inRange
  have hrange : policyInRange g.val p = true ↔ inRange := State.policyInRange_iff g p
  refine ⟨fun hbad => ?_, fun n hn => exec_owner (q := .writeGroup n p) hr (if_pos (.inl hn)), fun hok => ?_⟩
  · exact exec_owner (q := .writeGroup g.val p) hr (if_pos (.inr (Bool.eq_false_iff.mpr (mt hrange.mp hbad))))
  have hv : State.mergePolicy g.val (s.policy g) p = v := State.mergePolicy_fin g (s.policy g) p
  let w := s.setPolicy g v
  have hx := State.dropRevert_eq_groups w g
  have hpolicy : w.policy g = v := Oct.get_set_same _ _ _
  have hcode : (if State.levelsKept p then Completion.kept else .done)
      = if p.operatorLevel = 0 ∨ p.healthLevel = 0 ∨ p.revertLevel = 0 then .kept else .done := by simp only [State.levelsKept_iff]
  have hgroups : ((w.dropRevert g).loadD g.val).ctl.groups = (w.dropRevert g).ctl.groups := by rw [State.loadD_eq]
  refine ⟨(w.dropRevert g).loadD g.val, ?_, ?_, fun hother => ?_, fun hfirst => ?_, ?_, ?_⟩
  · rw [← hcode]
    exact exec_owner (q := .writeGroup g.val p) hr ((State.ownWriteGroup_of_inRange (hrange.mpr hok)).trans (by rw [hv]))
  · rw [State.loadD_eq, hx]
    rfl
  · rw [hgroups, State.dropRevert_of_other (by rw [hpolicy]; exact hother)]
    rfl
  · rw [hgroups, State.dropRevert_of_first (by rw [hpolicy]; exact hfirst)]
    obtain ⟨hrevert, hop, hh, hst⟩ := Group.drop_revert (s.ctl.groups.get g)
    simp only [State.setGroup_ctl, Oct.get_set_same]
    exact ⟨hrevert, hop, hh, hst, fun j hj => Oct.get_set_other _ _ _ _ hj⟩
  · rw [State.loadD_eq, hx]
    by_cases hg : g = 0
    · subst hg
      simp [w, State.setPolicy, v, Oct.set]
    · simp [hg, w, State.setPolicy]
  · rw [State.loadD_eq, hx]
    rfl

end Sys2Proof.Machine
end


section
/-! PROOFS, family other. What the shares of an output period after the program's leave of the program record (R14 to R16, R86): whether it
plays, its position, and, while it is STOPPED, its due slot. -/

namespace Sys2Proof.Machine

/-- The program plays on, or stays STOPPED, at the same position. -/
structure SamePlay (s t : State) : Prop where
  stopped : t.align.prog.state = .stopped ↔ s.align.prog.state = .stopped
  pos : t.align.prog.pos = s.align.prog.pos
  due : s.align.prog.state = .stopped → t.align.prog.due = s.align.prog.due

namespace SamePlay

variable {s t u : State}

theorem of_prog (h : t.align.prog = s.align.prog) : SamePlay s t := by
  constructor <;> simp [h]

theorem refl (s : State) : SamePlay s s := of_prog rfl

theorem trans (hst : SamePlay s t) (htu : SamePlay t u) : SamePlay s u where
  stopped := htu.stopped.trans hst.stopped
  pos := htu.pos.trans hst.pos
  due h := (htu.due (hst.stopped.mpr h)).trans (hst.due h)

/-- A step that leaves the program record, before or after. -/
theorem after (hst : SamePlay s t) (h : u.align.prog = t.align.prog) : SamePlay s u := hst.trans (of_prog h)

theorem of_start (htu : SamePlay t u) (h : t.align.prog = s.align.prog) : SamePlay s u := (of_prog h).trans htu

end SamePlay

namespace State

variable {s : State} {g : Fin 8}

theorem timingChange_samePlay (s : State) (old new : Source) (hard : Bool) : SamePlay s (s.timingChange old new hard) := by
  by_cases hsame : old = new
  · rw [timingChange, if_pos hsame]
    exact .refl s
  cases hplay : s.playing with
  | false =>
    simp only [timingChange, if_neg hsame, hplay, if_true, timingStopped]
    exact ⟨Iff.rfl, rfl, fun _ => rfl⟩
  | true =>
    have hlive : s.align.prog.state ≠ .stopped := by simpa [playing_eq] using hplay
    have hgo : ¬s.playing = false := by simp [hplay]
    simp only [timingChange, if_neg hsame, if_neg hgo]
    split
    · exact ⟨by simp [timingFree, hlive], by simp [timingFree, prog], fun h => absurd h hlive⟩
    · repeat' split
      · exact ⟨by simp [timingHard, hlive], by simp [timingHard, prog], fun h => absurd h hlive⟩
      · exact ⟨by simp [timingSeamless, hlive], by simp [timingSeamless, prog], fun h => absurd h hlive⟩

theorem place_samePlay (s : State) (g : Fin 8) (st : GroupState) (hard : Bool) : SamePlay s (s.place g st hard) := by
  simp only [place]
  repeat' split
  · exact .of_start (timingChange_samePlay _ _ _ _) rfl
  · exact .of_prog rfl

theorem carry_samePlay (s : State) (g : Fin 8) (o : Source) (st : GroupState) (hard : Bool) (n : Nat) (w : SwitchInfo) (tell : Bool) :
    SamePlay s (s.carry g o st hard n w tell) := by
  refine .after (place_samePlay s g st hard) ?_
  simp only [carry]
  (repeat' split) <;> simp

theorem mutedFault_samePlay (s : State) (g : Fin 8) (left t : Source) : SamePlay s (s.mutedFault g left t) := .of_prog (by simp)

theorem raise_samePlay (s : State) (k : FaultKind) (o : FaultOrigin) (d : FaultDetail) : SamePlay s (s.raise k o d) := .of_prog (by simp)

theorem flagEmergency_samePlay (s : State) (g : Fin 8) : SamePlay s (s.flagEmergency g) := .of_prog rfl

theorem carryRequest_samePlay (s : State) (g : Fin 8) (c : Cause) (q : SwitchReq) (t : Source) (atLimit : Bool) :
    SamePlay s (s.carryRequest g c q t atLimit) := by
  have hcarry (o : Source) (st : GroupState) (hard : Bool) (n : Nat) (w : SwitchInfo) :
      SamePlay s ((s.setGroup g ((s.group g).setSlot c none)).carry g o st hard n w true) := .of_start (carry_samePlay _ _ _ _ _ _ _ _) (by simp)
  simp only [carryRequest]
  split
  · exact (hcarry _ _ _ _ _).trans (mutedFault_samePlay _ _ _ _)
  · exact hcarry _ _ _ _ _

theorem fadeDone_samePlay (s : State) (g : Fin 8) : SamePlay s (s.fadeDone g) := by
  simp only [fadeDone]
  split
  · exact .refl s
  · exact place_samePlay _ _ _ _

theorem fadeProgress_samePlay (s : State) (g : Fin 8) : SamePlay s (s.fadeProgress g) := by
  simp only [fadeProgress]
  split
  · exact .refl s
  · repeat' split
    · exact fadeDone_samePlay s g
    · exact .refl s

theorem fadeToThird_samePlay (s : State) (g : Fin 8) (o d : Source) (n : Nat) (start : Word) (c : Cause) (q : SwitchReq) (t : Source) :
    SamePlay s (s.fadeToThird g o d n start c q t) := by
  simp only [fadeToThird]
  exact .of_start (carry_samePlay _ _ _ _ _ _ _ _) (by simp)

theorem fadeFailed_samePlay (s : State) (g : Fin 8) (o d : Source) (c : Cause) : SamePlay s (s.fadeFailed g o d c) := by
  simp only [fadeFailed]
  exact (carry_samePlay _ _ _ _ _ _ _ _).trans (mutedFault_samePlay _ _ _ _)

theorem fadeReturn_samePlay (s : State) (g : Fin 8) (o d : Source) (n : Nat) (start : Word) (c : Cause) :
    SamePlay s (s.fadeReturn g o d n start c) := carry_samePlay _ _ _ _ _ _ _ _

theorem cutShort_samePlay (s : State) (g : Fin 8) (o d : Source) (c : Cause) : SamePlay s (s.cutShort g o d c) :=
  carry_samePlay _ _ _ _ _ _ _ _

theorem placedCarry_samePlay (s : State) (g : Fin 8) (p : Placed) (outcome : Option SwitchOutcome) (tell : Bool) :
    SamePlay s (s.placedCarry g p outcome tell) := carry_samePlay _ _ _ _ _ _ _ _

theorem destinationFailed_samePlay (s : State) (g : Fin 8) (o d : Source) (n : Nat) (start : Word) (ret : Bool) (c : Cause) :
    SamePlay s (s.destinationFailed g o d n start ret c) := by
  simp only [destinationFailed]
  split
  · exact .of_start (fadeToThird_samePlay _ _ _ _ _ _ _ _ _) (by simp)
  · repeat' split
    · exact .of_start (fadeReturn_samePlay _ _ _ _ _ _ _) (by simp)
    · exact .of_start (fadeFailed_samePlay _ _ _ _ _) (by simp)

theorem fadeWatch_samePlay (s : State) (g : Fin 8) : SamePlay s (s.fadeWatch g).1 := by
  simp only [fadeWatch]
  split
  · exact .refl s
  · repeat' split
    · exact destinationFailed_samePlay _ _ _ _ _ _ _ _
    · exact cutShort_samePlay _ _ _ _ _
    · exact .refl s

theorem serve_samePlay (s : State) (g : Fin 8) (reachedNow switched : Bool) (l : List (Cause × SwitchReq)) :
    SamePlay s (s.serve g reachedNow switched l) := by
  induction l generalizing s with
  | nil => exact .refl s
  | cons x m ih =>
    simp only [serve]
    split
    · exact ih s
    · repeat' split
      · exact .of_prog (by simp)
      · exact .refl s
      · exact carryRequest_samePlay _ _ _ _ _ _
      · exact .of_start (ih _) (by simp)
      · exact ih s

theorem serveFading_samePlay (s : State) (g : Fin 8) (o d : Source) (n : Nat) (start : Word) (reachedNow switched : Bool)
    (l : List (Cause × SwitchReq)) : SamePlay s (s.serveFading g o d n start reachedNow switched l) := by
  induction l generalizing s with
  | nil => exact .refl s
  | cons x m ih =>
    simp only [serveFading]
    repeat' split
    · exact ih s
    · exact .of_start (ih _) (by simp)
    · exact .of_start (carry_samePlay _ _ _ _ _ _ _ _) (by simp)
    · exact .of_start (carry_samePlay _ _ _ _ _ _ _ _) (by simp)
    · exact ih s

theorem service_samePlay (s : State) (g : Fin 8) (reachedNow switched : Bool) : SamePlay s (s.service g reachedNow switched) := by
  simp only [service]
  split
  · exact serve_samePlay _ _ _ _ _
  · exact serveFading_samePlay _ _ _ _ _ _ _ _ _

theorem placedJudge_samePlay (s : State) (g : Fin 8) (p : Placed) : SamePlay s (s.placedJudge g p) := by
  have hmove : SamePlay s (s.placedMove g p) := .of_prog (by simp)
  simp only [placedJudge]
  split
  · exact hmove
  · repeat' split
    · exact placedCarry_samePlay _ _ _ _ _
    · exact placedCarry_samePlay _ _ _ _ _
    · exact hmove

theorem placedStep_samePlay (s : State) (g : Fin 8) (p : Placed) (cueChanged : Bool) : SamePlay s (s.placedStep g p cueChanged) := by
  have hreopen : (s.placedReopen g p cueChanged).align.prog = s.align.prog := by simp
  simp only [placedStep]
  repeat' split
  · exact .of_prog (by simp)
  · exact .of_prog hreopen
  · exact .of_start (placedJudge_samePlay _ _ _) hreopen

theorem placement_samePlay (s : State) (g : Fin 8) (cueChanged : Bool) : SamePlay s (s.placement g cueChanged) := by
  simp only [placement]
  split
  · exact .refl s
  · exact placedStep_samePlay _ _ _ _
  · repeat' split
    · exact .of_prog (by simp)
    · exact .refl s

theorem ownGroup_samePlay (s : State) (g : Fin 8) (candidate cueChanged : Bool) : SamePlay s (s.ownGroup g candidate cueChanged) := by
  simp only [ownGroup]
  refine ((((fadeProgress_samePlay s g).trans (fadeWatch_samePlay _ g)).after ?_).trans (service_samePlay _ g _ _)).trans
    (placement_samePlay _ g cueChanged)
  simp

theorem joinedWatch_samePlay (s : State) (g : Fin 8) : SamePlay s (s.joinedWatch g) := by
  simp only [joinedWatch]
  split
  · repeat' split
    · simp only [emergency]
      split
      · exact .refl s
      · exact ((carry_samePlay _ _ _ _ _ _ _ _).trans (mutedFault_samePlay _ _ _ _)).trans (flagEmergency_samePlay _ _)
    · exact .refl s
  · repeat' split
    · exact (destinationFailed_samePlay _ _ _ _ _ _ _ _).trans (flagEmergency_samePlay _ _)
    · exact (cutShort_samePlay _ _ _ _ _).trans (flagEmergency_samePlay _ _)
    · exact .refl s

theorem gangSwitch_samePlay (s : State) (g : Fin 8) (w : Waiting) (late : Bool) : SamePlay s (s.gangSwitch g w late) := by
  simp only [gangSwitch]
  split
  · (repeat' split) <;> exact carry_samePlay _ _ _ _ _ _ _ _
  · (repeat' split) <;> exact carry_samePlay _ _ _ _ _ _ _ _

theorem gangApply_samePlay (s : State) (g : Fin 8) (w : Waiting) (passed : Bool) : SamePlay s (s.gangApply g w passed) := by
  have hswitch (late : Bool) : SamePlay s ((s.applied g w).gangSwitch g w late) := .of_start (gangSwitch_samePlay _ _ _ _) rfl
  simp only [gangApply]
  repeat' split
  · exact .of_prog rfl
  · exact (hswitch _).trans (raise_samePlay _ _ _ _)
  · exact hswitch _

theorem joinedService_samePlay (s : State) (g : Fin 8) : SamePlay s (s.joinedService g) := by
  simp only [joinedService]
  split
  · exact .refl s
  · split
    · exact .refl s
    · exact gangApply_samePlay _ _ _ _
    · exact gangApply_samePlay _ _ _ _

theorem groupStep_samePlay (candidate cueChanged : Bool) (s : State) (g : Fin 8) : SamePlay s (groupStep candidate cueChanged s g) := by
  simp only [groupStep]
  repeat' split
  · exact (((fadeProgress_samePlay s g).trans (joinedWatch_samePlay _ g)).after (by simp)).trans (joinedService_samePlay _ g)
  · exact .refl s
  · exact ownGroup_samePlay _ _ _ _

theorem controllerPeriod_samePlay (s : State) (candidate cueChanged : Bool) : SamePlay s (s.controllerPeriod candidate cueChanged) :=
  List.foldlRecOn allGroups (groupStep candidate cueChanged) (motive := fun t => SamePlay s t) (.of_prog (by simp))
    fun _ ht g _ => ht.trans (groupStep_samePlay candidate cueChanged _ g)

end State

end Sys2Proof.Machine
end


section
/-! PROOFS, family other. What the store's share of an output period leaves in the output framer: it may add completions at the end of a
port's queue, and no more (R169, R179). -/

namespace Sys2Proof.Machine

/-- The framer of `t` is that of `s`, with completions added at the ends of the queues. -/
structure OnlyCompletes (s t : State) : Prop where
  framer : t.framer = { s.framer with holders := t.framer.holders }
  short : ∀ p, (t.framer.holders.get p).short = (s.framer.holders.get p).short
  completion : ∀ p, (s.framer.holders.get p).completion <+: (t.framer.holders.get p).completion

namespace OnlyCompletes

variable {s t u : State}

theorem of_framer (h : t.framer = s.framer) : OnlyCompletes s t := ⟨by rw [h], fun _ => by rw [h], fun _ => by simp only [h, List.prefix_refl]⟩

theorem refl (s : State) : OnlyCompletes s s := of_framer rfl

theorem trans (hst : OnlyCompletes s t) (htu : OnlyCompletes t u) : OnlyCompletes s u where
  framer := by rw [htu.framer, hst.framer]
  short p := (htu.short p).trans (hst.short p)
  completion p := (hst.completion p).trans (htu.completion p)

theorem after (hst : OnlyCompletes s t) (h : u.framer = t.framer) : OnlyCompletes s u := hst.trans (of_framer h)

theorem of_start (htu : OnlyCompletes t u) (h : t.framer = s.framer) : OnlyCompletes s u := (of_framer h).trans htu

end OnlyCompletes

namespace State

variable {s : State}

theorem complete_only (s : State) (p : CtlPort) (code : Completion) : OnlyCompletes s (s.complete p code) := by
  simp only [complete]
  split
  · exact .refl s
  · refine ⟨rfl, fun q => ?_, fun q => ?_⟩
    · by_cases hq : q = p
      · subst hq
        simp [holders, setHolders, setService]
      · simp [holders, setHolders, setService, hq]
    · by_cases hq : q = p
      · subst hq
        simp [holders, setHolders, setService]
      · simp [holders, setHolders, setService, hq]

theorem answerWriter_only (s : State) (code : Completion) : OnlyCompletes s (s.answerWriter code) := by
  simp only [answerWriter]
  split
  · exact complete_only _ _ _
  · exact .refl s

theorem clipExhausted_only (s : State) (l : Nat) : OnlyCompletes s (s.clipExhausted l) := by
  simp only [clipExhausted]
  repeat' split
  · exact .of_start (answerWriter_only _ _) (by simp)
  · exact .of_framer (by simp)

theorem relocateStep1_only (s : State) (j : CopyJob) : OnlyCompletes s (s.relocateStep1 j) := by
  simp only [relocateStep1]
  split
  · exact .of_framer rfl
  · split
    · exact clipExhausted_only _ _
    · exact .of_framer rfl

theorem relocate_only (s : State) (l p k : Nat) (kind : CopyKind) : OnlyCompletes s (s.relocate l p k kind) :=
  .of_start (relocateStep1_only _ _) (by simp)

theorem bufferEmptied_only (s : State) : OnlyCompletes s s.bufferEmptied := by
  simp only [bufferEmptied]
  repeat' split
  · exact .of_start (answerWriter_only _ _) rfl
  · exact .of_framer rfl
  · exact .of_framer rfl

theorem sealDone_only (s : State) : OnlyCompletes s s.sealDone := .after (answerWriter_only s .done) rfl

theorem clipSwitch_only (s : State) (j : CopyJob) (target : Nat) : OnlyCompletes s (s.clipSwitch j target) := by
  simp only [clipSwitch]
  split
  · exact .of_start (bufferEmptied_only _) rfl
  · exact .of_framer rfl

theorem clipPageDone_only (s : State) (p k : Nat) (ok : Bool) : OnlyCompletes s (s.clipPageDone p k ok) := by
  simp only [clipPageDone]
  split
  · repeat' split
    · exact clipSwitch_only _ _ _
    · exact .of_framer rfl
    · exact .of_start (relocateStep1_only _ _) (by simp)
  · repeat' split
    · exact bufferEmptied_only s
    · exact relocate_only _ _ _ _ _
  · exact .refl s

theorem saveEnd_only (s : State) (v : SaveJob) (code : Completion) : OnlyCompletes s (s.saveEnd v code) :=
  .of_start (complete_only _ _ _) rfl

theorem settingsPageDone_only (s : State) (k : Nat) (ok : Bool) : OnlyCompletes s (s.settingsPageDone k ok) := by
  simp only [settingsPageDone]
  split
  · exact .refl s
  · repeat' split
    · exact .of_start (saveEnd_only _ _ _) (by simp)
    · exact .of_framer (by simp)
    · exact .of_start (saveEnd_only _ _ _) (by simp)

theorem sealMarkDone_only (s : State) (p : Nat) (ok : Bool) : OnlyCompletes s (s.sealMarkDone p ok) := by
  simp only [sealMarkDone]
  repeat' split
  · exact sealDone_only s
  · exact relocate_only _ _ _ _ _
  · exact .refl s

theorem retireMarkDone_only (s : State) (j : Job) : OnlyCompletes s (s.retireMarkDone j) := by
  simp only [retireMarkDone]
  repeat' split
  · exact .of_start (sealDone_only _) rfl
  · exact .of_framer rfl

theorem programDone_only (s : State) (x : EngineStep) (ok : Bool) : OnlyCompletes s (s.programDone x ok) := by
  unfold programDone
  dsimp only
  split
  · exact .of_framer (by simp)
  split
  · split
    · exact .of_framer (by simp)
    · exact .of_start (clipPageDone_only _ _ _ _) rfl
  · exact .of_start (sealMarkDone_only _ _ _) rfl
  · exact .of_start (retireMarkDone_only _ _) rfl
  · exact .of_start (settingsPageDone_only _ _ _) rfl
  · exact .of_framer rfl

theorem clipErased_only (s : State) (p : Nat) : OnlyCompletes s (s.clipErased p) := by
  simp only [clipErased]
  split
  · exact .of_start (relocateStep1_only _ _) rfl
  · exact .of_framer rfl

theorem eraseDone_only (s : State) (x : EngineStep) : OnlyCompletes s (s.eraseDone x) := by
  simp only [eraseDone]
  split
  · repeat' split
    · exact .of_framer (by simp)
    · exact .of_framer (by simp)
    · exact .of_start (clipErased_only _ _) rfl
    · exact .of_start (clipErased_only _ _) rfl
  all_goals exact .of_framer (by simp)

theorem clipTimedOut_only (s : State) (p : Nat) (orphan : Bool) : OnlyCompletes s (s.clipTimedOut p orphan) := by
  simp only [clipTimedOut]
  repeat' split
  · exact .of_framer (by simp)
  · exact .of_start (relocateStep1_only _ _) (by simp)
  · exact .of_framer (by simp)

theorem saveTimedOut_only (s : State) : OnlyCompletes s s.saveTimedOut := by
  simp only [saveTimedOut]
  split
  · exact .of_start (saveEnd_only _ _ _) (by simp)
  · exact .of_framer (by simp)

theorem eraseTimedOut_only (s : State) (x : EngineStep) : OnlyCompletes s (s.eraseTimedOut x) := by
  simp only [eraseTimedOut]
  split
  · exact .of_start (clipTimedOut_only _ _ _) rfl
  · exact .of_start (saveTimedOut_only _) rfl
  · exact .of_framer (by simp)
  · exact .of_framer (by simp)

theorem programPeriodDone_only (s : State) (ok : Bool) : OnlyCompletes s (s.programPeriodDone ok) := by
  simp only [programPeriodDone]
  split
  · exact .refl s
  · repeat' split
    · exact programDone_only _ _ _
    · exact .refl s

theorem erasePeriod_only (s : State) : OnlyCompletes s s.erasePeriod := by
  simp only [erasePeriod]
  split
  case h_1 => exact .refl s
  case h_2 x _ =>
    generalize (if x.suspended then x.progress else x.progress + 1) = n
    split
    · exact .refl s
    split
    · exact eraseDone_only _ _
    split
    · exact eraseTimedOut_only _ _
    · exact .of_framer rfl

theorem clipRetry_only (s : State) : OnlyCompletes s s.clipRetry := by
  simp only [clipRetry]
  split
  · repeat' split
    · exact relocateStep1_only _ _
    · exact .refl s
  · exact .refl s

theorem storePeriod_only (s : State) (i : PeriodInput) : OnlyCompletes s (s.storePeriod i) := by
  have hstep : OnlyCompletes s (((s.resumeErase.programPeriodDone i.verified).playerRead i.playerEcc).erasePeriod) :=
    ((OnlyCompletes.of_start (programPeriodDone_only s.resumeErase i.verified) (by simp)).after (by simp)).trans (erasePeriod_only _)
  have hretry := hstep.trans (clipRetry_only _)
  simp only [storePeriod]
  exact hretry.after (by simp)

end State

end Sys2Proof.Machine
end


section
/-! PROOFS, family other. One output period taken apart (R172): what each part of it hands to the next. -/

namespace Sys2Proof.Machine

namespace State

variable {s : State}

/-! ## The program's share keeps the cue of the period before (R7) -/

theorem holdClear_prevCue (s : State) : s.holdClear.align.prog.prevCue = s.align.prog.prevCue := by
  simp only [holdClear]
  (repeat' split) <;> rfl

theorem anchorPeriod_prevCue (s : State) (k : Word) : (s.anchorPeriod k).align.prog.prevCue = s.align.prog.prevCue := by
  simp only [anchorPeriod]
  split
  · rfl
  · (repeat' split) <;> rfl

theorem gracePeriod_prevCue (s : State) : s.gracePeriod.align.prog.prevCue = s.align.prog.prevCue := by
  unfold gracePeriod
  split
  · rfl
  split
  case isFalse => rfl
  case isTrue =>
    split
    · split <;> rfl
    · split
      · rw [graceExpire_align]
      · rfl

theorem stoppedPeriod_prevCue (s : State) (k : Word) : (s.stoppedPeriod k).align.prog.prevCue = s.align.prog.prevCue := by
  simp only [stoppedPeriod]
  repeat' split
  · exact anchorPeriod_prevCue s k
  · exact (gracePeriod_prevCue _).trans (anchorPeriod_prevCue s k)

theorem enterStopped_prevCue (s : State) : s.enterStopped.align.prog.prevCue = s.align.prog.prevCue := by
  rw [enterStopped_prog]
  rfl

theorem runningPeriod_prevCue (s : State) : s.runningPeriod.align.prog.prevCue = s.align.prog.prevCue := by
  simp only [runningPeriod]
  split
  · rfl
  · split
    · rfl
    · split
      · exact enterStopped_prevCue _
      · rfl

theorem freePeriod_prevCue (s : State) : s.freePeriod.align.prog.prevCue = s.align.prog.prevCue := by
  simp only [freePeriod]
  split
  · split
    · exact enterStopped_prevCue _
    · rfl
  · rfl

theorem programPeriod_prevCue (s : State) (k : Word) : (s.programPeriod k).align.prog.prevCue = s.align.prog.prevCue := by
  have hclear : s.dropAnchorSlot.holdClear.align.prog.prevCue = s.align.prog.prevCue := holdClear_prevCue _
  simp only [programPeriod, cueEvent_frame]
  split
  · exact (stoppedPeriod_prevCue _ _).trans hclear
  · exact (runningPeriod_prevCue _).trans hclear
  · exact (freePeriod_prevCue _).trans hclear

/-! ## The parts of a period -/

/-- After the program's and the step tracker's shares. -/
def periodProgram (s : State) : State := s.clockPeriod.programShare.stepPeriod

/-- After the health monitors' shares and the release of the bypass. -/
def periodHealth (s : State) : State := ((s.periodProgram.healthPeriod .a).healthPeriod .b).bypassPeriod

/-- After the pending commit. -/
def periodCommit (s : State) : State := s.periodHealth.commitPeriod (!s.playing)

/-- The output frame of the period, and the state in which it was formed. -/
def periodFrame (s : State) (i : PeriodInput) : Option MainFrame × State := (s.periodCommit.switchAndForm i.assembleFirst).2

/-- After the switches and the frame's notices. -/
def periodSwitch (s : State) (i : PeriodInput) : State :=
  s.periodCommit.controllerShare.noticeShare (s.periodFrame i).1 (s.periodFrame i).2

/-- After the player's, the store's and the gang agent's shares: the state whose slots are sent. -/
def periodShares (s : State) (i : PeriodInput) : State := (s.periodSwitch i).laterShares i

theorem period_eq (s : State) (i : PeriodInput) :
    s.period i = (((s.periodShares i).sendSlots (s.periodFrame i).1).keepCue).runPeriod i.imageGood := by
  unfold period periodShares periodSwitch periodFrame switchAndForm
  cases i.assembleFirst <;> rfl

theorem outputPeriod_eq (hon : s.framer.run ≠ .off) (hreset : s.framer.resetReq = none) (i : PeriodInput) : s.outputPeriod i = s.period i := by
  have hkept : s.requestedReset i.strap = s := by simp only [requestedReset, hreset]
  rw [outputPeriod, if_neg hon, hkept]

/-! ## The framer of a period -/

theorem periodProgram_framer (s : State) : s.periodProgram.framer = s.clockPeriod.framer := by simp [periodProgram]

theorem periodCommit_framer (s : State) : s.periodCommit.framer =
    { s.clockPeriod.framer with bypass := if s.framer.run = .running then false else s.framer.bypass } := by
  have hhealth : (((s.periodProgram.healthPeriod .a).healthPeriod .b)).framer = s.clockPeriod.framer := by simp [periodProgram]
  simp only [periodCommit, periodHealth, commitPeriod_frame, bypassPeriod, hhealth]
  split
  next hrun =>
    have hruns : s.framer.run = .running := hrun
    simp [hruns]
  next hrun =>
    have hwaits : s.framer.run ≠ .running := hrun
    rw [if_neg hwaits, hhealth]
    rfl

theorem periodSwitch_framer (s : State) (i : PeriodInput) : (s.periodSwitch i).framer = s.periodCommit.framer := by simp [periodSwitch]

/-! ## The program record of a period -/

theorem acting_of_framer {t : State} (h : t.framer.run = s.framer.run) : t.acting = s.acting := by simp [acting, h]

theorem periodProgram_prog (hact : s.acting = true) : s.periodProgram.align.prog = (s.clockPeriod.programPeriod s.nextSlot).align.prog := by
  have hacting : s.clockPeriod.acting = true := hact
  have hslot : s.clockPeriod.framer.periodSlot = some s.nextSlot := rfl
  simp only [periodProgram, stepPeriod_frame, programShare, if_pos hacting, hslot]

theorem periodCommit_prog (s : State) : s.periodCommit.align.prog = s.periodProgram.align.prog := by simp [periodCommit, periodHealth]

theorem periodShares_samePlay (s : State) (i : PeriodInput) : SamePlay s.periodCommit (s.periodShares i) := by
  have hswitch : SamePlay s.periodCommit s.periodCommit.controllerShare := by
    simp only [controllerShare]
    repeat' split
    · exact controllerPeriod_samePlay _ _ _
    · exact .refl _
  exact hswitch.after (by simp [periodShares, periodSwitch])

theorem keepCue_samePlay (s : State) : SamePlay s s.keepCue := ⟨Iff.rfl, rfl, fun _ => rfl⟩

/-! ## The run state of a period -/

theorem rowPeriod_framer (s : State) (n : Fin 3) : (s.rowPeriod n).framer = s.framer := by
  simp only [rowPeriod]
  (repeat' split) <;> simp [rowLost]

theorem becomeJoined_framer (s : State) : s.becomeJoined.framer = s.framer ∨
    (s.framer.run = .gangWait ∧ s.becomeJoined.framer = { s.framer with run := .running }) := by
  have hadopt (t : State) (g : Fin 8) : (t.adoptGroup g).framer = t.framer := by
    simp only [adoptGroup]
    split
    · rfl
    · (repeat' split) <;> rfl
  have hwalk (t : State) : (allGroups.foldl adoptGroup t).framer = t.framer :=
    List.foldlRecOn allGroups adoptGroup (motive := fun u => u.framer = t.framer) rfl fun _ hu g _ => (hadopt _ g).trans hu
  simp only [becomeJoined, leaveWait, hwalk]
  split
  next hrun => exact .inr ⟨hrun, by simp [clearTables]⟩
  next => exact .inl (by simp [hwalk, clearTables])

/-- R157: the gang agent's share may end GANG WAIT, and leaves the framer as it is otherwise. -/
theorem gangPeriod_framer (s : State) : s.gangPeriod.framer = s.framer ∨
    (s.framer.run = .gangWait ∧ s.gangPeriod.framer = { s.framer with run := .running }) := by
  have hsilence : s.silencePeriod.framer = s.framer := by
    simp only [silencePeriod]
    (repeat' split) <;> rfl
  simp only [gangPeriod]
  split
  · exact .inl (by simp only [rowPeriod_framer])
  · simp only [followerPeriod]
    repeat' split
    · rw [← hsilence]
      exact becomeJoined_framer _
    · exact .inl ((becomeIsolated_framer_eq _).trans hsilence)
    · exact .inl hsilence

/-- What the later shares leave of the framer: a run state that GANG WAIT may have left, and completions. -/
structure SharesFramer (s t : State) : Prop where
  completes : OnlyCompletes s { t with framer := { t.framer with run := s.framer.run } }
  run : t.framer.run = s.framer.run ∨ (s.framer.run = .gangWait ∧ t.framer.run = .running)

theorem laterShares_framer (s : State) (i : PeriodInput) : SharesFramer s (s.laterShares i) := by
  simp only [laterShares]
  split
  case isFalse => exact ⟨.refl s, .inl rfl⟩
  have hstore : OnlyCompletes s (s.playerPeriod.storePeriod i) := .of_start (storePeriod_only _ _) (by simp)
  have hrun : (s.playerPeriod.storePeriod i).framer.run = s.framer.run := by rw [hstore.framer]
  obtain hsame | ⟨hwait, hleft⟩ := gangPeriod_framer (s.playerPeriod.storePeriod i)
  · refine ⟨hstore.after ?_, .inl (by rw [hsame, hrun])⟩
    simp only [hsame, ← hrun]
  · refine ⟨hstore.after ?_, .inr ⟨hrun ▸ hwait, by rw [hleft]⟩⟩
    simp only [hleft, ← hrun]

theorem sendRig_run (s : State) (r : Rig) (p : CtlPort) : (s.sendRig r p).framer.run = s.framer.run := rfl

theorem sendOutput_run (s : State) (p : CtlPort) (f : Option MainFrame) : (s.sendOutput p f).framer.run = s.framer.run := by
  cases f <;> rfl

theorem sendUp_run (s : State) : s.sendUp.framer.run = s.framer.run := rfl

theorem sendDown_run (s : State) : s.sendDown.framer.run = s.framer.run := rfl

theorem resetSent_run (s : State) : s.resetSent.framer.run = s.framer.run := rfl

theorem sendSlots_run (s : State) (f : Option MainFrame) : (s.sendSlots f).framer.run = s.framer.run := by
  simp only [sendSlots, resetSent_run, sendDown_run, sendUp_run, sendOutput_run, sendRig_run]

theorem periodShares_framer (s : State) (i : PeriodInput) : SharesFramer s.periodCommit (s.periodShares i) := by
  obtain ⟨hcompletes, hrun⟩ := laterShares_framer (s.periodSwitch i) i
  rw [periodSwitch_framer] at hcompletes hrun
  exact ⟨hcompletes.of_start (by rw [periodSwitch_framer]), hrun⟩

theorem periodShares_acting (hact : s.acting = true) (i : PeriodInput) : (s.periodShares i).acting = true := by
  have hcommit : s.periodCommit.framer.run = s.framer.run := by rw [periodCommit_framer]; rfl
  obtain ⟨-, hrun | ⟨-, hrun⟩⟩ := periodShares_framer s i
  · rw [acting_of_framer (hrun.trans hcommit), hact]
  · simp [acting, hrun]

/-- What the run state's own share leaves from GANG WAIT on. -/
theorem runPeriod_of_acting (hact : s.acting = true) (whole : Bool) :
    (s.runPeriod whole).align = s.align ∧ (s.runPeriod whole).routes = s.routes ∧ (s.runPeriod whole).cues = s.cues := by
  obtain hrun | hrun := (acting_iff s).mp hact
  · simp [runPeriod, hrun]
  · simp [runPeriod, hrun]

/-- What an output period from GANG WAIT on leaves of the state that its shares have made. -/
theorem period_of_acting (hact : s.acting = true) (i : PeriodInput) :
    (s.period i).align = (s.periodShares i).keepCue.align ∧ (s.period i).routes = (s.periodShares i).routes
      ∧ (s.period i).cues = (s.periodShares i).cues := by
  let u := ((s.periodShares i).sendSlots (s.periodFrame i).1).keepCue
  have hu : u.acting = true := by
    rw [acting_of_framer (t := u) (s := s.periodShares i) (by simp [u, sendSlots_run])]
    exact periodShares_acting hact i
  obtain ⟨halign, hroutes, hcues⟩ := runPeriod_of_acting hu i.imageGood
  rw [period_eq]
  refine ⟨halign.trans ?_, hroutes.trans (by simp [u]), hcues.trans (by simp [u])⟩
  simp [u, keepCue, prog]

theorem period_samePlay (hact : s.acting = true) (i : PeriodInput) : SamePlay s.periodCommit (s.period i) := by
  obtain ⟨halign, -, -⟩ := period_of_acting hact i
  exact ((periodShares_samePlay s i).trans (keepCue_samePlay _)).after (by rw [halign])

end State

end Sys2Proof.Machine
end


section
/-! PROOFS, family other. WRITE ROUTE, COMMIT ROUTES and the commit at an output period (R99 to R102). -/

namespace Sys2Proof.Machine

namespace State

variable {s : State} {h : CtlHead}

/-! ## The requests (R100, R101) -/

theorem routeValid_iff (e : RouteEntry) : routeValid e = true ↔
    e.group ≤ 7 ∧ (∀ c, e.rigA = some c → c ≤ 63) ∧ (∀ c, e.rigB = some c → c ≤ 63) ∧ ∀ k, e.track = some k → k ≤ 3 := by
  obtain ⟨group, rigA, rigB, track⟩ := e
  cases rigA <;> cases rigB <;> cases track <;> simp [routeValid, and_assoc]

theorem firstBadRoute_eq_none {l : List RouteEntry} (hvalid : ∀ e ∈ l, routeValid e = true) : firstBadRoute l = none := by
  simp only [firstBadRoute, List.findIdx?_eq_none_iff]
  intro e he
  simp [hvalid e he]

theorem firstBadRoute_eq_some {l : List RouteEntry} {i : Nat} {e : RouteEntry} (hat : l[i]? = some e) (hbad : ¬routeValid e = true)
    (hbefore : ∀ (j : Nat) d, j < i → l[j]? = some d → routeValid d = true) : firstBadRoute l = some i := by
  obtain ⟨hi, hentry⟩ := List.getElem?_eq_some_iff.mp hat
  rw [firstBadRoute, List.findIdx?_eq_some_iff_getElem]
  refine ⟨hi, by simpa [hentry] using hbad, fun j hj => ?_⟩
  simp [hbefore j l[j] hj (List.getElem?_eq_getElem (Nat.lt_trans hj hi))]

theorem ownWriteRoute_of_inRange {first : Nat} {l : List RouteEntry} (hlow : 1 ≤ l.length) (hhigh : l.length ≤ 32) (hend : first + l.length ≤ 64) :
    s.ownWriteRoute h first l.length l = match firstBadRoute l with
      | some i => replied s h 14 .outOfRange (.field i)
      | none => replied { s with routes := { s.routes with shadow := writeEntries s.routes.shadow first l } } h 14 .done .none := by
  rw [ownWriteRoute, if_neg (by simp), if_neg (by omega)]
  rfl

/-! ## The commit (R102) -/

theorem periodCommit_routes (s : State) :
    s.periodCommit.routes = if s.periodHealth.commitDue (!s.playing) = true then s.routes.commitNow else s.routes := by
  have hhealth : s.periodHealth.routes = s.routes := by simp [periodHealth, periodProgram]
  simp only [periodCommit, commitPeriod]
  repeat' split
  · simp [hhealth]
  · exact hhealth

theorem periodShares_routes (s : State) (i : PeriodInput) : (s.periodShares i).routes = s.periodCommit.routes := by
  simp [periodShares, periodSwitch]

theorem periodHealth_prevCue (hact : s.acting = true) : s.periodHealth.align.prog.prevCue = s.align.prog.prevCue := by
  have hprog : s.periodHealth.align.prog = s.periodProgram.align.prog := by simp [periodHealth]
  rw [hprog, periodProgram_prog hact, programPeriod_prevCue]
  rfl

/-- R7, R102: the program cue of the period is the one that its end finds. -/
theorem periodHealth_cueDiffers (hact : s.acting = true) (i : PeriodInput) : s.periodHealth.cueDiffers = true ↔
    ((s.period i).align.prog.state ≠ .stopped ∧ (s.period i).align.prog.pos.cue ≠ s.align.prog.prevCue) := by
  obtain ⟨hstopped, hpos, -⟩ := period_samePlay hact i
  have hprog : s.periodCommit.align.prog = s.periodHealth.align.prog := by simp [periodCommit]
  rw [hprog] at hstopped hpos
  rw [hpos, Ne, hstopped, ← periodHealth_prevCue hact]
  simp [cueDiffers, playing_eq, prog]

theorem period_routes (hact : s.acting = true) (i : PeriodInput) :
    (s.period i).routes = if s.periodHealth.commitDue (!s.playing) = true then s.routes.commitNow else s.routes := by
  obtain ⟨-, hroutes, -⟩ := period_of_acting hact i
  rw [hroutes, periodShares_routes, periodCommit_routes]

theorem periodHealth_routes (s : State) : s.periodHealth.routes = s.routes := by simp [periodHealth, periodProgram]

end State

/-- Settles O48: a request is its owner's, by the ranges of its entries, and the commit is due by what the period's program share leaves. -/
theorem routeRequestsWriteTheirOwn : Obligations.RouteRequestsWriteTheirOwn := by
  have hvalid := State.routeValid_iff
  refine ⟨fun s h => ⟨fun hr first l => ⟨fun n hn => ?_, fun hrange => ?_, fun hlow hhigh hend => ⟨fun hall => ?_, fun i e hat hbad hbefore => ?_⟩⟩,
    fun hr => ⟨fun t => exec_owner (q := .commitRoutes (some t)) hr rfl, exec_owner (q := .commitRoutes none) hr rfl⟩⟩, fun s i hrun hreset => ?_⟩
  · exact exec_owner (q := .writeRoute first n l) hr (if_pos hn)
  · exact exec_owner (q := .writeRoute first l.length l) hr ((if_neg (by simp)).trans (if_pos hrange))
  · refine exec_owner (q := .writeRoute first l.length l) hr ((State.ownWriteRoute_of_inRange hlow hhigh hend).trans ?_)
    rw [State.firstBadRoute_eq_none fun e he => (hvalid e).mpr (hall e he)]
    rfl
  · refine exec_owner (q := .writeRoute first l.length l) hr ((State.ownWriteRoute_of_inRange hlow hhigh hend).trans ?_)
    rw [State.firstBadRoute_eq_some hat (fun hok => hbad ((hvalid e).mp hok)) fun j d hj hd => (hvalid d).mpr (hbefore j d hj hd)]
  intro committed
  have hact : s.acting = true := (State.acting_iff s).mpr hrun
  have hon : s.framer.run ≠ .off := by
    intro hoff
    simp [hoff] at hrun
  refine ⟨s.period i, congrArg Host.Outcome.next (State.outputPeriod_eq hon hreset i), ?_⟩
  rw [State.period_routes hact]
  have hroutes : s.periodHealth.routes.commit = s.routes.commit := by rw [State.periodHealth_routes]
  have hcommitted : s.routes.commitNow = committed := rfl
  refine ⟨fun hnone => ?_, fun hnow => ?_, fun hcue => ?_⟩
  · simp [State.commitDue, hroutes, hnone]
  · simp [State.commitDue, hroutes, hnow, hcommitted]
  · simp only [State.commitDue, hroutes, hcue, Bool.or_eq_true, State.periodHealth_cueDiffers hact i, hcommitted]
    simp [State.playing_eq]

end Sys2Proof.Machine
end


section
/-! PROOFS, family other. The program at an output period, in RUNNING and in FREE, and a change of the timing source (R5, R10 to R16, R20, R86). -/

namespace Sys2Proof.Machine

namespace State

variable {s : State}

/-! ## What every row of the program's share starts from -/

/-- R5, R11: dropping the anchor's slot and clearing the stop hold leave the rest of the unit. -/
theorem holdClear_eq (s : State) : ∃ hold, s.dropAnchorSlot.holdClear = s.setProg { s.prog with eSlot := none, stopHold := hold } := by
  simp only [holdClear]
  repeat' split
  · exact ⟨_, rfl⟩
  · exact ⟨_, rfl⟩

theorem cueEvent_of_stopped (h : s.align.prog.state = .stopped) : s.cueEvent = s := by
  have hdiffers : s.cueDiffers = false := by simp [cueDiffers, playing_eq, h]
  simp [cueEvent, hdiffers]

theorem applyStaged_staged (m : CueMap) : m.applyStaged.staged = none := by
  simp only [CueMap.applyStaged]
  split
  · assumption
  · split <;> rfl

/-- R11: what an entry into STOPPED leaves of the program and of the cue map. -/
structure Stopped (t : State) : Prop where
  state : t.align.prog.state = .stopped
  pos : t.align.prog.pos = { cue := 0, pos := 0 }
  due : t.align.prog.due = none
  inUse : t.cues.inUse = none
  staged : t.cues.staged = none

theorem enterStopped_stopped (s : State) : Stopped s.enterStopped.cueEvent := by
  have hstate : s.enterStopped.align.prog.state = .stopped := by rw [enterStopped_prog]; rfl
  rw [cueEvent_of_stopped hstate]
  refine ⟨hstate, ?_, ?_, ?_, ?_⟩
  · rw [enterStopped_prog]
    rfl
  · rw [enterStopped_prog]
    rfl
  · rw [enterStopped_cues]
  · rw [enterStopped_cues]
    exact applyStaged_staged _

/-! ## RUNNING (R10, R13) -/

/-- R10's stop, for a due slot `d`. -/
def stopsAt (x : AlignRig) (d : Word) : Bool := match x.stopMark with | some m => decide (0 ≤ Word.diff d m) | none => false

theorem stopDue_of_due {r : Rig} {d : Word} (hdue : s.align.prog.due = some d) : s.stopDue r = stopsAt (s.align.rigs.get r) d := by
  have hprog : s.prog.due = some d := hdue
  simp only [stopDue, hprog, stopsAt, rig]
  cases (s.align.rigs.get r).stopMark <;> rfl

theorem runningPeriod_of_due {r : Rig} {d : Word} (hset : s.align.prog.dueSet = false) (hdue : s.align.prog.due = some d)
    (htiming : s.ctl.groups.g0.st.current = r.source) :
    s.runningPeriod = if stopsAt (s.align.rigs.get r) (d + 1) = true then s.dueAdvance.enterStopped else s.dueAdvance.dueLookup r := by
  have hrig : s.dueAdvance.timingRig = some r := (timingRig_eq_some_iff _ r).mpr htiming
  have hkept : ¬s.prog.dueSet = true := by simp [prog, hset]
  have hnext : s.dueAdvance.align.prog.due = some (d + 1) := by simp [dueAdvance, prog, hdue]
  have hrigs : s.dueAdvance.align.rigs = s.align.rigs := rfl
  simp only [runningPeriod, if_neg hkept, hrig, stopDue_of_due hnext, hrigs]

/-- R13: the entry that the due slot finds. -/
def foundAt (x : AlignRig) (d : Word) : Option RingEntry := x.ring.find? (fun e => e.arrival == d)

theorem programNext_eq (p : ShowPos) (pending : Bool) (e : RingEntry) : programNext p pending (some e) =
    if pending = true ∨ (e.pos.cue ≠ p.cue ∧ e.pos.pos.toNat ≤ 3) then e.pos else ShowPos.succ p := by
  obtain ⟨⟨cue, pos⟩, arrival, channels, samples⟩ := e
  obtain ⟨pcue, ppos⟩ := p
  cases pending
  · simp only [programNext, ShowPos.succ, Bool.false_eq_true, if_false, false_or]
    by_cases hcue : cue = pcue
    · subst hcue
      by_cases hpos : pos = ppos + 1
      · simp [hpos]
      · simp
    · simp [hcue]
  · rfl

/-- The program's share in RUNNING, on a timing rig whose due slot was not just set. -/
theorem programPeriod_of_running {r : Rig} {d : Word} (hrun : s.align.prog.state = .running) (hset : s.align.prog.dueSet = false)
    (hdue : s.align.prog.due = some d) (htiming : s.ctl.groups.g0.st.current = r.source) (k : Word) :
    (stopsAt (s.align.rigs.get r) (d + 1) = true → Stopped (s.programPeriod k))
    ∧ (stopsAt (s.align.rigs.get r) (d + 1) = false → ∃ hold, (s.programPeriod k).align.prog = { s.align.prog with
        pos := programNext s.align.prog.pos s.align.prog.anchorPending (foundAt (s.align.rigs.get r) (d + 1)), due := some (d + 1)
        anchorPending := s.align.prog.anchorPending && (foundAt (s.align.rigs.get r) (d + 1)).isNone, eSlot := none, stopHold := hold }) := by
  obtain ⟨hold, hclear⟩ := holdClear_eq s
  have hstate : (s.setProg { s.prog with eSlot := none, stopHold := hold }).prog.state = .running := hrun
  have hrow := runningPeriod_of_due (s := s.setProg { s.prog with eSlot := none, stopHold := hold }) hset hdue htiming
  have hrigs : (s.setProg { s.prog with eSlot := none, stopHold := hold }).align.rigs = s.align.rigs := rfl
  simp only [programPeriod, hclear, hstate, hrow, hrigs]
  refine ⟨fun hstops => ?_, fun hgoes => ⟨hold, ?_⟩⟩
  · simp only [if_pos hstops]
    exact enterStopped_stopped _
  · simp only [hgoes, Bool.false_eq_true, if_false, cueEvent_frame]
    simp [dueLookup, dueAdvance, dueEntry, prog, hdue, rig, AlignRig.bySlot, foundAt]

/-! ## FREE (R15) -/

/-- R15: the state with the position and the due slot one on. -/
def freeNext (s : State) (d : Word) : State := s.setProg { s.prog with pos := ShowPos.succ s.align.prog.pos, due := some (d + 1) }

theorem freePeriod_of_due {d : Word} (hdue : s.align.prog.due = some d) : s.freePeriod =
    if s.policyInUse.length = some (ShowPos.succ s.align.prog.pos).pos.toNat then (s.freeNext d).enterStopped else s.freeNext d := by
  have hnext : s.dueAdvance.setProg { s.dueAdvance.prog with pos := ShowPos.succ s.dueAdvance.prog.pos } = s.freeNext d := by
    simp [dueAdvance, prog, hdue, freeNext, setProg, setAlign]
  have hpolicy : (s.freeNext d).policyInUse = s.policyInUse := rfl
  have hpos : (s.freeNext d).prog.pos = ShowPos.succ s.align.prog.pos := rfl
  simp only [freePeriod, hnext, hpolicy, hpos]
  cases s.policyInUse.length with
  | none => simp
  | some n => simp [eq_comm]

theorem programPeriod_of_free {d : Word} (hfree : s.align.prog.state = .free) (hdue : s.align.prog.due = some d) (k : Word) :
    (s.policyInUse.length ≠ some (ShowPos.succ s.align.prog.pos).pos.toNat → ∃ hold, (s.programPeriod k).align.prog = { s.align.prog with
        pos := ShowPos.succ s.align.prog.pos, due := some (d + 1), eSlot := none, stopHold := hold })
    ∧ (s.policyInUse.length = some (ShowPos.succ s.align.prog.pos).pos.toNat → Stopped (s.programPeriod k)) := by
  obtain ⟨hold, hclear⟩ := holdClear_eq s
  have hstate : (s.setProg { s.prog with eSlot := none, stopHold := hold }).prog.state = .free := hfree
  have hrow := freePeriod_of_due (s := s.setProg { s.prog with eSlot := none, stopHold := hold }) hdue
  have hpolicy : (s.setProg { s.prog with eSlot := none, stopHold := hold }).policyInUse = s.policyInUse := rfl
  have hpos : (s.setProg { s.prog with eSlot := none, stopHold := hold }).align.prog.pos = s.align.prog.pos := rfl
  simp only [programPeriod, hclear, hstate, hrow, hpolicy, hpos]
  refine ⟨fun hgoes => ⟨hold, ?_⟩, fun hends => ?_⟩
  · simp only [if_neg hgoes, cueEvent_frame]
    rfl
  · simp only [if_pos hends]
    exact enterStopped_stopped _

/-! ## The output period -/

theorem periodProgram_cues (hact : s.acting = true) : s.periodProgram.cues = (s.clockPeriod.programPeriod s.nextSlot).cues := by
  have hacting : s.clockPeriod.acting = true := hact
  have hslot : s.clockPeriod.framer.periodSlot = some s.nextSlot := rfl
  simp only [periodProgram, stepPeriod_frame, programShare, if_pos hacting, hslot]

theorem period_cues (hact : s.acting = true) (i : PeriodInput) : (s.period i).cues = (s.clockPeriod.programPeriod s.nextSlot).cues := by
  obtain ⟨-, -, hcues⟩ := period_of_acting hact i
  have hshares : (s.periodShares i).cues = s.periodProgram.cues := by simp [periodShares, periodSwitch, periodCommit, periodHealth]
  rw [hcues, hshares, periodProgram_cues hact]

theorem period_samePlay_program (hact : s.acting = true) (i : PeriodInput) :
    SamePlay (s.clockPeriod.programPeriod s.nextSlot) (s.period i) :=
  (period_samePlay hact i).of_start (by rw [periodCommit_prog, periodProgram_prog hact])

theorem Stopped.after_period (hact : s.acting = true) (h : Stopped (s.clockPeriod.programPeriod s.nextSlot)) (i : PeriodInput) :
    Stopped (s.period i) := by
  obtain ⟨hstopped, hpos, hdue⟩ := period_samePlay_program hact i
  have hcues := period_cues hact i
  exact ⟨hstopped.mpr h.state, hpos.trans h.pos, (hdue h.state).trans h.due, hcues ▸ h.inUse, hcues ▸ h.staged⟩

/-! ## A change of the timing source (R14 to R16, R20) -/

/-- R20: the step record that the old timing rig is left with. -/
theorem leaveTiming_rigs {q : Rig} (x : StepRec) : (s.leaveTiming q.source x).align.rigs =
    s.align.rigs.set q { s.align.rigs.get q with step := if (s.links.get q.port).state = .up then x else Reset.step } := by
  have hrig : Source.rig q.source = some q := (Source.rig_eq_some_iff _ q).mpr rfl
  simp only [leaveTiming, hrig, isUp_iff]
  rfl

/-- R5: a due slot moved on by a skew takes the skew off the running delay. -/
theorem diff_add_ofInt {k d : Word} {n : Int} (hlow : 0 ≤ Word.diff k d) (hhigh : Word.diff k d ≤ 63) (hn : -63 ≤ n) (hn' : n ≤ 63) :
    Word.diff k (d + BitVec.ofInt 32 n) = Word.diff k d - n := by
  have hsub : BitVec.sub k (d + BitVec.ofInt 32 n) = (BitVec.sub k d) - BitVec.ofInt 32 n := by
    show k - (d + BitVec.ofInt 32 n) = k - d - BitVec.ofInt 32 n
    generalize BitVec.ofInt 32 n = x
    bv_omega
  have hskew : (BitVec.ofInt 32 n).toInt = n := by
    rw [BitVec.toInt_ofInt, Int.bmod_eq_of_le] <;> omega
  simp only [Word.diff] at hlow hhigh ⊢
  rw [hsub, BitVec.toInt_sub, hskew, Int.bmod_eq_of_le] <;> omega

theorem timingChange_of_stopped {old new : Source} (hne : old ≠ new) (hstop : s.align.prog.state = .stopped) (hard : Bool) :
    s.timingChange old new hard = s.timingStopped old := by
  have hplays : s.playing = false := by simp [playing_eq, hstop]
  simp only [timingChange, if_neg hne, if_pos hplays]

theorem timingChange_of_playing {old new : Source} (hne : old ≠ new) (hplay : s.align.prog.state ≠ .stopped) (hard : Bool) :
    s.timingChange old new hard = match Source.rig new with
      | none => s.timingFree old
      | some r => if hard = true ∨ (s.rig r).step.state = .outOfStep then s.timingHard old r else s.timingSeamless old r := by
  have hplays : ¬s.playing = false := by simp [playing_eq, hplay]
  exact (if_neg hne).trans (if_neg hplays)

theorem timingHard_delayE (h : s.align.prog.dInForce ≤ 32) (old : Source) (r : Rig) :
    (s.timingHard old r).delayE = (s.align.prog.dInForce : Int) := by
  have hslot (k : Word) : Word.diff k (k - BitVec.ofNat 32 s.align.prog.dInForce) = (s.align.prog.dInForce : Int) := by
    have hk := diff_add_ofNat (k := k - BitVec.ofNat 32 s.align.prog.dInForce) h
    rwa [BitVec.sub_add_cancel] at hk
  exact hslot _

theorem timingSeamless_prog {r : Rig} {n : Int} {d : Word} (hskew : (s.align.rigs.get r).step.lastSkew = some n) (hdue : s.align.prog.due = some d)
    (old : Source) : (s.timingSeamless old r).align.prog = { s.align.prog with state := .running, due := some (d + BitVec.ofInt 32 n) } := by
  simp [timingSeamless, prog, rig, hskew, hdue]

theorem timingSeamless_delayE {r : Rig} {n : Int} (hskew : (s.align.rigs.get r).step.lastSkew = some n) (hdue : s.align.prog.due.isSome = true)
    (hslot : s.framer.periodSlot.isSome = true) (hlow : 0 ≤ s.delayE) (hhigh : s.delayE ≤ 63) (hn : -63 ≤ n) (hn' : n ≤ 63) (old : Source) :
    (s.timingSeamless old r).delayE = s.delayE - n := by
  obtain ⟨d, hd⟩ := Option.isSome_iff_exists.mp hdue
  obtain ⟨k, hk⟩ : ∃ k, s.align.prog.eSlot.or s.framer.periodSlot = some k := Option.isSome_iff_exists.mp (by simp [hslot])
  have hbefore : s.delayE = Word.diff k d := by simp only [delayE, prog, hk, hd]
  have hprog : (s.timingSeamless old r).align.prog = { s.align.prog with state := .running, due := some (d + BitVec.ofInt 32 n) } :=
    timingSeamless_prog hskew hd old
  have hframer : (s.timingSeamless old r).framer = s.framer := by simp [timingSeamless]
  have hafter : (s.timingSeamless old r).delayE = Word.diff k (d + BitVec.ofInt 32 n) := by
    simp only [delayE, prog, hprog, hframer, hk]
  rw [hbefore] at hlow hhigh ⊢
  rw [hafter, diff_add_ofInt hlow hhigh hn hn']

end State

/-- Settles O25: the rows of the program's share, carried to the end of the period, and the rows of a change of the timing source. -/
theorem outputPeriodAdvancesTheProgram : Obligations.OutputPeriodAdvancesTheProgram := by
  refine ⟨fun s i r d k hrun hreset hstate hset hdue htiming => ?_, fun s d k hfree hdue => ?_, fun s old new hard hne => ?_⟩
  · intro stops next e
    have hact : s.acting = true := (State.acting_iff s).mpr hrun
    have hon : s.framer.run ≠ .off := by
      intro hoff
      simp [hoff] at hrun
    have hrow := State.programPeriod_of_running hstate hset hdue htiming k
    obtain ⟨hstops, hgoes⟩ := State.programPeriod_of_running (s := s.clockPeriod) hstate hset hdue htiming s.nextSlot
    refine ⟨⟨s.period i, congrArg Host.Outcome.next (State.outputPeriod_eq hon hreset i), fun hstop => ?_, fun hgo => ?_⟩, fun hgo => ?_⟩
    · obtain ⟨hstopped, hpos, hnodue, hinUse, hstaged⟩ := (hstops hstop).after_period hact i
      exact ⟨hstopped, hpos, hnodue, hinUse, hstaged⟩
    · obtain ⟨hold, hprog⟩ := hgoes hgo
      obtain ⟨-, hpos, -⟩ := State.period_samePlay_program hact i
      rw [hpos, hprog]
      show State.programNext s.align.prog.pos s.align.prog.anchorPending e = _
      clear_value e
      cases e with
      | none => rfl
      | some x => exact State.programNext_eq _ _ x
    · obtain ⟨hold, hprog⟩ := hrow.2 hgo
      rw [hprog]
      exact ⟨rfl, hstate, rfl, rfl⟩
  · intro next t
    obtain ⟨hgoes, hends⟩ := State.programPeriod_of_free hfree hdue k
    refine ⟨fun hlength => ?_, fun hlength => ?_⟩
    · obtain ⟨hold, hprog⟩ := hgoes hlength
      simp only [t, hprog]
      exact ⟨hfree, rfl, trivial, trivial⟩
    · obtain ⟨hstate, hpos, hnodue, hinUse, -⟩ := hends hlength
      exact ⟨hstate, hpos, hnodue, hinUse⟩
  · intro out t leaves
    refine ⟨fun hstop => ?_, fun hplay hfree => ?_, fun r hplay hrig => ?_⟩
    · have ht : t = s.timingStopped old := State.timingChange_of_stopped hne hstop hard
      simp only [leaves, ht]
      refine ⟨by simp [State.timingStopped, State.prog], ?_⟩
      rintro q rfl a rfl
      exact State.leaveTiming_rigs _
    · have ht : t = s.timingFree old := by
        refine (State.timingChange_of_playing hne hplay hard).trans ?_
        obtain rfl | rfl := hfree <;> rfl
      simp only [leaves, ht]
      refine ⟨by simp [State.timingFree, State.prog], ?_⟩
      rintro q rfl a rfl
      exact State.leaveTiming_rigs _
    · have hplays : t = if hard = true ∨ (s.rig r).step.state = .outOfStep then s.timingHard old r else s.timingSeamless old r := by
        refine (State.timingChange_of_playing hne hplay hard).trans ?_
        simp only [(Source.rig_eq_some_iff new r).mpr hrig]
      refine ⟨fun hhard => ?_, fun hsoft hin n hskew => ?_⟩
      · have ht : t = s.timingHard old r := hplays.trans (if_pos hhard)
        simp only [leaves, ht]
        refine ⟨by simp [State.timingHard, State.prog, State.rig], fun hd => State.timingHard_delayE hd old r, ?_⟩
        rintro q rfl a rfl
        exact State.leaveTiming_rigs _
      · have ht : t = s.timingSeamless old r := hplays.trans (if_neg (by simp [hsoft, State.rig, hin]))
        have hstep : inStepAt (-((s.rig r).step.lastSkew.getD 0)) = { state := .inStep, streak := 32, miss := 0, lastSkew := some (-n) } := by
          simp [State.rig, hskew, inStepAt]
        simp only [leaves, ht]
        refine ⟨by simp [State.timingSeamless, State.prog, State.rig, hskew],
          fun hd hslot hlow hhigh hn hn' => State.timingSeamless_delayE hskew hd hslot hlow hhigh hn hn' old, ?_⟩
        rintro q rfl a rfl
        rw [← hstep]
        exact State.leaveTiming_rigs _

end Sys2Proof.Machine
end


section
/-! PROOFS, family other. The gang agent (R145 to R148, R151, R155 to R157): ticks and reports taken, presence, and a follower that becomes
JOINED or ISOLATED. -/

namespace Sys2Proof.Machine

/-- A walk over distinct groups, each of whose steps changes its own group's part of what is walked. -/
theorem foldl_each {σ β : Type} {act : σ → Fin 8 → σ} {P : σ → Prop} {part : σ → Fin 8 → β} (f : Fin 8 → β → β)
    (hact : ∀ t k, P t → P (act t k) ∧ ∀ g, part (act t k) g = if g = k then f g (part t g) else part t g)
    {gs : List (Fin 8)} (hgs : gs.Nodup) {t : σ} (ht : P t) :
    P (gs.foldl act t) ∧ ∀ g, part (gs.foldl act t) g = if g ∈ gs then f g (part t g) else part t g := by
  induction gs generalizing t with
  | nil => exact ⟨ht, fun g => by simp⟩
  | cons k m ih =>
    obtain ⟨hk, hm⟩ := List.nodup_cons.mp hgs
    obtain ⟨hstep, hpart⟩ := hact t k ht
    obtain ⟨hrest, hget⟩ := ih hm hstep
    refine ⟨hrest, fun g => ?_⟩
    rw [List.foldl_cons, hget, hpart]
    by_cases hgk : g = k
    · subst hgk
      simp [hk]
    · simp [hgk]

theorem foldl_allGroups {σ β : Type} {act : σ → Fin 8 → σ} {P : σ → Prop} {part : σ → Fin 8 → β} (f : Fin 8 → β → β)
    (hact : ∀ t k, P t → P (act t k) ∧ ∀ g, part (act t k) g = if g = k then f g (part t g) else part t g) {t : σ} (ht : P t) :
    P (allGroups.foldl act t) ∧ ∀ g, part (allGroups.foldl act t) g = f g (part t g) := by
  have hall : ∀ g : Fin 8, g ∈ allGroups := by decide
  obtain ⟨hrest, hget⟩ := foldl_each f hact (gs := allGroups) (by decide) ht
  exact ⟨hrest, fun g => (hget g).trans (if_pos (hall g))⟩

theorem Three.get_set_other {α : Type} (p : Three α) (k j : Fin 3) (v : α) (h : j ≠ k) : (p.set k v).get j = p.get j := by
  match k, j, h with
  | 0, 0, h | 1, 1, h | 2, 2, h => exact absurd rfl h
  | 0, 1, _ | 0, 2, _ | 1, 0, _ | 1, 2, _ | 2, 0, _ | 2, 1, _ => rfl

namespace State

variable {s : State}

/-! ## Reports (R147, R148) -/

/-- R148: a row after the entry that a report brings for it, if any. -/
def rowAfter (old : ReportRow) : Option UnitEntry → ReportRow
  | some x => { present := true, silence := 0, last := some x, taken := true }
  | none => old

theorem rowEntry_get (x : Three ReportRow × List Nat) (e : UnitEntry) (n : Fin 3) :
    (rowEntry x e).1.get n = (if e.position = n.val + 1 ∧ x.2.contains e.position = false then rowAfter (x.1.get n) (some e) else x.1.get n)
    ∧ ((rowEntry x e).2.contains (n.val + 1) = (x.2.contains (n.val + 1) || e.position == n.val + 1)) := by
  simp only [rowEntry]
  split
  next htakes =>
    obtain ⟨hlow, hhigh, hnew⟩ := htakes
    split
    next hrow =>
      obtain ⟨hpos, -⟩ := hrow
      have hn : Fin.ofNat 3 (e.position - 1) = n := Fin.ext (by simp [hpos])
      simp [rowAfter, hpos]
    next hrow =>
      have hne : e.position ≠ n.val + 1 := fun h => hrow ⟨h, hnew⟩
      have hn : n ≠ Fin.ofNat 3 (e.position - 1) := fun h => hne (by rw [h]; simp; omega)
      refine ⟨Three.get_set_other _ _ _ _ hn, ?_⟩
      simp [Ne.symm hne, hne]
  next htakes =>
    have hrow : ¬(e.position = n.val + 1 ∧ x.2.contains e.position = false) := fun ⟨hpos, hnew⟩ => htakes ⟨by omega, by omega, hnew⟩
    refine ⟨(if_neg hrow).symm, ?_⟩
    by_cases hpos : e.position = n.val + 1
    · have hseen : x.2.contains e.position = true := by
        cases hnew : x.2.contains e.position with
        | true => rfl
        | false => exact absurd ⟨hpos, hnew⟩ hrow
      rw [← hpos, hseen, Bool.true_or]
    · simp [hpos]

theorem rowEntries_get (es : List UnitEntry) (x : Three ReportRow × List Nat) (n : Fin 3) :
    (es.foldl rowEntry x).1.get n =
      if x.2.contains (n.val + 1) = true then x.1.get n else rowAfter (x.1.get n) (es.find? (fun e => e.position == n.val + 1)) := by
  induction es generalizing x with
  | nil => simp [rowAfter]
  | cons e es ih =>
    obtain ⟨hget, hseen⟩ := rowEntry_get x e n
    rw [List.foldl_cons, ih, hget, hseen]
    by_cases hpos : e.position = n.val + 1
    · by_cases hin : n.val + 1 ∈ x.2 <;> simp [hpos, hin, rowAfter]
    · simp [hpos]

theorem takesReport_eq (hact : s.framer.run = .gangWait ∨ s.framer.run = .running) (hup : (s.links.get .gd).state = .up) (es : List UnitEntry) :
    s.takeReport .gd es = s.setGang (reportGang s.gang es) :=
  if_pos (by simp [takesReport, (acting_iff s).mpr hact, isUp_iff, hup])

theorem absenceAtHand_of {n : Fin 3} (hact : s.framer.run = .gangWait ∨ s.framer.run = .running) (hrole : s.gang.role = .leader)
    (hpresent : (s.gang.rows.get n).present = true) (htaken : (s.gang.rows.get n).taken = false)
    (hsilence : (s.gang.rows.get n).silence = 39) : s.absenceAtHand n = true := by
  simp [absenceAtHand, (acting_iff s).mpr hact, hrole, hpresent, htaken, hsilence, Config.gangCount]

end State

/-- Settles O31, by the role that takes the report; an absent unit's row is `rowLost`. -/
theorem reportTableFollowsReports : Obligations.ReportTableFollowsReports := by
  intro s hact
  refine ⟨fun hup hrole es => ?_, fun hup hrole es => ?_, fun hrole n hpresent htaken hsilence => ?_⟩
  · have hgang : State.reportGang s.gang es = { s.gang with below := es } := by simp only [State.reportGang, hrole]
    refine congrArg Host.Outcome.next ((State.takesReport_eq hact hup es).trans ?_)
    rw [hgang]
    rfl
  · have hgang : State.reportGang s.gang es = State.Gang.withSize { s.gang with rows := (es.foldl State.rowEntry (s.gang.rows, [])).1 } := by
      simp only [State.reportGang, hrole]
    refine ⟨_, congrArg Host.Outcome.next ((State.takesReport_eq hact hup es).trans (congrArg s.setGang hgang)), rfl, fun n => ?_, rfl⟩
    exact (State.rowEntries_get es (s.gang.rows, []) n).trans (if_neg (by simp))
  · have hrow : exec (.unitAbsent n) s = .next (s.rowLost n) :=
      congrArg Host.Outcome.next (if_pos (State.absenceAtHand_of hact hrole hpresent htaken hsilence))
    refine ⟨_, hrow, rfl, rfl, ?_, ?_⟩
    · exact State.raise_fault _ _ _ _
    · rw [State.rowLost, State.raise_eq_captured]
      rfl

theorem Oct.get_octNone {α : Type} (g : Fin 8) : (Reset.octNone α).get g = none := by
  match g with
  | 0 | 1 | 2 | 3 | 4 | 5 | 6 | 7 => rfl

theorem Oct.get_octFalse (g : Fin 8) : Reset.octFalse.get g = false := by
  match g with
  | 0 | 1 | 2 | 3 | 4 | 5 | 6 | 7 => rfl

namespace State

variable {s : State}

/-! ## JOINED and ISOLATED (R95, R146, R155, R156) -/

theorem clearTables_group (s : State) (g : Fin 8) : s.clearTables.ctl.groups.get g = (s.ctl.groups.get g).clearTable := Oct.get_map _ _ _

theorem clearTables_eligible (s : State) (g : Fin 8) (x : Source) : s.clearTables.eligible g x = s.eligible g x := by
  have hcurrent (k : Fin 8) : (s.clearTables.group k).st.current = (s.group k).st.current := by
    simp only [group, clearTables_group]
    rfl
  have hbed : s.clearTables.bedEligible g = s.bedEligible g := by
    simp only [bedEligible, hcurrent]
    rfl
  cases x with
  | mute => rfl
  | bed => simp only [eligible, hbed]
           rfl
  | a => rfl
  | b => rfl

/-- R156: the state that a follower's adoption starts from. -/
def joinStart (s : State) : State :=
  (s.setGang { s.gang with state := .joined, emergency := Reset.octFalse, waiting := Reset.octNone Waiting }).clearTables

/-- A unit that differs from `s` in its waiting entries and the order numbers applied alone. -/
def OnlyAdopts (s t : State) : Prop := t = { s with gang := { s.gang with waiting := t.gang.waiting, applied := t.gang.applied } }

/-- R156: a group's waiting entry and its order number after the adoption. -/
def adopted (s : State) (g : Fin 8) (p : Option Waiting × Option Byte) : Option Waiting × Option Byte :=
  match s.gang.received.get g with
  | none => p
  | some e =>
    if e.source = (s.group g).st.current then (none, some e.order)
    else (some (if s.eligible g (s.group g).st.current = true then s.adoptBoundary e
      else { entry := e, point := some s.prog.pos, urgency := .immediate }), p.2)

theorem adoptGroup_step {t : State} (ht : OnlyAdopts s t) (k : Fin 8) : OnlyAdopts s (t.adoptGroup k)
    ∧ ∀ g, ((t.adoptGroup k).gang.waiting.get g, (t.adoptGroup k).gang.applied.get g) =
      if g = k then s.adopted g (t.gang.waiting.get g, t.gang.applied.get g) else (t.gang.waiting.get g, t.gang.applied.get g) := by
  obtain ⟨w, a, rfl⟩ : ∃ w a, t = { s with gang := { s.gang with waiting := w, applied := a } } := ⟨_, _, ht⟩
  let u : State := { s with gang := { s.gang with waiting := w, applied := a } }
  have hreceived : u.gang.received = s.gang.received := rfl
  have hcurrent : (u.group k).st.current = (s.group k).st.current := rfl
  have heligible (x : Source) : u.eligible k x = s.eligible k x := rfl
  have hboundary (e : VecEntry) : u.adoptBoundary e = s.adoptBoundary e := rfl
  have hstep : OnlyAdopts s (u.adoptGroup k) := by
    simp only [adoptGroup]
    split
    · rfl
    · (repeat' split) <;> rfl
  refine ⟨hstep, fun g => ?_⟩
  by_cases hg : g = k
  · subst hg
    rw [if_pos rfl, adopted]
    show ((u.adoptGroup g).gang.waiting.get g, (u.adoptGroup g).gang.applied.get g) = _
    simp only [adoptGroup, hreceived, hcurrent, heligible, hboundary]
    cases s.gang.received.get g with
    | none => rfl
    | some e =>
      simp only
      (repeat' split) <;> simp [u] <;> rfl
  · rw [if_neg hg]
    show ((u.adoptGroup k).gang.waiting.get g, (u.adoptGroup k).gang.applied.get g) = _
    simp only [adoptGroup]
    split
    · rfl
    · (repeat' split) <;> simp [u, hg]

theorem adoption (s : State) : OnlyAdopts s (allGroups.foldl adoptGroup s)
    ∧ ∀ g, ((allGroups.foldl adoptGroup s).gang.waiting.get g, (allGroups.foldl adoptGroup s).gang.applied.get g)
      = s.adopted g (s.gang.waiting.get g, s.gang.applied.get g) :=
  foldl_allGroups (P := OnlyAdopts s) (part := fun t g => (t.gang.waiting.get g, t.gang.applied.get g)) s.adopted
    (fun _ k ht => adoptGroup_step ht k) rfl

theorem leaveWait_eq (hrun : s.framer.run = .gangWait ∨ s.framer.run = .running) :
    s.leaveWait = { s with framer := { s.framer with run := .running } } := by
  obtain hwait | hrunning := hrun
  · exact if_pos hwait
  · have hkept : s.leaveWait = s := if_neg (by simp [hrunning])
    rw [hkept, ← hrunning]

theorem becomeJoined_eq (hrun : s.framer.run = .gangWait ∨ s.framer.run = .running) :
    s.becomeJoined = { s with
      framer := { s.framer with run := .running }
      gang := { s.gang with state := .joined, emergency := Reset.octFalse, waiting := s.becomeJoined.gang.waiting,
                            applied := s.becomeJoined.gang.applied }
      ctl := { s.ctl with groups := s.ctl.groups.map Group.clearTable } } := by
  obtain ⟨honly, -⟩ := adoption s.joinStart
  have hframer : (allGroups.foldl adoptGroup s.joinStart).framer = s.framer := by rw [honly]; rfl
  have hleave : s.becomeJoined = { allGroups.foldl adoptGroup s.joinStart with framer := { s.framer with run := .running } } :=
    (leaveWait_eq (s := allGroups.foldl adoptGroup s.joinStart) (by rw [hframer]; exact hrun)).trans (by rw [hframer])
  obtain ⟨w, a, hadopted⟩ : ∃ w a, allGroups.foldl adoptGroup s.joinStart = { s.joinStart with gang := { s.joinStart.gang with waiting := w, applied := a } } :=
    ⟨_, _, honly⟩
  rw [hleave, hadopted]
  rfl

/-- R156: what the adoption leaves of a group's waiting entry and order number, in terms of the unit before it. -/
theorem becomeJoined_adopted (hrun : s.framer.run = .gangWait ∨ s.framer.run = .running) (g : Fin 8) :
    (s.becomeJoined.gang.waiting.get g, s.becomeJoined.gang.applied.get g) = s.adopted g (none, s.gang.applied.get g) := by
  obtain ⟨honly, hget⟩ := adoption s.joinStart
  have hgang : s.becomeJoined.gang = (allGroups.foldl adoptGroup s.joinStart).gang := by
    have hframer : (allGroups.foldl adoptGroup s.joinStart).framer = s.framer := by rw [honly]; rfl
    show (allGroups.foldl adoptGroup s.joinStart).leaveWait.gang = _
    rw [leaveWait_eq (by rw [hframer]; exact hrun)]
  have hnone : s.joinStart.gang.waiting.get g = none := Oct.get_octNone g
  have hcurrent : (s.joinStart.group g).st.current = (s.group g).st.current := by
    have hgroup : s.joinStart.group g = (s.group g).clearTable := clearTables_group _ g
    rw [hgroup]
    rfl
  have heligible (x : Source) : s.joinStart.eligible g x = s.eligible g x := clearTables_eligible (s.setGang _) g x
  have hboundary (e : VecEntry) : s.joinStart.adoptBoundary e = s.adoptBoundary e := rfl
  rw [hgang, hget, hnone]
  simp only [adopted, hcurrent, heligible, hboundary]
  rfl

end State

/-- Settles O32: a follower's two changes of gang state, each when its count reaches 40. -/
theorem followerJoinsAndIsolates : Obligations.FollowerJoinsAndIsolates := by
  intro s hact hrole cleared
  have hcleared (g : Fin 8) : (s.ctl.groups.map Group.clearTable).get g = (s.ctl.groups.get g).clearTable := Oct.get_map _ _ _
  refine ⟨fun hstate hrun => ?_, fun hjoined hsilence htick => ?_⟩
  · have hjoins : s.joins = true := by
      obtain hstate | hstate := hstate <;> simp [State.joins, (State.acting_iff s).mpr hact, hrole, hstate, hrun, Config.gangCount]
    have heq := State.becomeJoined_eq hact
    refine ⟨s.becomeJoined, congrArg Host.Outcome.next (if_pos hjoins), fun g => ⟨?_, ?_⟩, ?_, fun g => ?_, ?_⟩
    · rw [heq]
      exact Oct.get_octFalse g
    · rw [heq]
      exact hcleared g
    · rw [heq]
    · have hadopted := State.becomeJoined_adopted hact g
      simp only [State.adopted] at hadopted
      intro now pos
      cases hreceived : s.gang.received.get g with
      | none =>
        simp only [hreceived, Prod.mk.injEq] at hadopted
        exact hadopted
      | some e =>
        have hnow : (s.group g).st.current = now := rfl
        simp only [hreceived, hnow] at hadopted ⊢
        by_cases hsame : e.source = now
        · rw [if_pos hsame] at hadopted ⊢
          exact Prod.mk.inj hadopted
        · rw [if_neg hsame] at hadopted ⊢
          obtain ⟨hwaiting, happlied⟩ := Prod.mk.inj hadopted
          exact ⟨happlied, hwaiting⟩
    · rw [heq]
  · have hat : s.isolationAtHand = true := by
      simp [State.isolationAtHand, (State.acting_iff s).mpr hact, State.joined, hrole, hjoined, htick, hsilence, Config.gangCount]
    refine ⟨s.isolateNow, congrArg Host.Outcome.next (if_pos hat), fun g => ⟨Oct.get_octFalse g, hcleared g⟩, Oct.get_octNone, ?_, ?_⟩
    · exact State.becomeIsolated_fault_eq _
    · rw [State.isolateNow, State.becomeIsolated, State.raise_eq_captured]
      rfl

end Sys2Proof.Machine
end


section
/-! PROOFS, family other. A follower's ticks (R145, R151) and the waiting entry of a JOINED follower's group (R152 to R154). -/

namespace Sys2Proof.Machine

namespace State

variable {s : State}

/-! ## Ticks (R145, R151) -/

/-- A gang record that differs from `a` in its received and its waiting entries alone. -/
def OnlyReceives (a b : Gang) : Prop := b = { a with received := b.received, waiting := b.waiting }

/-- R151: a group's received and waiting entries after the entry of a tick. -/
def received (a : Gang) (t : Tick) (g : Fin 8) (p : Option VecEntry × Option Waiting) : Option VecEntry × Option Waiting :=
  let e := t.vector.get g
  (if entryChanged p.1 e = true then some e else p.1,
    if entryChanged p.1 e = true ∧ a.state = .joined then some { entry := e, point := some e.effective, urgency := e.urgency } else p.2)

theorem vectorEntry_step {a b : Gang} (t : Tick) (hb : OnlyReceives a b) (k : Fin 8) : OnlyReceives a (vectorEntry t b k)
    ∧ ∀ g, ((vectorEntry t b k).received.get g, (vectorEntry t b k).waiting.get g) =
      if g = k then received a t g (b.received.get g, b.waiting.get g) else (b.received.get g, b.waiting.get g) := by
  obtain ⟨x, w, rfl⟩ : ∃ x w, b = { a with received := x, waiting := w } := ⟨_, _, hb⟩
  constructor
  · simp only [vectorEntry]
    (repeat' split) <;> rfl
  · intro g
    by_cases hg : g = k
    · subst hg
      by_cases hnew : entryChanged (x.get g) (t.vector.get g) = true
      · by_cases hjoined : a.state = .joined <;> simp [vectorEntry, received, hnew, hjoined]
      · simp [vectorEntry, received, hnew]
    · simp only [vectorEntry]
      (repeat' split) <;> simp [hg]

/-- R145: the record as the tick finds it, its entries apart. -/
def tickStart (g : Gang) (t : Tick) : Gang :=
  { g with
    position := t.hop, size := t.size, leaderPos := t.leader,
    leaderPrevCue := if t.leader.cue = g.leaderPos.cue then g.leaderPrevCue else some g.leaderPos.cue,
    silence := 0, run := min Config.gangCount (g.run + 1), tickTaken := true, everTick := true,
    relay := if t.hop ≤ 2 then some { t with hop := t.hop + 1 } else none }

theorem tickGang_eq (g : Gang) (t : Tick) : OnlyReceives (tickStart g t) (tickGang g t)
    ∧ ∀ k, ((tickGang g t).received.get k, (tickGang g t).waiting.get k) = received (tickStart g t) t k (g.received.get k, g.waiting.get k) :=
  foldl_allGroups (P := OnlyReceives (tickStart g t)) (part := fun b k => (b.received.get k, b.waiting.get k)) (received (tickStart g t) t)
    (fun _ k hb => vectorEntry_step t hb k) (t := tickStart g t) rfl

theorem takesTick_eq_false {k : Tick} (h : s.gang.role = .leader ∨ k.hop = 0 ∨ 3 < k.hop ∨ (s.links.get .gu).state ≠ .up) :
    ¬s.takesTick .gu k = true := by
  intro htakes
  simp only [takesTick, Bool.and_eq_true, isUp_iff, beq_iff_eq, decide_eq_true_eq] at htakes
  obtain ⟨⟨⟨⟨⟨-, hup⟩, -⟩, hrole⟩, hlow⟩, hhigh⟩ := htakes
  obtain hleader | hzero | hfar | hdown := h
  · simp [hleader] at hrole
  · omega
  · omega
  · exact hdown hup

theorem takesTick_of {k : Tick} (hact : s.framer.run = .gangWait ∨ s.framer.run = .running) (hrole : s.gang.role = .follower) (hlow : 1 ≤ k.hop)
    (hhigh : k.hop ≤ 3) (hup : (s.links.get .gu).state = .up) : s.takesTick .gu k = true := by
  simp [takesTick, (acting_iff s).mpr hact, isUp_iff, hup, hrole, hlow, hhigh]

/-! ## The waiting entry (R152 to R154) -/

theorem leadsFollowers_of_follower (h : s.gang.role = .follower) : s.leadsFollowers = false := by simp [leadsFollowers, h]

theorem eligible_of_good {r : Rig} (hrole : s.gang.role = .follower) (hplay : s.align.prog.state ≠ .stopped)
    (hhealth : (s.health.get r).state = .healthy ∨ (s.health.get r).state = .suspect) (hstep : s.stepOf r ≠ .outOfStep) (g : Fin 8) :
    s.eligible g r.source = true := by
  have hplays : s.playing = true := by simp [playing_eq, hplay]
  have hgood : goodHealth (s.monitor r).state = true := by simpa [goodHealth, monitor] using hhealth
  have hrig : s.rigEligible r = true := by
    simp [rigEligible, hplays, ctlHealth, ctlStep, leadsFollowers_of_follower hrole, hgood, hstep]
  cases r <;> exact hrig

/-- R152: a JOINED follower's group that is SETTLED on an eligible rig has its waiting entry to serve alone. -/
theorem groupStep_of_joined {g : Fin 8} {r : Rig} {w : Waiting} {pt : ShowPos} (hrole : s.gang.role = .follower) (hstate : s.gang.state = .joined)
    (hst : (s.group g).st = .settled r.source) (hhealth : (s.health.get r).state = .healthy ∨ (s.health.get r).state = .suspect)
    (hstep : s.stepOf r ≠ .outOfStep) (hwaiting : s.gang.waiting.get g = some w) (hpoint : w.point = some pt) (candidate cueChanged : Bool) :
    groupStep candidate cueChanged s g = s.joinedService g := by
  have hjoined : s.joined = true := by simp [joined, hrole, hstate]
  have hsource : s.emergencySource g r.source = false := by
    have hrig : Source.rig r.source = some r := (Source.rig_eq_some_iff _ r).mpr rfl
    obtain hgood | hgood := hhealth <;> simp [emergencySource, hrig, monitor, hgood, hstep]
  have hprogress : s.fadeProgress g = s := by simp only [fadeProgress, hst]
  have hwatch : s.joinedWatch g = s := by simp [joinedWatch, hst, hsource]
  have hpointed : s.waitingPoint g cueChanged = s := by simp [waitingPoint, hwaiting, hpoint]
  simp only [groupStep, if_pos hjoined, joinedGroup, hprogress, hwatch, hpointed]

/-- R152 for an entry with a position, while the program plays. -/
theorem judge_of_point {w : Waiting} {pt : ShowPos} (hplay : s.align.prog.state ≠ .stopped) (hpoint : w.point = some pt)
    (hcue : pt.cue = s.align.prog.pos.cue) :
    (s.align.prog.pos.pos.toNat < pt.pos.toNat → s.judge w = .waits) ∧ (s.align.prog.pos = pt → s.judge w = .onTime)
    ∧ (pt.pos.toNat < s.align.prog.pos.pos.toNat → s.judge w = .passed) := by
  have hjudge : s.judge w = if s.align.prog.pos.pos.toNat < pt.pos.toNat then .waits else if s.align.prog.pos.pos = pt.pos then .onTime else .passed := by
    simp only [judge, prog, if_neg hplay, hpoint]
    exact if_pos hcue
  rw [hjudge]
  refine ⟨fun hbefore => if_pos hbefore, ?_, fun hpast => ?_⟩
  · rintro rfl
    simp
  · have hne : s.align.prog.pos.pos ≠ pt.pos := by
      intro h
      rw [h] at hpast
      exact Nat.lt_irrefl _ hpast
    rw [if_neg (by omega), if_neg hne]

theorem setGroup_setGroup (s : State) (g : Fin 8) (v w : Group) : (s.setGroup g v).setGroup g w = s.setGroup g w := by
  simp [setGroup, setCtl]

/-- R84, R96: a switch of a follower's idle group, none of group 0, to a state with another source. -/
theorem carry_of_idle {g : Fin 8} {o : Source} {st : GroupState} {i : SwitchInfo} (hg : g ≠ 0) (hrole : s.gang.role = .follower)
    (hop : (s.ctl.groups.get g).op = none) (hhealth : (s.ctl.groups.get g).health = none) (hrevert : (s.ctl.groups.get g).revert = none)
    (hplaced : (s.ctl.groups.get g).placed = none) (htimer : (s.ctl.groups.get g).timer = none)
    (hmoves : st.current ≠ (s.ctl.groups.get g).st.current) :
    s.carry g o st false 0 i true = { s with ctl := { s.ctl with
      groups := s.ctl.groups.set g { s.ctl.groups.get g with st := st, h := 0, healthMoved := true }
      journal := s.ctl.journal.push { number := s.ctl.journal.next, group := g, origin := o, dest := st.current, cause := i.cause
                                      level := i.level, urgency := i.urgency, outcome := i.outcome, pos := s.align.prog.pos, count := s.framer.count } } } := by
  have hmoved : movedAfter (s.group g) st = true := by simp [movedAfter, group, hmoves]
  have hplace : s.place g st false = s.setGroup g { s.group g with st := st } := if_neg hg
  have htell (t : State) (ht : t.gang.role = .follower) : t.vectorNow g (fadeUsed st) = t := by simp [vectorNow, changeVector, ht]
  have hsettled : Group.settleTimer { s.group g with st := st, h := 0, placed := none, healthMoved := true }
      = { s.ctl.groups.get g with st := st, h := 0, healthMoved := true } := by
    simp [Group.settleTimer_eq, Group.waits, isBoundary, group, hop, hhealth, hrevert, hplaced, htimer]
  have hcarry : s.carry g o st false 0 i true = (((s.setGroup g { s.group g with st := st }).setGroup g
      (Group.settleTimer { s.group g with st := st, h := 0, placed := none, healthMoved := true })).journalAdd g o st.current i).vectorNow g (fadeUsed st) := by
    simp only [carry, hplace, hmoved, setGroup_group]
    rfl
  rw [hcarry, hsettled, setGroup_setGroup]
  exact htell _ hrole

/-- R84: the state a follower's group takes for the entry's source. -/
def gangState (s : State) (r : Rig) (w : Waiting) : GroupState :=
  if 0 < w.entry.fade then .fading r.source w.entry.source w.entry.fade s.framer.count false else .settled w.entry.source

/-- R153: the switch of a group SETTLED on an eligible rig, to an eligible source. -/
theorem gangSwitch_of_settled {g : Fin 8} {r : Rig} {w : Waiting} (hg : g ≠ 0) (hplay : s.align.prog.state ≠ .stopped)
    (hst : (s.group g).st = .settled r.source) (hfrom : s.eligible g r.source = true) (hto : s.eligible g w.entry.source = true) (late : Bool) :
    s.gangSwitch g w late = s.carry g r.source (s.gangState r w) false 0
      { cause := .gang, level := 0, urgency := w.urgency, outcome := if late = true then .late else .seamless } true := by
  have hplays : s.playing = true := by simp [playing_eq, hplay]
  have hsoft : s.hardRig g w.entry.source = false := by
    simp only [hardRig]
    split
    · rfl
    · simp [hg]
  have hcurrent : (s.group g).st.current = r.source := by rw [hst]; rfl
  have hstate : s.switchState g w.entry.source w.entry.fade (!s.eligible g w.entry.source) = s.gangState r w := by
    simp [switchState, hplays, hto, hcurrent, hfrom, gangState]
  simp only [gangSwitch, hst, hsoft, hstate]
  exact if_neg (by simp)

/-- R153, R154: the unit once group `g` has switched from `r` to the entry's source. -/
def switchedTo (s : State) (g : Fin 8) (r : Rig) (w : Waiting) (y : SwitchOutcome) : State :=
  { s.applied g w with ctl := { s.ctl with
      groups := s.ctl.groups.set g { s.ctl.groups.get g with st := s.gangState r w, h := 0, healthMoved := true }
      journal := s.ctl.journal.push { number := s.ctl.journal.next, group := g, origin := r.source, dest := w.entry.source, cause := .gang, level := 0
                                      urgency := w.urgency, outcome := y, pos := s.align.prog.pos, count := s.framer.count } } }

theorem joinedService_of_waits {g : Fin 8} {w : Waiting} (hw : s.gang.waiting.get g = some w) (hv : s.judge w = .waits) :
    s.joinedService g = s := by
  simp only [joinedService, hw, hv]

theorem joinedService_of_onTime {g : Fin 8} {w : Waiting} (hw : s.gang.waiting.get g = some w) (hv : s.judge w = .onTime) :
    s.joinedService g = s.gangApply g w false := by
  simp only [joinedService, hw, hv]

theorem joinedService_of_passed {g : Fin 8} {w : Waiting} (hw : s.gang.waiting.get g = some w) (hv : s.judge w = .passed) :
    s.joinedService g = s.gangApply g w true := by
  simp only [joinedService, hw, hv]

theorem gangApply_of_same {g : Fin 8} {w : Waiting} (h : (s.group g).st.current = w.entry.source) (passed : Bool) :
    s.gangApply g w passed = s.applied g w := if_pos h

theorem gangApply_of_idle {g : Fin 8} {r : Rig} {w : Waiting} (hg : g ≠ 0) (hrole : s.gang.role = .follower)
    (hplay : s.align.prog.state ≠ .stopped) (hst : (s.group g).st = .settled r.source) (hfrom : s.eligible g r.source = true)
    (hto : s.eligible g w.entry.source = true) (hne : w.entry.source ≠ r.source) (hop : (s.ctl.groups.get g).op = none)
    (hhealth : (s.ctl.groups.get g).health = none) (hrevert : (s.ctl.groups.get g).revert = none)
    (hplaced : (s.ctl.groups.get g).placed = none) (htimer : (s.ctl.groups.get g).timer = none) (passed : Bool) :
    s.gangApply g w passed = if (passed && w.urgency == .atBoundary) = true
      then (s.switchedTo g r w .late).raise .gangLate (.group g) (.order w.entry.order s.align.prog.pos) else s.switchedTo g r w .seamless := by
  have hcurrent : (s.group g).st.current = r.source := by rw [hst]; rfl
  have hdest : (s.gangState r w).current = w.entry.source := by
    simp only [gangState]
    (repeat' split) <;> rfl
  have hmoves : (s.gangState r w).current ≠ (s.ctl.groups.get g).st.current := by
    rw [hdest]
    exact fun h => hne (h.trans hcurrent)
  have hswitch (late : Bool) : (s.applied g w).gangSwitch g w late = s.switchedTo g r w (if late = true then .late else .seamless) := by
    refine (gangSwitch_of_settled (s := s.applied g w) hg hplay hst hfrom hto late).trans ?_
    refine (carry_of_idle (s := s.applied g w) hg hrole hop hhealth hrevert hplaced htimer hmoves).trans ?_
    rw [hdest]
    rfl
  have hstays : ¬(s.group g).st.current = w.entry.source := fun h => hne (h.symm.trans hcurrent)
  simp only [gangApply, if_neg hstays, hswitch]
  split <;> rfl

end State

/-- Settles O30: the walk over a tick's entries, and the judgement of a waiting entry with the switch it calls for. -/
theorem followerTakesTicks : Obligations.FollowerTakesTicks := by
  refine ⟨fun s k => ⟨fun h => congrArg Host.Outcome.next (if_neg (State.takesTick_eq_false h)), fun hact hrole hlow hhigh hup => ?_⟩,
    fun s g r w pt candidate cueChanged => ?_⟩
  · obtain ⟨honly, hentries⟩ := State.tickGang_eq s.gang k
    refine ⟨s.setGang (State.tickGang s.gang k), congrArg Host.Outcome.next (if_pos (State.takesTick_of hact hrole hlow hhigh hup)), rfl, ?_⟩
    simp only [State.setGang_gang]
    refine ⟨by rw [honly]; rfl, by rw [honly]; rfl, by rw [honly]; rfl, by rw [honly]; rfl, by rw [honly]; rfl, by rw [honly]; rfl,
      by rw [honly]; rfl, fun g => ?_⟩
    obtain ⟨hreceived, hwaiting⟩ := Prod.mk.inj (hentries g)
    exact ⟨hreceived, hwaiting⟩
  · intro x dest pos noted hrole hstate hplay hg hst hhealth hstep hop hnohealth hrevert hplaced htimer hwaiting hpoint run switched
    have hrun : run = s.joinedService g := State.groupStep_of_joined hrole hstate hst hhealth hstep hwaiting hpoint candidate cueChanged
    have hfrom : s.eligible g r.source = true := State.eligible_of_good hrole hplay hhealth hstep g
    have hcurrent : (s.group g).st.current = r.source := congrArg GroupState.current hst
    have hjudge := State.judge_of_point (s := s) hplay hpoint
    have honTime (hat : pos = pt) : run = s.gangApply g w false :=
      hrun.trans (State.joinedService_of_onTime hwaiting ((hjudge (by rw [← hat])).2.1 hat))
    have hpassed (hcue : pt.cue = pos.cue) (hpast : pt.pos.toNat < pos.pos.toNat) : run = s.gangApply g w true :=
      hrun.trans (State.joinedService_of_passed hwaiting ((hjudge hcue).2.2 hpast))
    have happly (hne : dest ≠ r.source) (hto : s.eligible g dest = true) := State.gangApply_of_idle (w := w) hg hrole hplay hst hfrom hto hne hop hnohealth hrevert hplaced htimer
    refine ⟨fun hcue hbefore => hrun.trans (State.joinedService_of_waits hwaiting ((hjudge hcue).1 hbefore)), fun hsame hreached => ?_, fun hne hto => ⟨fun hat => ?_, fun hcue hpast => ⟨fun himm => ?_, fun hbound => ?_⟩⟩⟩
    · have happlied (passed : Bool) := State.gangApply_of_same (s := s) (g := g) (w := w) (hcurrent.trans hsame.symm) passed
      obtain hat | ⟨hcue, hpast⟩ := hreached
      · exact (honTime hat).trans (happlied false)
      · exact (hpassed hcue hpast).trans (happlied true)
    · refine (honTime hat).trans ((happly hne hto false).trans (if_neg ?_))
      simp
    · refine (hpassed hcue hpast).trans ((happly hne hto true).trans (if_neg ?_))
      simp [himm]
    · refine (hpassed hcue hpast).trans ((happly hne hto true).trans ((if_pos ?_).trans ?_))
      · simp [hbound]
      · rw [State.raise_eq_captured]
        rfl

end Sys2Proof.Machine
end


section
/-! PROOFS, family other. Side frames (R168, R176, log 10): what reaches the management and the gang agent, and with what head. -/

namespace Sys2Proof.Machine

/-! ## Kinds of request (R178) -/

/-- A bed frame of no samples. -/
def noFrame : BedFrame := { t0 := [], t1 := [], t2 := [], t3 := [] }

/-- A request of each kind. -/
def requestOf : ReqKind → Request
  | .identify => .identify | .readStatus => .readStatus .unit | .readHealth => .readHealth .a
  | .setHealthLimits => .setHealthLimits .a Reset.limits | .requalifyRig => .requalifyRig .a | .readBadFrame => .readBadFrame .a
  | .readFault => .readFault | .clearFault => .clearFault | .readJournal => .readJournal 0
  | .writeCue => .writeCue { cue := 1, policy := defaultPolicy } 0 | .readCue => .readCue 1 | .deleteCue => .deleteCue 1
  | .listCues => .listCues 1 | .writeRoute => .writeRoute 0 0 [] | .readRoute => .readRoute .active 0 0
  | .commitRoutes => .commitRoutes none | .writeGroup => .writeGroup 0 Reset.policies.g0 | .readGroup => .readGroup 0
  | .forceSource => .forceSource [] none none false | .releaseForce => .releaseForce [] | .stopProgram => .stopProgram
  | .showLock => .showLock | .showUnlock => .showUnlock | .bedOpen => .bedOpen 0 0 0 0 | .bedData => .bedData 0 0 noFrame noFrame
  | .bedSeal => .bedSeal 0 | .bedAbort => .bedAbort 0 | .bedDelete => .bedDelete 0 | .bedList => .bedList 0
  | .bedStatus => .bedStatus | .saveSettings => .saveSettings
  | .writePortGrants => .writePortGrants { ra := none, rb := none, o1 := none, o2 := none } | .resetUnit => .resetUnit

theorem requestOf_kind (k : ReqKind) : (requestOf k).kind = k := by
  cases k <;> rfl

theorem ofCode_code (k : ReqKind) : ReqKind.ofCode (BitVec.ofNat 8 k.code) = some k := by
  cases k <;> rfl

theorem ofCode_eq_none {b : Byte} (h : ∀ q : Request, b ≠ BitVec.ofNat 8 q.kind.code) : ReqKind.ofCode b = none := by
  cases hcode : ReqKind.ofCode b with
  | none => rfl
  | some k =>
    have hk : k.code = b.toNat := by simpa using List.find?_some hcode
    refine absurd ?_ (h (requestOf k))
    rw [requestOf_kind, hk, BitVec.ofNat_toNat, BitVec.setWidth_eq]

/-- R178, log 10: the kinds whose parameters are "none". -/
def isBare (q : Request) : Bool :=
  [ReqKind.identify, .readFault, .clearFault, .stopProgram, .showLock, .showUnlock, .bedStatus, .saveSettings, .resetUnit].contains q.kind

theorem bareRequest_kind (q : Request) : State.bareRequest q.kind = if isBare q = true then some q else none := by
  cases q <;> rfl

namespace State

variable {s : State}

/-- A request whose length does not fit its kind never reaches its owner. -/
theorem control_of_badLength {h : CtlHead} (hlen : h.lengthOk = false) (k : ReqKind) (o o' : State) : s.control h k o = s.control h k o' := by
  have hrefused : ∃ c, s.refusal h k = some c := by
    rw [← Option.isSome_iff_exists]
    simp only [refusal, hlen, if_true]
    (repeat' split) <;> rfl
  obtain ⟨c, hc⟩ := hrefused
  simp only [control, hc]

/-! ## A CONTROL (R176, log 10) -/

/-- The head that a CONTROL's body gives. -/
def headOf (p : CtlPort) (body : List Byte) (ok : Bool) : CtlHead := { port := p, addr := byteAt body 0, tag := byteAt body 1, lengthOk := ok }

variable {p : CtlPort} {body : List Byte} {params : Option Request}

theorem takeControl_of_short (h : body.length < 3) : s.takeControl p body params = s := if_pos h

theorem takeControl_of_unknown (h : 3 ≤ body.length) (hcode : ReqKind.ofCode (byteAt body 2) = none) :
    s.takeControl p body params = s.unknownKind (headOf p body true) (byteAt body 2) := by
  simp only [takeControl, if_neg (Nat.not_lt.mpr h), hcode]
  rfl

theorem takeControl_of_bare {q : Request} (h : 3 ≤ body.length) (hcode : ReqKind.ofCode (byteAt body 2) = some q.kind) (hbare : isBare q = true) :
    s.takeControl p body params = s.perform (headOf p body (decide (body.length = 3))) q := by
  simp only [takeControl, if_neg (Nat.not_lt.mpr h), hcode, bareRequest_kind, if_pos hbare]
  rfl

theorem takeControl_of_params {q : Request} (h : 3 < body.length) (hcode : ReqKind.ofCode (byteAt body 2) = some q.kind) (hfull : isBare q = false) :
    s.takeControl p body (some q) = s.perform (headOf p body true) q := by
  simp only [takeControl, if_neg (Nat.not_lt.mpr (Nat.le_of_lt h)), hcode, bareRequest_kind, hfull]
  exact if_pos ⟨rfl, h⟩

theorem takeControl_of_badParams {q : Request} (h : 3 ≤ body.length) (hcode : ReqKind.ofCode (byteAt body 2) = some q.kind) (hfull : isBare q = false)
    (hbad : body.length = 3 ∨ ∀ x, params = some x → x.kind ≠ q.kind) :
    s.takeControl p body params = s.perform (headOf p body false) q := by
  have hhead : s.takeControl p body params = s.control (headOf p body false) q.kind s := by
    simp only [takeControl, if_neg (Nat.not_lt.mpr h), hcode, bareRequest_kind, hfull]
    cases params with
    | none => rfl
    | some x =>
      refine if_neg ?_
      rintro ⟨hkind, hlong⟩
      obtain hshort | hother := hbad
      · omega
      · exact hother x rfl hkind
  rw [hhead]
  exact control_of_badLength rfl _ _ _

/-! ## Routing (R168) -/

/-- A CONTROL's parameters, as the body reads. -/
def paramsOf : SideBody → Option Request
  | .control params => params
  | _ => none

theorem body_of_params {b : SideBody} {q : Request} (h : paramsOf b = some q) : b = .control (some q) := by
  cases b with
  | control params => exact congrArg SideBody.control h
  | tick t => exact absurd h (by simp [paramsOf])
  | report es => exact absurd h (by simp [paramsOf])
  | plain => exact absurd h (by simp [paramsOf])

theorem routeSide_ctl (s : State) (p : CtlPort) (f : InSide) (b : SideBody) :
    s.routeSide p.port f b = if f.kind = 2 then s.takeControl p f.body (paramsOf b) else s := by
  cases p <;> cases b <;> rfl

theorem takeSide_of_checked {p : Port} {raw : RawFrame} {f : InSide} (hup : (s.links.get p).state = .up) (hf : checkSide raw = some f)
    (b : SideBody) : s.takeSide p raw b = s.routeSide p f b := by
  simp only [takeSide, if_pos ((isUp_iff s p).mpr hup), hf]

theorem takeSide_of_unchecked {p : Port} {raw : RawFrame} (h : (s.links.get p).state ≠ .up ∨ checkSide raw = none) (b : SideBody) :
    s.takeSide p raw b = s := by
  obtain hdown | hbad := h
  · exact if_neg (by simpa [isUp_iff] using hdown)
  · simp only [takeSide, hbad]
    exact ite_self _

theorem routeSide_gu {f : InSide} {b : SideBody} (h : f.kind ≠ 4 ∨ ∀ t, b ≠ .tick t) : s.routeSide .gu f b = s := by
  cases b with
  | tick t => exact if_neg (h.resolve_right fun hb => hb t rfl)
  | report es =>
    have hnone : s.takeReport .gu es = s := if_neg (by simp [takesReport])
    exact (congrArg (fun u => if f.kind = 5 then u else s) hnone).trans (ite_self s)
  | control q => rfl
  | plain => rfl

theorem routeSide_gd {f : InSide} {b : SideBody} (h : f.kind ≠ 5 ∨ ∀ es, b ≠ .report es) : s.routeSide .gd f b = s := by
  cases b with
  | report es => exact if_neg (h.resolve_right fun hb => hb es rfl)
  | tick t =>
    have hnone : s.takeTick .gd t = s := if_neg (by simp [takesTick])
    exact (congrArg (fun u => if f.kind = 4 then u else s) hnone).trans (ite_self s)
  | control q => rfl
  | plain => rfl

end State

/-- Settles O29: a checked frame is its agent's; the tick's and the report's effects are those of their own commands. -/
theorem sideFramesReachTheirAgent : Obligations.SideFramesReachTheirAgent := by
  intro s raw body bare
  refine ⟨fun p h => congrArg Host.Outcome.next (State.takeSide_of_unchecked h body), fun f hf => ?_⟩
  have hroute {p : Port} (hup : (s.links.get p).state = .up) : exec (.sideFrame p raw body) s = .next (s.routeSide p f body) :=
    congrArg Host.Outcome.next (State.takeSide_of_checked hup hf body)
  refine ⟨fun p hup => ?_, fun hup h => (hroute hup).trans (congrArg Host.Outcome.next (State.routeSide_gu h)),
    fun hup h => (hroute hup).trans (congrArg Host.Outcome.next (State.routeSide_gd h)), fun t hup hbody => ?_, fun es hup hbody => ?_⟩
  · intro run head
    have hrun : run = .next (if f.kind = 2 then s.takeControl p f.body (State.paramsOf body) else s) :=
      (hroute hup).trans (congrArg Host.Outcome.next (State.routeSide_ctl s p f body))
    have hcontrol {u : State} (hkind : f.kind = 2) (hu : s.takeControl p f.body (State.paramsOf body) = u) : run = .next u := by
      rw [hrun, if_pos hkind, hu]
    refine ⟨fun hkind => hrun.trans (congrArg Host.Outcome.next (if_neg hkind)), fun hkind hshort => hcontrol hkind (State.takeControl_of_short hshort),
      fun hkind hlong => ⟨fun hother => hcontrol hkind (State.takeControl_of_unknown hlong (ofCode_eq_none hother)), fun q hq => ?_⟩,
      fun hkind hthree hone hreaches => ?_⟩
    · have hcode : ReqKind.ofCode (byteAt f.body 2) = some q.kind := by rw [hq, ofCode_code]
      refine ⟨fun hbare => ?_, fun hfull hpast hparams => ?_, fun hfull hbad => ?_, _, hrun⟩
      · exact (hcontrol hkind (State.takeControl_of_bare hlong hcode hbare)).trans (exec_command _ q s).symm
      · refine (hcontrol hkind ?_).trans (exec_command (head true) q s).symm
        rw [hparams]
        exact State.takeControl_of_params hpast hcode hfull
      · refine (hcontrol hkind (State.takeControl_of_badParams hlong hcode hfull ?_)).trans (exec_command (head false) q s).symm
        refine hbad.imp id fun hkinds x hx => hkinds x (State.body_of_params hx)
    · have hcode : ReqKind.ofCode (byteAt f.body 2) = some (Request.identify).kind := by rw [hone]; rfl
      have hhead : State.headOf p f.body (decide (f.body.length = 3)) = head true := by simp [State.headOf, hthree, head]
      have hperform := hcontrol hkind (State.takeControl_of_bare (params := State.paramsOf body) (Nat.le_of_eq hthree.symm) hcode rfl)
      rw [hhead] at hperform
      exact hperform.trans ((exec_command (head true) .identify s).symm.trans (exec_owner (q := .identify) hreaches rfl))
  · subst hbody
    have htick (hkind : f.kind = 4) : exec (.sideFrame .gu raw (.tick t)) s = exec (.gangTick .gu t) s :=
      (hroute hup).trans (congrArg Host.Outcome.next (if_pos hkind))
    refine ⟨htick, fun hkind hact hrole hlow hhigh => ?_⟩
    obtain ⟨u, hexec, hframe, hposition, -, hleader, hsilence, hrun, -⟩ := (followerTakesTicks.1 s t).2 hact hrole hlow hhigh hup
    exact ⟨u, (htick hkind).trans hexec, hframe, hposition, hleader, hsilence, hrun⟩
  · subst hbody
    have hreport (hkind : f.kind = 5) : exec (.sideFrame .gd raw (.report es)) s = exec (.gangReport .gd es) s :=
      (hroute hup).trans (congrArg Host.Outcome.next (if_pos hkind))
    exact ⟨hreport, fun hkind hact hrole => (hreport hkind).trans ((reportTableFollowsReports s hact).1 hup hrole es)⟩

end Sys2Proof.Machine
end


section
/-! PROOFS, family other. The store's requests: BED OPEN and BED DATA (R120, R121), and the facts about marked sectors that they and the
removal of clips share. -/

namespace Sys2Proof.Machine

/-! ## A read after a write, for tables in any order -/

namespace Sparse

variable {α : Type} {d : Nat → α}

theorem get_insert_any (k j : Nat) (v : α) (m : List (Nat × α)) : get d j (insert k v m) = if j = k then v else get d j m := by
  induction m with
  | nil => simp [insert, get, eq_comm]
  | cons x m ih =>
    obtain ⟨i, w⟩ := x
    by_cases hj : j = k
    · subst hj
      simp only [insert]
      split
      next => simp [get]
      next =>
        split
        next => simp [get]
        next heq => simp [get, ih, Ne.symm heq]
    · simp only [insert]
      split
      next => simp [get, Ne.symm hj]
      next =>
        split
        next heq =>
          subst heq
          simp [get, Ne.symm hj]
        next => simp [get, ih, hj]

theorem get_put_any [DecidableEq α] (k j : Nat) (v : α) (m : List (Nat × α)) : get d j (put d k v m) = if j = k then v else get d j m := by
  simp only [put]
  by_cases hv : v = d k
  · rw [if_pos hv, get_erase]
    by_cases hj : j = k
    · rw [if_pos hj, if_pos hj, hv, hj]
    · rw [if_neg hj, if_neg hj]
  · rw [if_neg hv, get_insert_any]

end Sparse

namespace State

variable {s : State} {h : CtlHead} {t : Store}

/-! ## Marked sectors -/

theorem setState_stateOf (t : Store) (l k : Nat) (v : LogicalState) : (t.setState l v).stateOf k = if k = l then v else t.stateOf k :=
  Sparse.get_put_any _ _ _ _

theorem markRange_succ (t : Store) (first n : Nat) (v : LogicalState) : markRange t first (n + 1) v = (markRange t first n v).setState (first + n) v := by
  simp [markRange, List.range_succ]

theorem markRange_stateOf (t : Store) (first n : Nat) (v : LogicalState) (k : Nat) :
    (markRange t first n v).stateOf k = if first ≤ k ∧ k < first + n then v else t.stateOf k := by
  induction n with
  | zero => rw [if_neg (by omega)]; rfl
  | succ n ih =>
    rw [markRange_succ, setState_stateOf, ih]
    by_cases hk : k = first + n
    · rw [if_pos hk, if_pos (by omega)]
    · rw [if_neg hk]
      by_cases hin : first ≤ k ∧ k < first + n
      · rw [if_pos hin, if_pos (by omega)]
      · rw [if_neg hin, if_neg (by omega)]

theorem markRange_eq (t : Store) (first n : Nat) (v : LogicalState) : markRange t first n v = { t with logical := (markRange t first n v).logical } := by
  induction n with
  | zero => rfl
  | succ n ih =>
    rw [markRange_succ, ih]
    rfl

/-! ## BED DATA (R121) -/

theorem writerRefusal_of_notWriting {clip : Nat} (hnone : ∀ e, s.store.clip clip = some e → e.state ≠ .writing) :
    s.writerRefusal h clip = .error .notFound := by
  simp only [writerRefusal]
  cases hclip : s.store.clip clip with
  | none => rfl
  | some e => exact if_pos (hnone e hclip)

theorem writerRefusal_of_writing {clip : Nat} {e : DirEntry} (hclip : s.store.clip clip = some e) (hstate : e.state = .writing) :
    s.writerRefusal h clip = if e.writer ≠ h.port then .error .busy else if e.storeFault = true then .error .storeFault else .ok e := by
  simp only [writerRefusal, hclip]
  exact if_neg (by simp [hstate])

theorem completionFull_iff (s : State) (p : CtlPort) : s.completionFull p = true ↔ 2 ≤ (s.framer.holders.get p).completion.length :=
  decide_eq_true_iff

theorem ownBedData_of_refused {clip offset : Nat} {f0 f1 : BedFrame} {c : Completion} (hr : s.writerRefusal h clip = .error c) :
    s.ownBedData h clip offset f0 f1 = replied s h 25 c .none := by
  simp only [ownBedData, hr]
  rfl

theorem ownBedData_of_taken {clip offset : Nat} {f0 f1 : BedFrame} {e : DirEntry} {b : PageBuf} (hr : s.writerRefusal h clip = .ok e)
    (hnext : offset = e.next) (hin : offset < e.length) (hfill : s.store.fill = some b) :
    s.ownBedData h clip offset f0 f1 =
      if wouldHold s.store { b with frames := b.frames ++ [f0, f1] } = true ∧ s.completionFull h.port = true then replied s h 25 .busy .none
      else s.takeFrames h clip e { b with frames := b.frames ++ [f0, f1] } := by
  have hfilled : filled s.store e f0 f1 = { b with frames := b.frames ++ [f0, f1] } := by simp only [filled, hfill]
  simp only [ownBedData, hr, hfilled]
  exact if_neg (by omega)

theorem wouldHold_iff {b : PageBuf} : wouldHold t b = true ↔ 16 ≤ b.frames.length ∧ t.handed ≠ [] := by
  simp [wouldHold]

theorem takeFrames_of_idle {clip : Nat} {e : DirEntry} {b : PageBuf} (hpage : 16 ≤ b.frames.length) (hidle : s.store.handed = []) :
    s.takeFrames h clip e b = replied { s with store := { s.store.updateClip clip (fun x => { x with next := x.next + 2 }) with
      handed := [b], fill := some (emptyBuf ((e.next + 2) / 16)) } } h 25 .done .none := by
  have hhanded : (s.store.updateClip clip fun x => { x with next := x.next + 2 }).handed = [] := hidle
  simp only [takeFrames, if_neg (Nat.not_lt.mpr hpage), hhanded]
  rfl

theorem takeFrames_of_busy {clip : Nat} {e : DirEntry} {b : PageBuf} (hpage : 16 ≤ b.frames.length) (hbusy : s.store.handed ≠ []) :
    s.takeFrames h clip e b = inHand { s with store := { s.store.updateClip clip (fun x => { x with next := x.next + 2 }) with
      handed := s.store.handed ++ [b], fill := none, dataHeld := true } } h .bedData := by
  obtain ⟨x, m, hm⟩ := List.exists_cons_of_ne_nil hbusy
  have hhanded : (s.store.updateClip clip fun x => { x with next := x.next + 2 }).handed = x :: m := hm
  simp only [takeFrames, if_neg (Nat.not_lt.mpr hpage), hhanded, hm]
  rfl

end State

/-- Settles O54: the refusals in their order, and then the buffers as the two frames find them. -/
theorem bedDataFillsThePage : Obligations.BedDataFillsThePage := by
  intro s h clip offset f0 f1 hr run no
  have hrun {t : State} (ht : s.ownBedData h clip offset f0 f1 = t) : run = .next t := exec_owner (q := .bedData clip offset f0 f1) hr ht
  refine ⟨fun hnone => hrun (State.ownBedData_of_refused (State.writerRefusal_of_notWriting hnone)), fun e hclip hstate => ?_⟩
  have hrefusal := State.writerRefusal_of_writing (h := h) hclip hstate
  have hok (hport : e.writer = h.port) (hsound : e.storeFault = false) : s.writerRefusal h clip = .ok e := by simp [hrefusal, hport, hsound]
  refine ⟨fun hport => ?_, fun hport hfault => ?_, fun hport hsound hout => ?_, fun hport hsound hnext hin b hfill => ?_⟩
  · exact hrun (State.ownBedData_of_refused (by rw [hrefusal, if_pos hport]))
  · exact hrun (State.ownBedData_of_refused (by rw [hrefusal, if_neg (fun h => h hport), if_pos hfault]))
  · refine hrun ?_
    simp only [State.ownBedData, hok hport hsound, if_pos hout]
    rfl
  · intro b2 dir fresh held
    have htaken := State.ownBedData_of_taken (f0 := f0) (f1 := f1) (hok hport hsound) hnext hin hfill
    have hfull := State.completionFull_iff s h.port
    refine ⟨fun hroom => ?_, fun hpage hidle => ?_, fun hpage hbusy hqueue => ?_, fun hpage hbusy hqueue => ?_⟩
    · exact hrun (htaken.trans ((if_neg fun hholds => absurd (State.wouldHold_iff.mp hholds.1).1 (Nat.not_le.mpr hroom)).trans (if_pos hroom)))
    · exact hrun (htaken.trans ((if_neg fun hholds => (State.wouldHold_iff.mp hholds.1).2 hidle).trans (State.takeFrames_of_idle hpage hidle)))
    · exact hrun (htaken.trans (if_pos ⟨State.wouldHold_iff.mpr ⟨hpage, hbusy⟩, hfull.mpr hqueue⟩))
    · exact hrun (htaken.trans ((if_neg fun hholds => absurd (hfull.mp hholds.2) (Nat.not_le.mpr hqueue)).trans (State.takeFrames_of_busy hpage hbusy)))

end Sys2Proof.Machine
end


section
/-! PROOFS, family other. BED OPEN (R115, R120): the first run of ERASED sectors, the clip's place in the directory, and the checks in their
order. -/

namespace Sys2Proof.Machine

/-! ## The directory (R119) -/

theorem mem_insertClip {e f : DirEntry} {m : List DirEntry} : f ∈ insertClip e m ↔ f = e ∨ f ∈ m := by
  induction m with
  | nil => simp [insertClip]
  | cons x m ih =>
    simp only [insertClip]
    repeat' split
    · simp
    · simp [ih, or_left_comm]

theorem insertClip_length (e : DirEntry) (m : List DirEntry) : (insertClip e m).length = m.length + 1 := by
  induction m with
  | nil => rfl
  | cons x m ih =>
    simp only [insertClip]
    repeat' split
    · rfl
    · simp [ih]

theorem insertClip_pairwise {e : DirEntry} {m : List DirEntry} (hm : m.Pairwise (fun x y => x.id < y.id)) (hne : ∀ x ∈ m, x.id ≠ e.id) :
    (insertClip e m).Pairwise (fun x y => x.id < y.id) := by
  induction m with
  | nil => simp [insertClip]
  | cons x m ih =>
    obtain ⟨hx, hm⟩ := List.pairwise_cons.mp hm
    simp only [insertClip]
    split
    next hlt =>
      refine List.pairwise_cons.mpr ⟨fun y hy => ?_, List.pairwise_cons.mpr ⟨hx, hm⟩⟩
      obtain rfl | hy := List.mem_cons.mp hy
      · exact hlt
      · exact Nat.lt_trans hlt (hx y hy)
    next hlt =>
      refine List.pairwise_cons.mpr ⟨fun y hy => ?_, ih hm fun y hy => hne y (List.mem_cons_of_mem _ hy)⟩
      obtain rfl | hy := mem_insertClip.mp hy
      · exact Nat.lt_of_le_of_ne (Nat.not_lt.mp hlt) (hne x List.mem_cons_self)
      · exact hx y hy

namespace State

variable {s : State} {h : CtlHead} {t : Store} {l n : Nat}

/-! ## The run (R120) -/

/-- A run of `n` ERASED sectors from `m`. -/
def erasedRun (t : Store) (n m : Nat) : Bool := (List.range n).all (fun j => t.stateOf (m + j) == .erased)

theorem erasedRun_iff : erasedRun t n l = true ↔ ∀ i, i < n → t.stateOf (l + i) = .erased := by
  simp [erasedRun]

theorem not_erasedRun_iff : erasedRun t n l = false ↔ ∃ i, i < n ∧ t.stateOf (l + i) ≠ .erased := by
  simp [Bool.eq_false_iff, erasedRun_iff]

theorem firstRun_some (h : firstRun t n = some l) :
    l + n ≤ 4096 ∧ (∀ m, m < l → ∃ i, i < n ∧ t.stateOf (m + i) ≠ .erased) ∧ ∀ i, i < n → t.stateOf (l + i) = .erased := by
  have hfind : (List.range (4097 - n)).find? (erasedRun t n) = some l := h
  obtain ⟨hrun, hl, hbefore⟩ := List.find?_range_eq_some.mp hfind
  have hrange := List.mem_range.mp hl
  refine ⟨by omega, fun m hm => not_erasedRun_iff.mp ?_, erasedRun_iff.mp hrun⟩
  simpa using hbefore m hm

theorem firstRun_none (h : firstRun t n = none) {m : Nat} (hm : m + n ≤ 4096) : ∃ i, i < n ∧ t.stateOf (m + i) ≠ .erased := by
  have hfind : (List.range (4097 - n)).find? (erasedRun t n) = none := h
  refine not_erasedRun_iff.mp ?_
  simpa using List.find?_range_eq_none.mp hfind m (by omega)

theorem openClip_stateOf (t : Store) (e : DirEntry) (k : Nat) :
    (openClip t e).stateOf k = if e.first ≤ k ∧ k < e.first + e.count then .allocated else t.stateOf k := markRange_stateOf t e.first e.count .allocated k

theorem openClip_eq (t : Store) (e : DirEntry) :
    openClip t e = { t with logical := (openClip t e).logical, dir := insertClip e t.dir, fill := some (emptyBuf 0), handed := [] } := by
  obtain ⟨logical, hmarked⟩ : ∃ logical, markRange t e.first e.count .allocated = { t with logical := logical } := ⟨_, markRange_eq t e.first e.count .allocated⟩
  rw [openClip, hmarked]

/-! ## The checks -/

theorem clip_isSome_iff {clip : Nat} : (t.clip clip).isSome = true ↔ ∃ e ∈ t.dir, e.id = clip := by
  simp [Store.clip, List.find?_isSome]

theorem writing_isSome_iff : t.writing.isSome = true ↔ ∃ e ∈ t.dir, e.state = .writing := by
  simp [Store.writing, List.find?_isSome]

theorem backlogHolds_iff {clip : Nat} : t.backlogFirst.any (fun x => x.2 == clip) = true ↔ ∃ x ∈ t.backlogFirst, x.2 = clip := by
  simp

theorem ownBedOpen_of_refused {clip length ls ll : Nat} {c : Completion} (hc : s.openRefusal h clip length ls ll = some c) :
    s.ownBedOpen h clip length ls ll = replied s h 24 c .none := by
  simp only [ownBedOpen, hc]
  rfl

/-- R120: the entry of a clip that opens at sector `l`. -/
def newClip (h : CtlHead) (clip length ls ll l : Nat) : DirEntry :=
  { id := clip, first := l, count := sectorsFor length, length := length, loopStart := ls, loopLength := ll,
    state := .writing, writer := h.port, next := 0, damageSeen := false, storeFault := false }

/-- R120: what follows the checks. -/
theorem ownBedOpen_of_none {clip length ls ll : Nat} (hc : s.openRefusal h clip length ls ll = none) :
    (firstRun s.store (sectorsFor length) = none → s.ownBedOpen h clip length ls ll = replied s h 24 .full .none)
    ∧ ∀ l, firstRun s.store (sectorsFor length) = some l → s.ownBedOpen h clip length ls ll =
        replied { s with store := openClip s.store (newClip h clip length ls ll l) } h 24 .done (.firstSector l) := by
  refine ⟨fun hnone => ?_, fun l hsome => ?_⟩
  · simp only [ownBedOpen, hc, hnone]
    rfl
  · simp only [ownBedOpen, hc, hsome]
    rfl

/-- R120's checks, in the terms of the directory and the backlog. -/
theorem openRefusal_eq {clip : Nat} (hclip : clip ≤ 255) (length ls ll : Nat) : s.openRefusal h clip length ls ll =
    if clip = 0 ∨ (∃ e ∈ s.store.dir, e.id = clip) then some .outOfRange
    else if length = 0 ∨ 4194304 < length then some .outOfRange
    else if length ≤ ls ∨ (0 < ll ∧ length < ls + ll) then some .outOfRange
    else if ∃ e ∈ s.store.dir, e.state = .writing then some .busy
    else if ∃ x ∈ s.store.backlogFirst, x.2 = clip then some .busy
    else if s.otherHoldsStore h.port then some .busy
    else if 128 ≤ s.store.dir.length then some .full
    else none := by
  have hname : (clip = 0 ∨ 255 < clip ∨ (s.store.clip clip).isSome = true) ↔ (clip = 0 ∨ ∃ e ∈ s.store.dir, e.id = clip) := by
    rw [clip_isSome_iff, or_iff_right (Nat.not_lt.mpr hclip)]
  have hclips : Config.clips = 128 := rfl
  rw [openRefusal, hclips]
  simp only [hname, writing_isSome_iff, backlogHolds_iff]

end State

/-- Settles O53: the first run that the search finds, the directory with the new entry, and the checks one by one. -/
theorem bedOpenAllocates : Obligations.BedOpenAllocates := by
  intro s h clip length ls ll hr hclip no n entry
  refine ⟨fun l hl => ?_, fun hnone m hm => State.firstRun_none hnone hm, ?_⟩
  · intro u
    obtain ⟨hend, hbefore, herased⟩ := State.firstRun_some hl
    have hstate (k : Nat) : u.stateOf k = if l ≤ k ∧ k < l + n then .allocated else s.store.stateOf k := State.openClip_stateOf s.store (entry l) k
    have hu := State.openClip_eq s.store (entry l)
    have hdir : u.dir = insertClip (entry l) s.store.dir := rfl
    refine ⟨hend, hbefore, fun i hi => ⟨herased i hi, ?_⟩, fun k hk => ?_, fun e => ?_, ?_, fun hsorted hnew => ?_, hu⟩
    · rw [hstate, if_pos (by omega)]
    · rw [hstate, if_neg (by omega)]
    · rw [hdir, mem_insertClip]
    · rw [hdir, insertClip_length]
    · rw [hdir]
      exact insertClip_pairwise hsorted hnew
  · have hrun {t : State} (ht : s.ownBedOpen h clip length ls ll = t) : exec (.bedOpen h clip length ls ll) s = .next t :=
      exec_owner (q := .bedOpen clip length ls ll) hr ht
    have hrefused {c : Completion} (hc : s.openRefusal h clip length ls ll = some c) : exec (.bedOpen h clip length ls ll) s = no c :=
      hrun (State.ownBedOpen_of_refused hc)
    have hrow := State.openRefusal_eq (s := s) (h := h) hclip length ls ll
    split
    next hname => exact hrefused (by simp only [hrow, if_pos hname])
    next hname =>
    split
    next hlength => exact hrefused (by simp only [hrow, if_neg hname, if_pos hlength])
    next hlength =>
    split
    next hloop => exact hrefused (by simp only [hrow, if_neg hname, if_neg hlength, if_pos hloop])
    next hloop =>
    split
    next hwriting => exact hrefused (by simp only [hrow, if_neg hname, if_neg hlength, if_neg hloop, if_pos hwriting])
    next hwriting =>
    split
    next hbacklog => exact hrefused (by simp only [hrow, if_neg hname, if_neg hlength, if_neg hloop, if_neg hwriting, if_pos hbacklog])
    next hbacklog =>
    split
    next hother => exact hrefused (by simp only [hrow, if_neg hname, if_neg hlength, if_neg hloop, if_neg hwriting, if_neg hbacklog, if_pos hother])
    next hother =>
    split
    next hfull => exact hrefused (by simp only [hrow, if_neg hname, if_neg hlength, if_neg hloop, if_neg hwriting, if_neg hbacklog, if_neg hother, if_pos hfull])
    next hfull =>
      have hnone : s.openRefusal h clip length ls ll = none := by
        simp only [hrow, if_neg hname, if_neg hlength, if_neg hloop, if_neg hwriting, if_neg hbacklog, if_neg hother, if_neg hfull]
      have hopen := State.ownBedOpen_of_none hnone
      cases hfirst : State.firstRun s.store n with
      | none => exact hrun (hopen.1 hfirst)
      | some l => exact hrun (hopen.2 l hfirst)

end Sys2Proof.Machine
end


section
/-! PROOFS, family other. BED SEAL, and the clips that leave the directory: BED ABORT and BED DELETE (R122, R123, R131, R138, R139). -/

namespace Sys2Proof.Machine

namespace State

variable {s : State} {h : CtlHead} {t : Store}

/-! ## The sectors and the directory (R123, R131) -/

/-- R123, R131: what the removal of a clip leaves of the store's own tables. -/
structure Removed (t u : Store) (e : DirEntry) : Prop where
  dir : u.dir = t.dir.filter (fun x => decide (x.id ≠ e.id))
  backlog : u.backlog = t.backlog ++ (List.range e.count).map (fun j => e.first + j)
  backlogFirst : u.backlogFirst = t.backlogFirst ++ [(e.first, e.id)]
  state : ∀ k, u.stateOf k = if e.first ≤ k ∧ k < e.first + e.count then .dirty else t.stateOf k
  flash : u.flash = t.flash

theorem dirtyClip_eq (t : Store) (e : DirEntry) : dirtyClip t e = { t with
    logical := (dirtyClip t e).logical
    backlog := t.backlog ++ (List.range e.count).map (fun j => e.first + j)
    backlogFirst := t.backlogFirst ++ [(e.first, e.id)]
    dir := t.dir.filter (fun x => decide (x.id ≠ e.id)) } := by
  obtain ⟨logical, hmarked⟩ : ∃ logical, markRange t e.first e.count .dirty = { t with logical := logical } := ⟨_, markRange_eq t e.first e.count .dirty⟩
  rw [dirtyClip, hmarked]

theorem dirtyClip_removed (t : Store) (e : DirEntry) : Removed t (dirtyClip t e) e where
  dir := by rw [dirtyClip_eq]
  backlog := by rw [dirtyClip_eq]
  backlogFirst := by rw [dirtyClip_eq]
  state := markRange_stateOf t e.first e.count .dirty
  flash := dirtyClip_flash t e

/-! ## The open clip's job (R123) -/

theorem releaseTarget_eq (t : Store) : releaseTarget t = { t with
    spares := (releaseTarget t).spares, relocating := (releaseTarget t).relocating, orphanTarget := (releaseTarget t).orphanTarget } := by
  simp only [releaseTarget]
  split
  · rfl
  · split
    · rfl
    · (repeat' split) <;> rfl

theorem orphanStep_eq (t : Store) : orphanStep t = { t with engine := t.engine.map (fun x => { x with orphan := x.orphan || decide (x.job = .clip) }) } := by
  simp only [orphanStep]
  cases hengine : t.engine with
  | none =>
    simp only [Option.map_none]
    rw [← hengine]
  | some x =>
    by_cases hjob : x.job = .clip
    · simp [hjob]
    · simp only [Option.map_some, hjob, decide_false, Bool.or_false, if_false]
      rw [← hengine]

theorem mem_insert_self (k : Nat) (v : Bool) (m : List (Nat × Bool)) : (k, v) ∈ Sparse.insert k v m := by
  induction m with
  | nil => simp [Sparse.insert]
  | cons x m ih =>
    obtain ⟨i, w⟩ := x
    simp only [Sparse.insert]
    (repeat' split) <;> simp [ih]

theorem clipStepInFlight_iff : clipStepInFlight t = true ↔ ∃ x, t.engine = some x ∧ x.job = .clip := by
  simp only [clipStepInFlight]
  cases t.engine <;> simp

/-- R123: a relocation's target, by whether a step of the open clip's job is in flight. -/
theorem releaseTarget_target {j : CopyJob} {p : Nat} (hcopy : t.clipCopy = some j) (htarget : j.target = some p) :
    ((∀ x, t.engine = some x → x.job ≠ .clip) → (p, false) ∈ (releaseTarget t).spares ∧ p ∉ (releaseTarget t).relocating)
    ∧ ∀ x, t.engine = some x → x.job = .clip → (releaseTarget t).orphanTarget = some p := by
  refine ⟨fun hidle => ?_, fun x hx hjob => ?_⟩
  · have hstill : ¬clipStepInFlight t = true := by
      rw [clipStepInFlight_iff]
      rintro ⟨x, hx, hjob⟩
      exact hidle x hx hjob
    have hfreed : releaseTarget t = (t.dropRelocating p).addSpare p false := by simp only [releaseTarget, hcopy, htarget, if_neg hstill]
    rw [hfreed]
    refine ⟨mem_insert_self _ _ _, ?_⟩
    simp [Store.addSpare, Store.dropRelocating]
  · have hflying : clipStepInFlight t = true := clipStepInFlight_iff.mpr ⟨x, hx, hjob⟩
    simp only [releaseTarget, hcopy, htarget, if_pos hflying]

/-! ## The bed player (R135, R138, R139) -/

theorem untrack_eq (q : Player) (e : DirEntry) : untrack q e = { q with
    tracked := if (q.tracked.map (fun x => x.1) == some e.id) = true then none else q.tracked
    window := if (q.tracked.map (fun x => x.1) == some e.id) = true then [] else q.window } := by
  obtain ⟨tracked, window, reading, lostRead, prime, lastPrime⟩ := q
  cases tracked with
  | none => simp [untrack]
  | some x =>
    by_cases hx : x.1 = e.id
    · simp [untrack, hx]
    · simp [untrack, hx]

/-- R139: what a removed clip's outstanding read becomes. -/
def lostReadOf (q : Player) (e : DirEntry) : Option LostRead :=
  match q.reading with
  | some (c, page) => if c = e.id then some { clip := c, sector := e.first + page / 64, page := page % 64 } else q.lostRead
  | none => q.lostRead

theorem loseRead_eq (q : Player) (e : DirEntry) : loseRead q e = { q with
    reading := if q.reading.map (fun x => x.1) = some e.id then none else q.reading
    lostRead := lostReadOf q e } := by
  obtain ⟨tracked, window, reading, lostRead, prime, lastPrime⟩ := q
  cases reading with
  | none => simp [loseRead, lostReadOf]
  | some x =>
    by_cases hx : x.1 = e.id
    · simp [loseRead, lostReadOf, hx]
    · simp [loseRead, lostReadOf, hx]

theorem unprime_eq (q : Player) (e : DirEntry) : unprime q e = { q with
    prime := if q.prime.map (fun x => x.clip) = some e.id then none else q.prime } := by
  obtain ⟨tracked, window, reading, lostRead, prime, lastPrime⟩ := q
  cases prime with
  | none => simp [unprime]
  | some x =>
    by_cases hx : x.clip = e.id
    · simp [unprime, hx]
    · simp [unprime, hx]

/-- R138, R139: the player once a clip has left the directory. -/
theorem playerGone_eq (q : Player) (e : DirEntry) : unprime (loseRead (untrack q e) e) e =
    { tracked := if (q.tracked.map (fun x => x.1) == some e.id) = true then none else q.tracked
      window := if (q.tracked.map (fun x => x.1) == some e.id) = true then [] else q.window
      reading := if q.reading.map (fun x => x.1) = some e.id then none else q.reading
      lostRead := lostReadOf q e
      prime := if q.prime.map (fun x => x.clip) = some e.id then none else q.prime
      lastPrime := q.lastPrime } := by
  rw [unprime_eq, loseRead_eq, untrack_eq]
  rfl

/-! ## The removal of a clip -/

/-- R123: what the open clip's job leaves of the store before its sectors are marked. -/
def aborting (t : Store) : Store := clearClipJob (orphanStep (releaseTarget t))

theorem aborting_eq (t : Store) : aborting t = { t with
    spares := (releaseTarget t).spares, relocating := (releaseTarget t).relocating, orphanTarget := (releaseTarget t).orphanTarget
    engine := t.engine.map (fun x => { x with orphan := x.orphan || decide (x.job = .clip) })
    fill := none, handed := [], clipCopy := none, sealing := false, sealAfterMark := false, dataHeld := false } := by
  obtain ⟨spares, relocating, orphan, hreleased⟩ : ∃ a b c, releaseTarget t = { t with spares := a, relocating := b, orphanTarget := c } :=
    ⟨_, _, _, releaseTarget_eq t⟩
  rw [aborting, orphanStep_eq, hreleased]
  rfl

/-- R123, R179: the held request of the open clip ends first. -/
def heldEnded (s : State) (e : DirEntry) : State := if s.store.dataHeld || s.store.sealing then s.complete e.writer .notFound else s

theorem heldEnded_frame (s : State) (e : DirEntry) : s.heldEnded e = { s with framer := (s.heldEnded e).framer, mgmt := (s.heldEnded e).mgmt } := by
  simp only [heldEnded, complete]
  (repeat' split) <;> rfl

theorem heldEnded_of_held {e : DirEntry} {q : Service} (hheld : s.store.dataHeld = true ∨ s.store.sealing = true)
    (hq : s.mgmt.inService.get e.writer = some q) : (s.heldEnded e).mgmt.inService.get e.writer = none
      ∧ ((s.heldEnded e).framer.holders.get e.writer).completion = (s.framer.holders.get e.writer).completion
        ++ [{ addr := BitVec.ofNat 8 s.gang.position, tag := q.tag, kind := BitVec.ofNat 8 q.kind.code, code := .notFound, data := .none }] := by
  have hended : s.heldEnded e = s.complete e.writer .notFound := if_pos (by simpa using hheld)
  rw [hended]
  simp only [complete, hq]
  exact ⟨by simp, by simp [reply, holders]⟩

theorem abortClip_eq (s : State) (e : DirEntry) : s.abortClip e = { s with
    framer := (s.heldEnded e).framer, mgmt := (s.heldEnded e).mgmt, store := dirtyClip (aborting s.store) e
    player := unprime (loseRead (untrack s.player e) e) e } := by
  obtain ⟨framer, mgmt, hheld⟩ : ∃ f m, s.heldEnded e = { s with framer := f, mgmt := m } := ⟨_, _, heldEnded_frame s e⟩
  show ((s.heldEnded e).setStore (dirtyClip (aborting (s.heldEnded e).store) e)).playerClipGone e = _
  rw [hheld]
  rfl

theorem abortClip_removed (t : Store) (e : DirEntry) : Removed t (dirtyClip (aborting t) e) e := by
  obtain ⟨hdir, hbacklog, hfirst, hstate, hflash⟩ := dirtyClip_removed (aborting t) e
  have hkept (k : Nat) : (aborting t).stateOf k = t.stateOf k := by rw [aborting_eq]; rfl
  refine ⟨hdir.trans ?_, hbacklog.trans ?_, hfirst.trans ?_, fun k => ?_, hflash.trans ?_⟩
  · rw [aborting_eq]
  · rw [aborting_eq]
  · rw [aborting_eq]
  · rw [hstate, hkept]
  · rw [aborting_eq]

/-- R123: the open clip's job after its clip has been aborted. -/
theorem abortClip_job (t : Store) (e : DirEntry) :
    (dirtyClip (aborting t) e).fill = none ∧ (dirtyClip (aborting t) e).handed = [] ∧ (dirtyClip (aborting t) e).clipCopy = none
    ∧ (dirtyClip (aborting t) e).spares = (releaseTarget t).spares ∧ (dirtyClip (aborting t) e).relocating = (releaseTarget t).relocating
    ∧ (dirtyClip (aborting t) e).orphanTarget = (releaseTarget t).orphanTarget
    ∧ (dirtyClip (aborting t) e).engine = t.engine.map (fun x => { x with orphan := x.orphan || decide (x.job = .clip) }) := by
  rw [dirtyClip_eq, aborting_eq]
  exact ⟨rfl, rfl, rfl, rfl, rfl, rfl, rfl⟩

theorem deleteClip_removed (s : State) (e : DirEntry) : Removed s.store (s.deleteClip e).store e := by
  obtain ⟨hdir, hbacklog, hfirst, hstate, hflash⟩ := dirtyClip_removed s.store e
  exact ⟨hdir, hbacklog, hfirst, hstate, hflash⟩

theorem deleteClip_queue (s : State) (e : DirEntry) (l : Nat) : l ∈ (s.deleteClip e).store.scrubQueue ↔
    l ∈ s.store.scrubQueue ∧ (l < e.first ∨ e.first + e.count ≤ l ∨ s.store.scrub.map (fun j => j.logical) = some l) := by
  have hqueue : (s.deleteClip e).store.scrubQueue = s.store.scrubQueue.filter
      (fun l => decide (l < e.first) || decide (e.first + e.count ≤ l) || s.store.scrub.map (fun j => j.logical) == some l) := by
    rw [← dirtyClip_queue s.store e]
    rfl
  simp [hqueue, List.mem_filter, or_assoc]

/-! ## BED SEAL (R122) -/

theorem ownBedSeal_of_refused {clip : Nat} {c : Completion} (hr : s.writerRefusal h clip = .error c) : s.ownBedSeal h clip = replied s h 26 c .none := by
  simp only [ownBedSeal, hr]
  rfl

theorem ownBedSeal_of_ok {clip : Nat} {e : DirEntry} (hr : s.writerRefusal h clip = .ok e) : s.ownBedSeal h clip =
    if e.next < e.length then replied s h 26 .outOfRange .none
    else if s.completionFull h.port = true then replied s h 26 .busy .none
    else inHand { s with store := takeSeal s.store } h .bedSeal := by
  simp only [ownBedSeal, hr]
  rfl

theorem takeSeal_sealing (t : Store) : (takeSeal t).sealing = true := by
  simp only [takeSeal]
  split
  · (repeat' split) <;> rfl
  · rfl

theorem takeSeal_of_empty (hempty : ∀ b, t.fill = some b → b.frames = []) : takeSeal t = { t with sealing := true } := by
  simp only [takeSeal]
  cases hfill : t.fill with
  | none => simp only [← hfill]
  | some b =>
    simp only [hempty b hfill, List.isEmpty_nil, if_true, ← hfill]

theorem takeSeal_of_frames {b : PageBuf} (hfill : t.fill = some b) (hframes : b.frames ≠ []) :
    takeSeal t = { t with handed := t.handed ++ [padPage b], fill := none, sealing := true } := by
  have hfull : ¬b.frames.isEmpty = true := by simpa using hframes
  simp only [takeSeal, hfill, if_neg hfull]

end State

/-- Settles O55: the refusals in their order, and the parts of a removal: the sectors and the directory, the player, the open clip's job and
its held request. -/
theorem clipsAreSealedAndRemoved : Obligations.ClipsAreSealedAndRemoved := by
  intro s h clip removed aborted
  have hremoved (u : Store) (e : DirEntry) (t : State) (hu : State.Removed s.store u e) (ht : t.store = u)
      (hplayer : t.player = State.unprime (State.loseRead (State.untrack s.player e) e) e) : removed t e := by
    subst ht
    refine ⟨hu.dir, hu.backlog, hu.backlogFirst, fun k hlow hhigh => ?_, fun k hout => ?_, hu.flash, hplayer.trans (State.playerGone_eq _ _)⟩
    · rw [hu.state, if_pos ⟨hlow, hhigh⟩]
    · rw [hu.state, if_neg (by omega)]
  have haborted (e : DirEntry) : aborted (s.abortClip e) e := by
    have habort := State.abortClip_eq s e
    have hstore : (s.abortClip e).store = State.dirtyClip (State.aborting s.store) e := by rw [habort]
    obtain ⟨hfill, hhanded, hcopy, hspares, hrelocating, htarget, hengine⟩ := State.abortClip_job s.store e
    refine ⟨hremoved _ e _ (State.abortClip_removed s.store e) hstore (by rw [habort]), ?_⟩
    rw [hstore, hfill, hhanded, hcopy, hspares, hrelocating, htarget, hengine]
    refine ⟨rfl, rfl, rfl, fun j p hj hp => State.releaseTarget_target hj hp, rfl, fun q hheld hq => ?_, ?_⟩
    · rw [habort]
      exact State.heldEnded_of_held hheld hq
    · rw [← hstore, habort]
  refine ⟨fun hr => ?_, fun hr => ?_, fun hr => ?_⟩
  · have hrun {t : State} (ht : s.ownBedSeal h clip = t) : exec (.bedSeal h clip) s = .next t := exec_owner (q := .bedSeal clip) hr ht
    refine ⟨fun hnone => hrun (State.ownBedSeal_of_refused (State.writerRefusal_of_notWriting hnone)), fun e hclip hstate => ?_⟩
    have hrefusal := State.writerRefusal_of_writing (h := h) hclip hstate
    have hfull := State.completionFull_iff s h.port
    refine ⟨fun hport => ?_, fun hport hfault => ?_, fun hport hsound => ?_⟩
    · exact hrun (State.ownBedSeal_of_refused (by rw [hrefusal, if_pos hport]))
    · exact hrun (State.ownBedSeal_of_refused (by rw [hrefusal, if_neg (fun h => h hport), if_pos hfault]))
    · have hok := State.ownBedSeal_of_ok (s := s) (h := h) (clip := clip) (e := e) (by simp [hrefusal, hport, hsound])
      refine ⟨fun hshort => hrun (hok.trans (if_pos hshort)),
        fun hend hqueue => hrun (hok.trans ((if_neg (Nat.not_lt.mpr hend)).trans (if_pos (hfull.mpr hqueue)))),
        fun hend hqueue => ⟨hrun (hok.trans ((if_neg (Nat.not_lt.mpr hend)).trans (if_neg fun hf => absurd (hfull.mp hf) (Nat.not_le.mpr hqueue)))),
          State.takeSeal_sealing _, State.takeSeal_of_empty, fun b hfill hframes => State.takeSeal_of_frames hfill hframes⟩⟩
  · have hrun {t : State} (ht : s.ownBedAbort h clip = t) : exec (.bedAbort h clip) s = .next t := exec_owner (q := .bedAbort clip) hr ht
    refine ⟨fun hnone => hrun ?_, fun e hclip hstate => ⟨s.abortClip e, hrun ?_, haborted e⟩⟩
    · simp only [State.ownBedAbort]
      cases hclip : s.store.clip clip with
      | none => rfl
      | some e => exact if_neg (hnone e hclip)
    · simp only [State.ownBedAbort, hclip, if_pos hstate]
      rfl
  · have hrun {t : State} (ht : s.ownBedDelete h clip = t) : exec (.bedDelete h clip) s = .next t := exec_owner (q := .bedDelete clip) hr ht
    refine ⟨fun hnone => hrun ?_, fun e hclip hstate => ⟨s.abortClip e, hrun ?_, haborted e⟩, fun e hclip hstate => ⟨s.deleteClip e, hrun ?_, ?_⟩⟩
    · simp only [State.ownBedDelete, hnone]
      rfl
    · simp only [State.ownBedDelete, hclip, if_pos hstate]
      rfl
    · simp only [State.ownBedDelete, hclip, if_neg hstate]
      rfl
    · exact ⟨hremoved _ e _ (State.deleteClip_removed s e) rfl rfl, State.deleteClip_queue s e, rfl, rfl⟩

end Sys2Proof.Machine
end


section
/-! PROOFS, family other. SAVE SETTINGS and the steps of the save job (R132, R133, R179, R184). -/

namespace Sys2Proof.Machine

namespace State

variable {s : State} {h : CtlHead} {x : EngineStep}

/-! ## The store's events at their moments (R113, R125), shared by every job -/

theorem eraseAtHand_of {p : Nat} (hop : x.op = .erase p) (hfree : s.store.readBanks = []) (hlast : x.progress = 11) : s.eraseAtHand x = true := by
  simp [eraseAtHand, hop, FlashOp.isErase, heldByRead, hfree, hlast, Config.erasePeriods]

theorem execEraseComplete_at_end {p : Nat} (hx : s.store.engine = some x) (hop : x.op = .erase p) (hfree : s.store.readBanks = [])
    (hlast : x.progress = 11) : exec .eraseComplete s = .next (s.eraseDone x) := by
  refine congrArg Host.Outcome.next ?_
  simp only [hx]
  exact if_pos (eraseAtHand_of hop hfree hlast)

theorem timeoutAtHand_of {p : Nat} (hop : x.op = .erase p) (hearly : x.progress < 11) (hlate : 200 ≤ (s.framer.count - x.start).toNat + 1) :
    s.timeoutAtHand x = true := by
  have hnot : s.eraseAtHand x = false := by
    simp only [eraseAtHand, Config.erasePeriods, Bool.and_eq_false_iff]
    exact .inr (decide_eq_false (by omega))
  have herase : x.op.isErase = true := by rw [hop]; rfl
  simp only [timeoutAtHand, hnot, herase, Bool.not_false, Bool.and_self, Bool.true_and, decide_eq_true_eq]
  exact hlate

theorem execEraseTimeout_at_end {p : Nat} (hx : s.store.engine = some x) (hop : x.op = .erase p) (hearly : x.progress < 11)
    (hlate : 200 ≤ (s.framer.count - x.start).toNat + 1) : exec .eraseTimeout s = .next (s.eraseTimedOut x) := by
  refine congrArg Host.Outcome.next ?_
  simp only [hx]
  exact if_pos (timeoutAtHand_of hop hearly hlate)

theorem execPageProgramComplete_at_end (hx : s.store.engine = some x) (hpage : isPage x.op = true)
    (hdone : 2 ≤ (s.framer.count - x.start).toNat + 1) (ok : Bool) : exec (.pageProgramComplete ok) s = .next (s.programDone x ok) := by
  refine congrArg Host.Outcome.next ?_
  simp only [hx]
  exact if_pos ⟨hpage, decide_eq_true hdone⟩

theorem execMarkProgramComplete_at_end (hx : s.store.engine = some x) (hmark : isMark x.op = true)
    (hdone : 2 ≤ (s.framer.count - x.start).toNat + 1) (ok : Bool) : exec (.markProgramComplete ok) s = .next (s.programDone x ok) := by
  refine congrArg Host.Outcome.next ?_
  simp only [hx]
  exact if_pos ⟨hmark, decide_eq_true hdone⟩

/-! ## The save job (R133) -/

theorem ownSaveSettings_of_busy (hbusy : s.otherHoldsStore h.port = true ∨ 2 ≤ (s.framer.holders.get h.port).completion.length) :
    s.ownSaveSettings h = replied s h 31 .busy .none :=
  if_pos (hbusy.imp id (completionFull_iff s h.port).mpr)

theorem ownSaveSettings_of_free (hfree : s.otherHoldsStore h.port = false) (hqueue : (s.framer.holders.get h.port).completion.length < 2) :
    s.ownSaveSettings h = s.takeSave h := by
  refine if_neg ?_
  rintro (hother | hfull)
  · simp [hfree] at hother
  · exact absurd ((completionFull_iff s h.port).mp hfull) (Nat.not_le.mpr hqueue)

theorem saveEnd_eq {j : SaveJob} {q : Service} (hq : s.mgmt.inService.get j.port = some q) (code : Completion) : s.saveEnd j code = { s with
    framer := { s.framer with holders := s.framer.holders.set j.port { s.framer.holders.get j.port with
      completion := (s.framer.holders.get j.port).completion
        ++ [{ addr := BitVec.ofNat 8 s.gang.position, tag := q.tag, kind := BitVec.ofNat 8 q.kind.code, code := code, data := .none }] } }
    mgmt := { s.mgmt with saveBuffer := none, inService := s.mgmt.inService.set j.port none }
    store := { s.store with save := none } } := by
  have hservice : ((s.setStore { s.store with save := none }).setMgmt { s.mgmt with saveBuffer := none }).mgmt.inService.get j.port = some q := hq
  show ((s.setStore { s.store with save := none }).setMgmt { s.mgmt with saveBuffer := none }).complete j.port code = _
  simp only [complete, hservice]
  rfl

theorem eraseDone_of_save {j : SaveJob} (hop : x.op = .erase 4160) (hjob : x.job = .save) (hsave : s.store.save = some j) :
    s.eraseDone x = { s with store := { s.store with
      engine := none, settings := { pages := [], disturbed := false }, save := some { j with erased := true } } } := by
  have hphys : x.op.phys = Config.settingsSector := by rw [hop]; rfl
  simp only [eraseDone, hjob, if_pos hphys, saveErased, setStore_store, hsave]
  rfl

theorem eraseTimedOut_of_save {j : SaveJob} (hjob : x.job = .save) (hsave : s.store.save = some j) :
    s.eraseTimedOut x = ({ s with store := { s.store with engine := none }, fault := captured s .storeErase .store (.erase 4160 (some 0)) } : State).saveEnd
      j .storeFault := by
  simp only [eraseTimedOut, hjob, saveTimedOut, raise_eq_captured, setStore_store, hsave]
  rfl

/-- R133: a page of the image completes in the settings sector, which the step's trace leaves. -/
theorem programDone_of_save {k : Nat} (hop : x.op = .settingsPage k) (horphan : x.orphan = false) (ok : Bool) :
    s.programDone x ok = (s.setStore { s.store with engine := none }).settingsPageDone k ok := by
  simp only [programDone, hop, horphan, programTrace]
  rfl

theorem settingsPageDone_of_verified {j : SaveJob} {v : Settings} (hsave : s.store.save = some j) (hbuffer : s.mgmt.saveBuffer = some v) (k : Nat) :
    s.settingsPageDone k true =
      if j.pages ≤ k + 1 then ({ s with store := { s.store with settings :=
        { pages := s.store.settings.pages ++ [imagePage v k], disturbed := false } } } : State).saveEnd j .done
      else { s with store := { s.store with
        settings := { pages := s.store.settings.pages ++ [imagePage v k], disturbed := false }, save := some { j with next := k + 1 } } } := by
  simp only [settingsPageDone, hsave, pageProgrammed, hbuffer]
  rfl

theorem settingsPageDone_of_failed {j : SaveJob} (hsave : s.store.save = some j) (k : Nat) :
    s.settingsPageDone k false = ({ s with fault := captured s .storeProgram .store (.program 4160 k) } : State).saveEnd j .storeFault := by
  simp only [settingsPageDone, hsave, raise_eq_captured]
  rfl

end State

/-- Settles O56: the snapshot as it is taken, and the steps of the save job, each at the moment of its event. -/
theorem saveSettingsTakesTheSnapshot : Obligations.SaveSettingsTakesTheSnapshot := by
  refine ⟨fun s h hr => ?_, fun s x j v q hx hjob horphan hsave hbuffer hq hfree => ?_⟩
  · intro image job
    exact ⟨fun hbusy => exec_owner (q := .saveSettings) hr (State.ownSaveSettings_of_busy hbusy),
      fun hother hqueue => exec_owner (q := .saveSettings) hr (State.ownSaveSettings_of_free hother hqueue)⟩
  · intro reply old ended
    refine ⟨fun hop => ⟨fun hlast => ?_, fun hearly hlate => ?_⟩, fun k hop hdone => ?_⟩
    · rw [State.execEraseComplete_at_end hx hop hfree hlast, State.eraseDone_of_save hop hjob hsave]
    · rw [State.execEraseTimeout_at_end hx hop hearly hlate, State.eraseTimedOut_of_save hjob hsave]
      exact congrArg Host.Outcome.next ((State.saveEnd_eq (by exact hq) _).trans rfl)
    · intro image
      have hpage : State.isPage x.op = true := by rw [hop]; rfl
      have hexec (ok : Bool) : exec (.pageProgramComplete ok) s = .next ((s.setStore { s.store with engine := none }).settingsPageDone k ok) := by
        rw [State.execPageProgramComplete_at_end hx hpage hdone, State.programDone_of_save hop horphan]
      have hverified := State.settingsPageDone_of_verified (s := s.setStore { s.store with engine := none }) hsave hbuffer k
      have hfailed := State.settingsPageDone_of_failed (s := s.setStore { s.store with engine := none }) hsave k
      refine ⟨fun hmore => ?_, fun hlast => ?_, ?_, fun hlast hpages => ?_⟩
      · rw [hexec, hverified, if_neg (by omega)]
        rfl
      · rw [hexec, hverified, if_pos hlast]
        exact congrArg Host.Outcome.next ((State.saveEnd_eq (by exact hq) _).trans rfl)
      · rw [hexec, hfailed]
        exact congrArg Host.Outcome.next ((State.saveEnd_eq (by exact hq) _).trans rfl)
      · simp only [image, savedImage, ← hlast, List.range_succ, List.map_append, hpages, List.map_cons, List.map_nil]

end Sys2Proof.Machine
end


section
/-! PROOFS, family other. The erases of the backlog (R116, R125, R127, R128, R131). -/

namespace Sys2Proof.Machine

namespace State

variable {s : State} {t : Store} {x : EngineStep} {l p q : Nat}

/-! ## The pool (R114) -/

theorem lowestErased_eq_none_iff : t.lowestErased = none ↔ ∀ y ∈ t.spares, y.2 = false := by
  simp [Store.lowestErased, List.find?_eq_none]

theorem mem_erase {k j : Nat} {v : Bool} {m : List (Nat × Bool)} : (j, v) ∈ Sparse.erase k m ↔ j ≠ k ∧ (j, v) ∈ m := by
  simp [Sparse.erase, List.mem_filter, and_comm]

/-- A pool without an erased sector finds the one that an erase has just made. -/
theorem find_insert_erased {m : List (Nat × Bool)} (hm : ∀ y ∈ m, y.2 = false) (k : Nat) :
    (Sparse.insert k true m).find? (fun y => y.2) = some (k, true) := by
  induction m with
  | nil => rfl
  | cons y m ih =>
    obtain ⟨i, w⟩ := y
    obtain rfl : w = false := hm (i, w) List.mem_cons_self
    have hrest := ih fun y hy => hm y (List.mem_cons_of_mem _ hy)
    simp only [Sparse.insert]
    (repeat' split) <;> simp [hrest]

theorem scrubDone_eq (t : Store) (p : Nat) : scrubDone t p = { t with scrubErase := (scrubDone t p).scrubErase } := by
  simp only [scrubDone]
  (repeat' split) <;> rfl

theorem spareErased_of_mem {v : Bool} (hmem : (q, v) ∈ t.spares) : spareErased t q = (scrubDone t q).addSpare q true := by
  refine if_pos ?_
  simp only [List.any_eq_true, beq_iff_eq]
  exact ⟨(q, v), hmem, rfl⟩

/-! ## The backlog (R127, R131) -/

theorem leaveBacklog_mem (t : Store) (l k : Nat) : k ∈ (t.leaveBacklog l).backlog ↔ k ∈ t.backlog ∧ k ≠ l := by
  simp [Store.leaveBacklog, List.mem_filter]

theorem leaveBacklog_stateOf (t : Store) (l k : Nat) : (t.leaveBacklog l).stateOf k = t.stateOf k := rfl

theorem replaceSector_eq (t : Store) (l p q : Nat) : replaceSector t l p q = { t with
    spares := Sparse.erase q t.spares, remap := Sparse.put id l q t.remap, retired := t.retired ++ [p], backlogMark := t.backlogMark ++ [p]
    logical := Sparse.put (fun _ => LogicalState.erased) l .erased t.logical, backlog := t.backlog.filter (fun k => decide (k ≠ l))
    backlogFirst := t.backlogFirst.filter (fun k => decide (k.1 ≠ l)), backlogWait := none } := rfl

/-- R128: the store after a sector that no spare can replace. -/
def exhausted (t : Store) (l : Nat) : Store := { (t.setState l .damaged).leaveBacklog l with backlogWait := none }

theorem backlogExhausted_eq (s : State) (l : Nat) : s.backlogExhausted l =
    { s with fault := captured s .sparesExhausted .store (.logical l), store := exhausted s.store l } := by
  rw [backlogExhausted, raise_eq_captured]
  rfl

theorem backlogReplace_of_erased (h : s.store.lowestErased = some q) : s.backlogReplace l p = s.setStore (replaceSector s.store l p q) := by
  simp only [backlogReplace, h]

theorem backlogReplace_of_none (h : s.store.spares = []) : s.backlogReplace l p = s.backlogExhausted l := by
  have hnone : s.store.lowestErased = none := by simp [Store.lowestErased, h]
  simp only [backlogReplace, hnone, h]

theorem backlogReplace_of_unerased (h : s.store.lowestErased = none) (hspares : s.store.spares ≠ []) :
    s.backlogReplace l p = s.setStore { s.store with backlogWait := some (l, p) } := by
  obtain ⟨y, m, hm⟩ := List.exists_cons_of_ne_nil hspares
  simp only [backlogReplace, h, hm]

/-! ## The end of an erase -/

/-- The state with the sector blank and the engine free. -/
def erasedAt (s : State) (p : Nat) : State := s.setStore { s.store.setSector p blankSector with engine := none }

theorem eraseDone_of_backlog (hop : x.op = .erase p) (hjob : x.job = .backlog) (hp : p ≠ 4160) :
    s.eraseDone x = (s.erasedAt p).backlogErased p := by
  have hphys : x.op.phys = p := by rw [hop]; rfl
  have hne : ¬p = Config.settingsSector := hp
  simp only [eraseDone, hjob, hphys, if_neg hne]
  rfl

theorem eraseTimedOut_of_backlog (hop : x.op = .erase p) (hjob : x.job = .backlog) :
    s.eraseTimedOut x = (s.setStore { s.store with engine := none }).backlogTimedOut p := by
  have hphys : x.op.phys = p := by rw [hop]; rfl
  simp only [eraseTimedOut, hjob, hphys]

theorem backlogErased_of_head (hwait : s.store.backlogWait = none) (hhead : s.store.backlog.find? (fun l => s.store.physOf l == p) = some l) :
    s.backlogErased p = s.setStore ((s.store.setState l .erased).leaveBacklog l) := by
  have hat : backlogAt s.store p = some l := hhead
  simp only [backlogErased, hwait, hat]

theorem backlogErased_of_wait (hwait : s.store.backlogWait = some (l, p)) (hnone : s.store.lowestErased = none) (hmem : (q, false) ∈ s.store.spares) :
    s.backlogErased q = s.setStore (replaceSector (spareErased s.store q) l p q) := by
  have hspare := spareErased_of_mem (t := s.store) hmem
  have hspares : (spareErased s.store q).spares = Sparse.insert q true s.store.spares := by
    rw [hspare, scrubDone_eq]
    rfl
  have hlowest : (s.setStore (spareErased s.store q)).store.lowestErased = some q := by
    simp only [setStore_store, Store.lowestErased, hspares, find_insert_erased (lowestErased_eq_none_iff.mp hnone)]
    rfl
  simp only [backlogErased, hwait, backlogReplace_of_erased hlowest]
  rfl

theorem backlogTimedOut_of_head (hwait : s.store.backlogWait = none) (hhead : s.store.backlog.find? (fun l => s.store.physOf l == p) = some l) :
    s.backlogTimedOut p = ({ s with fault := captured s .storeErase .store (.erase p none) } : State).backlogReplace l p := by
  have hat : backlogAt s.store p = some l := hhead
  simp only [backlogTimedOut, hwait, raise_eq_captured, hat]

theorem backlogTimedOut_of_wait (hwait : s.store.backlogWait = some (l, p)) : s.backlogTimedOut q =
    ({ s with fault := captured s .storeErase .store (.erase q none)
              store := retireMarked ((scrubDone s.store q).dropSpare q) .backlog q } : State).backlogReplace l p := by
  simp only [backlogTimedOut, hwait, spareTimedOut, raise_eq_captured]
  rfl

theorem spareErased_eq {v : Bool} (hmem : (q, v) ∈ t.spares) :
    ∃ mark, spareErased t q = { t with spares := Sparse.insert q true t.spares, scrubErase := mark } := by
  refine ⟨(scrubDone t q).scrubErase, ?_⟩
  rw [spareErased_of_mem hmem, scrubDone_eq]
  rfl

/-- The store that an erase timeout of an unerased spare leaves, before its replacement is judged. -/
def spareRetired (t : Store) (q : Nat) : Store := retireMarked ((scrubDone { t with engine := none } q).dropSpare q) .backlog q

theorem spareRetired_eq (t : Store) (q : Nat) : spareRetired t q = { t with
    engine := none, spares := Sparse.erase q t.spares, retired := t.retired ++ [q], backlogMark := t.backlogMark ++ [q]
    scrubErase := (spareRetired t q).scrubErase } := by
  obtain ⟨mark, hmark⟩ : ∃ m, scrubDone { t with engine := none } q = { t with engine := none, scrubErase := m } := ⟨_, scrubDone_eq _ q⟩
  rw [spareRetired, hmark]
  rfl

end State

/-- Settles O28: an erase that completes makes its sector ERASED, one that times out calls for a spare, and a replacement that waited for
its spare ends with the spare's erase. -/
theorem backlogErasesEnd : Obligations.BacklogErasesEnd := by
  refine ⟨fun s x p l hx hop hjob hp hfree hwait hhead => ⟨fun hlast => ?_, fun hearly hlate => ?_⟩, fun s l p q hwait hmark hspare => ?_,
    fun s x l p q hx hop hjob hq hfree hwait hnone hmem => ⟨fun hlast => ?_, fun hearly hlate => ?_⟩⟩
  · have hexec : exec .eraseComplete s = .next ((s.erasedAt p).backlogErased p) := by
      rw [State.execEraseComplete_at_end hx hop hfree hlast, State.eraseDone_of_backlog hop hjob hp]
    rw [State.backlogErased_of_head (s := s.erasedAt p) (l := l) hwait hhead] at hexec
    refine ⟨_, hexec, rfl, rfl, ?_, ?_, fun k hk => ?_, rfl, rfl⟩
    · exact (State.setState_stateOf _ l l .erased).trans (if_pos rfl)
    · exact fun hin => (State.leaveBacklog_mem _ _ _).mp hin |>.2 rfl
    · exact (State.leaveBacklog_mem _ _ _).trans (and_iff_left hk)
  · intro f
    have hexec : exec .eraseTimeout s = .next (({ s with fault := f, store := { s.store with engine := none } } : State).backlogReplace l p) := by
      rw [State.execEraseTimeout_at_end hx hop hearly hlate, State.eraseTimedOut_of_backlog hop hjob, State.backlogTimedOut_of_head (s := s.setStore { s.store with engine := none }) (l := l) hwait hhead]
      rfl
    refine ⟨fun q hq => ?_, fun hnone hspares => ?_, fun hspares => ?_⟩
    · rw [State.backlogReplace_of_erased (s := { s with fault := f, store := { s.store with engine := none } }) (q := q) hq] at hexec
      refine ⟨_, hexec, rfl, rfl, ?_, fun k e => State.mem_erase, rfl, rfl, ?_, rfl, rfl⟩
      · exact (State.setState_stateOf _ l l .erased).trans (if_pos rfl)
      · exact fun hin => (State.leaveBacklog_mem _ _ _).mp hin |>.2 rfl
    · rw [hexec, State.backlogReplace_of_unerased (s := { s with fault := f, store := { s.store with engine := none } }) hnone hspares]
      rfl
    · rw [State.backlogReplace_of_none (s := { s with fault := f, store := { s.store with engine := none } }) hspares, State.backlogExhausted_eq] at hexec
      refine ⟨_, hexec, rfl, ?_, ?_, rfl, rfl, rfl, hspares, rfl, rfl⟩
      · exact (State.setState_stateOf _ l l .damaged).trans (if_pos rfl)
      · exact fun hin => (State.leaveBacklog_mem _ _ _).mp hin |>.2 rfl
  · simp only [State.backlogStart, hmark, hwait, State.eraseSpare, hspare, Option.map_some]
  · have hexec : exec .eraseComplete s = .next ((s.erasedAt q).backlogErased q) := by
      rw [State.execEraseComplete_at_end hx hop hfree hlast, State.eraseDone_of_backlog hop hjob hq]
    rw [State.backlogErased_of_wait (s := s.erasedAt q) (l := l) (p := p) hwait hnone hmem] at hexec
    obtain ⟨mark, hspare⟩ := State.spareErased_eq (t := (s.erasedAt q).store) hmem
    rw [hspare] at hexec
    refine ⟨_, hexec, rfl, rfl, ?_, ?_, fun e hin => (State.mem_erase.mp hin).1 rfl, rfl, rfl, rfl, rfl⟩
    · exact (State.setState_stateOf _ l l .erased).trans (if_pos rfl)
    · exact fun hin => (State.leaveBacklog_mem _ _ _).mp hin |>.2 rfl
  · let u : State := { s with fault := captured s .storeErase .store (.erase q none), store := State.spareRetired s.store q }
    have hexec : exec .eraseTimeout s = .next (u.backlogReplace l p) := by
      rw [State.execEraseTimeout_at_end hx hop hearly hlate, State.eraseTimedOut_of_backlog hop hjob,
        State.backlogTimedOut_of_wait (s := s.setStore { s.store with engine := none }) hwait]
      rfl
    have hspares : u.store.spares = Sparse.erase q s.store.spares := congrArg Store.spares (State.spareRetired_eq s.store q)
    have hretired : u.store.retired = s.store.retired ++ [q] := congrArg Store.retired (State.spareRetired_eq s.store q)
    have hmark : u.store.backlogMark = s.store.backlogMark ++ [q] := congrArg Store.backlogMark (State.spareRetired_eq s.store q)
    have hgone (e : Bool) : (q, e) ∉ u.store.spares := by
      rw [hspares]
      exact fun hin => (State.mem_erase.mp hin).1 rfl
    by_cases hempty : u.store.spares = []
    · rw [State.backlogReplace_of_none hempty, State.backlogExhausted_eq] at hexec
      refine ⟨_, hexec, hgone, hretired, hmark, ?_, rfl⟩
      rintro ⟨⟨k, e⟩, hy, hne⟩
      have hstays : (k, e) ∈ u.store.spares := by
        rw [hspares]
        exact State.mem_erase.mpr ⟨hne, hy⟩
      simp [hempty] at hstays
    · have hunerased : u.store.lowestErased = none := by
        rw [State.lowestErased_eq_none_iff, hspares]
        exact fun y hy => State.lowestErased_eq_none_iff.mp hnone y (State.mem_erase.mp hy).2
      rw [State.backlogReplace_of_unerased hunerased hempty] at hexec
      exact ⟨_, hexec, hgone, hretired, hmark, fun _ => ⟨rfl, rfl⟩, rfl⟩

end Sys2Proof.Machine
end


section
/-! PROOFS, family other. The program steps of the open clip: pages, seal markers and retire marks (R113, R116, R121, R122, R126). -/

namespace Sys2Proof.Machine

namespace State

variable {s : State} {x : EngineStep} {e : DirEntry} {p k : Nat}

/-! ## The writer's reply -/

theorem complete_of_service {c : CtlPort} {q : Service} (hq : s.mgmt.inService.get c = some q) (code : Completion) : s.complete c code = { s with
    framer := { s.framer with holders := s.framer.holders.set c { s.framer.holders.get c with
      completion := (s.framer.holders.get c).completion
        ++ [{ addr := BitVec.ofNat 8 s.gang.position, tag := q.tag, kind := BitVec.ofNat 8 q.kind.code, code := code, data := .none }] } }
    mgmt := { s.mgmt with inService := s.mgmt.inService.set c none } } := by
  simp only [complete, hq]
  rfl

theorem answerWriter_of_writing (hwriting : s.store.writing = some e) (code : Completion) : s.answerWriter code = s.complete e.writer code := by
  simp only [answerWriter, hwriting]

/-- R179: the reply that ends the request of the open clip's writer. -/
structure Answered (s t : State) (c : CtlPort) (q : Service) : Prop where
  completion : (t.framer.holders.get c).completion = (s.framer.holders.get c).completion
    ++ [{ addr := BitVec.ofNat 8 s.gang.position, tag := q.tag, kind := BitVec.ofNat 8 q.kind.code, code := .done, data := .none }]
  service : t.mgmt.inService.get c = none

theorem complete_answered {c : CtlPort} {q : Service} (hq : s.mgmt.inService.get c = some q) : Answered s (s.complete c .done) c q := by
  rw [complete_of_service hq]
  exact ⟨by simp, by simp⟩

theorem complete_store {c : CtlPort} {q : Service} (hq : s.mgmt.inService.get c = some q) (code : Completion) : (s.complete c code).store = s.store := by
  rw [complete_of_service hq]

/-! ## A program step's end (R113) -/

/-- The state in which a program step's outcome is judged. -/
def stepped (s : State) (x : EngineStep) (ok : Bool) : State := s.setStore { programTrace s.store x.op ok with engine := none }

theorem programDone_of_page {frames : List BedFrame} {h : Option Header} {b : Bool} (hop : x.op = .page p k frames h b) (hjob : x.job = .clip)
    (horphan : x.orphan = false) (ok : Bool) : s.programDone x ok = (s.stepped x ok).clipPageDone p k ok := by
  simp only [programDone, stepped, hop, horphan, hjob]
  rfl

theorem programDone_of_sealMark (hop : x.op = .sealMark p) (horphan : x.orphan = false) (ok : Bool) :
    s.programDone x ok = (s.stepped x ok).sealMarkDone p ok := by
  simp only [programDone, stepped, hop, horphan]
  rfl

theorem programDone_of_retireMark (hop : x.op = .retireMark p) (hjob : x.job = .clip) (horphan : x.orphan = false) (ok : Bool) :
    s.programDone x ok = (s.stepped x ok).retireMarkDone .clip := by
  simp only [programDone, stepped, hop, horphan, hjob]
  rfl

/-! ## Pages (R121, R126) -/

theorem clipPageDone_of_handed {b : PageBuf} {m : List PageBuf} (hcopy : s.store.clipCopy = none) (hhanded : s.store.handed = b :: m)
    (hwriting : s.store.writing = some e) (ok : Bool) : s.clipPageDone p k ok =
      if ok = true then s.bufferEmptied else s.relocate (e.first + b.page / 64) p k (.failedPage k b.frames) := by
  simp only [clipPageDone, hcopy, hhanded, hwriting]

theorem bufferEmptied_of_idle {b : PageBuf} {m : List PageBuf} (hhanded : s.store.handed = b :: m) (hheld : s.store.dataHeld = false) :
    s.bufferEmptied = { s with store := { s.store with handed := m } } := by
  simp only [bufferEmptied, hheld, hhanded, List.drop_succ_cons, List.drop_zero]
  rfl

theorem bufferEmptied_of_held {b : PageBuf} {m : List PageBuf} (hhanded : s.store.handed = b :: m) (hheld : s.store.dataHeld = true)
    (hwriting : s.store.writing = some e) : s.bufferEmptied =
      ({ s with store := { s.store with handed := m, fill := some { page := e.next / 16, frames := [] }, dataHeld := false } } : State).complete e.writer .done := by
  have hanswer (u : State) (hu : u.store.writing = some e) := answerWriter_of_writing (s := u) hu .done
  simp only [bufferEmptied, hheld, hhanded, hwriting, List.drop_succ_cons, List.drop_zero, if_true]
  exact hanswer _ hwriting

/-! ## A failed page (R126) -/

theorem relocate_eq (s : State) (l p k : Nat) (kind : CopyKind) : s.relocate l p k kind =
    ({ s with fault := captured s .storeProgram .store (.program p k) } : State).relocateStep1
      { logical := l, source := p, kind := kind, target := none, plan := [] } := by
  rw [relocate, raise_eq_captured]

theorem answerWriter_fault (s : State) (code : Completion) : (s.answerWriter code).fault = s.fault := by
  simp only [answerWriter, complete]
  split
  · split <;> rfl
  · rfl

theorem clipExhausted_fault (s : State) (l : Nat) : (s.clipExhausted l).fault = captured s .sparesExhausted .store (.logical l) := by
  rw [← raise_fault]
  simp only [clipExhausted]
  repeat' split
  · exact answerWriter_fault _ _
  · rfl

/-- R161: a later fault keeps the record's first fault and its kinds. -/
theorem captured_keeps (s : State) (k : FaultKind) (o : FaultOrigin) (d : FaultDetail) :
    (∀ f, s.fault.first = some f → (captured s k o d).first = some f) ∧ ∀ j, j ∈ s.fault.later → j ∈ (captured s k o d).later := by
  cases hfirst : s.fault.first with
  | none => simp [captured, hfirst]
  | some x =>
    rw [captured_of_locked hfirst]
    exact ⟨fun f hf => hf, fun j hj => (FaultKind.mem_join_iff k j _).mpr (.inr hj)⟩

/-- R126: what the search for a target keeps of the fault record. -/
theorem relocateStep1_fault (s : State) (j : CopyJob) : (∀ f, s.fault.first = some f → (s.relocateStep1 j).fault.first = some f)
    ∧ ∀ kind, kind ∈ s.fault.later → kind ∈ (s.relocateStep1 j).fault.later := by
  simp only [relocateStep1]
  split
  · exact ⟨fun _ hf => hf, fun _ hk => hk⟩
  · split
    · rw [clipExhausted_fault]
      exact captured_keeps s _ _ _
    · exact ⟨fun _ hf => hf, fun _ hk => hk⟩

theorem relocateStep1_of_erased {j : CopyJob} {q : Nat} (hq : s.store.lowestErased = some q) :
    q ∈ (s.relocateStep1 j).store.relocating ∧ ∃ i, (s.relocateStep1 j).store.clipCopy = some i ∧ i.target = some q ∧ i.source = j.source := by
  simp only [relocateStep1, hq, setStore_store]
  exact ⟨by simp [Store.takeSpare], _, rfl, rfl, rfl⟩

/-! ## The end of a seal (R122, R126) -/

/-- R122: the directory once the seal has ended. -/
def sealedDir (t : Store) : List DirEntry :=
  t.dir.map (fun y => if y.state = .writing then { y with state := if y.damageSeen = true then .damaged else .sealed } else y)

theorem sealDone_eq {q : Service} (hwriting : s.store.writing = some e) (hq : s.mgmt.inService.get e.writer = some q) :
    s.sealDone = (s.complete e.writer .done).setStore { s.store with
      dir := sealedDir s.store, sealing := false, sealAfterMark := false, fill := none, handed := [] } := by
  simp only [sealDone, answerWriter_of_writing hwriting, complete_store hq]
  rfl

theorem sealDone_answered {q : Service} (hwriting : s.store.writing = some e) (hq : s.mgmt.inService.get e.writer = some q) :
    Answered s s.sealDone e.writer q := by
  obtain ⟨hcompletion, hservice⟩ := complete_answered hq
  rw [sealDone_eq hwriting hq]
  exact ⟨hcompletion, hservice⟩

theorem retireMarkDone_of_more (h : s.store.sealAfterMark = false ∨ s.store.clipMark.drop 1 ≠ []) :
    s.retireMarkDone .clip = s.setStore { s.store with clipMark := s.store.clipMark.drop 1 } := by
  refine if_neg ?_
  rintro ⟨-, hafter, hlast⟩
  obtain hnot | hmore := h
  · exact absurd (hnot.symm.trans hafter) (by simp)
  · exact hmore hlast

theorem retireMarkDone_of_last (hafter : s.store.sealAfterMark = true) (hlast : s.store.clipMark.drop 1 = []) :
    s.retireMarkDone .clip = (s.setStore { s.store with clipMark := [] }).sealDone := by
  have hdrop : dropMark s.store .clip = { s.store with clipMark := [] } := by
    rw [← hlast]
    rfl
  refine (if_pos ⟨rfl, hafter, hlast⟩).trans ?_
  rw [hdrop]

end State

namespace State

variable {s : State} {x : EngineStep} {p k : Nat}

/-! ## The flash after a step (R116) -/

theorem stepped_of_page {frames : List BedFrame} {h : Option Header} {b : Bool} (hop : x.op = .page p k frames h b) (ok : Bool) :
    s.stepped x ok = { s with store := { s.store with engine := none, flash := (programTrace s.store x.op ok).flash } } := by
  simp only [stepped, hop, programTrace]
  rfl

theorem pageTrace_of_verified {t : Store} {frames : List BedFrame} {h : Option Header} (hop : x.op = .page p k frames h false) :
    (programTrace t x.op true).flash = Memory.write t.flash p { Memory.read t.flash p with
      pages := Sparse.insert k frames (Memory.read t.flash p).pages, touched := true
      header := if k = 0 then h else (Memory.read t.flash p).header
      sealMarker := if k = 0 then false else (Memory.read t.flash p).sealMarker } := by
  by_cases hk : k = 0
  · simp [programTrace, hop, hk, Store.setSector, Store.sector]
  · simp [programTrace, hop, hk, Store.setSector, Store.sector]

theorem stepped_of_sealMark (hop : x.op = .sealMark p) : s.stepped x true = { s with store := { s.store with
    engine := none, flash := Memory.write s.store.flash p { Memory.read s.store.flash p with sealMarker := true } } } := by
  simp only [stepped, hop, programTrace]
  rfl

theorem stepped_of_retireMark (hop : x.op = .retireMark p) (ok : Bool) : s.stepped x ok = { s with store := { s.store with
    engine := none
    flash := if ok = true then Memory.write s.store.flash p { Memory.read s.store.flash p with retire := true } else s.store.flash } } := by
  cases ok
  · simp only [stepped, hop, programTrace]
    rfl
  · simp only [stepped, hop, programTrace]
    rfl

end State

/-- Settles O27: each kind of step, its trace in the flash, and what its outcome then calls for. -/
theorem programStepsComplete : Obligations.ProgramStepsComplete := by
  intro s x e hx hjob horphan hdone hwriting answered
  refine ⟨fun p k frames h b m hop hcopy hhanded => ?_, fun p q hop hq => ?_, fun p ok hop => ?_⟩
  · intro y flash
    have hpage : State.isPage x.op = true := by rw [hop]; rfl
    have hflash : (State.programTrace s.store x.op true).flash = flash := State.pageTrace_of_verified hop
    let u (ok : Bool) : State := { s with store := { s.store with engine := none, flash := (State.programTrace s.store x.op ok).flash } }
    have hexec (ok : Bool) : exec (.pageProgramComplete ok) s = .next (if ok = true then (u ok).bufferEmptied
        else (u ok).relocate (e.first + b.page / 64) p k (.failedPage k b.frames)) := by
      rw [State.execPageProgramComplete_at_end hx hpage hdone, State.programDone_of_page hop hjob horphan, State.stepped_of_page hop]
      exact congrArg Host.Outcome.next (State.clipPageDone_of_handed (s := u ok) hcopy hhanded hwriting ok)
    have hverified : exec (.pageProgramComplete true) s = .next (u true).bufferEmptied := hexec true
    refine ⟨fun hheld => ?_, fun hheld q hq => ?_, ?_⟩
    · rw [hverified, State.bufferEmptied_of_idle (s := u true) hhanded hheld, ← hflash]
    · let v : State := { u true with store := { (u true).store with handed := m, fill := some { page := e.next / 16, frames := [] }, dataHeld := false } }
      rw [State.bufferEmptied_of_held (s := u true) (e := e) hhanded hheld hwriting] at hverified
      obtain ⟨hcompletion, hservice⟩ := State.complete_answered (s := v) (c := e.writer) hq
      refine ⟨v.complete e.writer .done, hverified, ?_, ⟨hcompletion, hservice⟩, ?_⟩
      · rw [State.complete_store (s := v) hq, ← hflash]
      · rw [State.complete_of_service (s := v) (c := e.writer) hq]
    · have hfailed : exec (.pageProgramComplete false) s = .next ((u false).relocate (e.first + b.page / 64) p k (.failedPage k b.frames)) := hexec false
      rw [State.relocate_eq] at hfailed
      refine ⟨_, hfailed, fun hempty => ?_, fun hlocked => ?_, fun q hq => ?_⟩
      · refine (State.relocateStep1_fault _ _).1 _ ?_
        simp [captured, u, hempty]
      · refine (State.relocateStep1_fault _ _).2 _ ?_
        obtain ⟨f, hf⟩ := Option.ne_none_iff_exists'.mp hlocked
        simp only [captured_of_locked (s := u false) hf]
        exact (FaultKind.mem_join_iff _ _ _).mpr (.inl rfl)
      · exact State.relocateStep1_of_erased hq
  · have hmark : State.isMark x.op = true := by rw [hop]; rfl
    let u : State := { s with store := { s.store with
      engine := none, flash := Memory.write s.store.flash p { Memory.read s.store.flash p with sealMarker := true } } }
    have hexec : exec (.markProgramComplete true) s = .next u.sealDone := by
      rw [State.execMarkProgramComplete_at_end hx hmark hdone, State.programDone_of_sealMark hop horphan, State.stepped_of_sealMark hop]
      rfl
    have hsealed := State.sealDone_eq (s := u) hwriting hq
    obtain ⟨hcompletion, hservice⟩ := State.sealDone_answered (s := u) hwriting hq
    refine ⟨u.sealDone, hexec, ?_, ?_, ?_, ?_, hcompletion, hservice⟩
    · rw [hsealed]
      rfl
    · rw [hsealed]
      rfl
    · rw [hsealed]
      rfl
    · rw [hsealed]
      rfl
  · have hmark : State.isMark x.op = true := by rw [hop]; rfl
    intro flash
    let u : State := { s with store := { s.store with engine := none, flash := flash } }
    have hexec : exec (.markProgramComplete ok) s = .next (u.retireMarkDone .clip) := by
      rw [State.execMarkProgramComplete_at_end hx hmark hdone, State.programDone_of_retireMark hop hjob horphan, State.stepped_of_retireMark hop]
    refine ⟨fun hmore => ?_, fun hafter hlast q hq => ?_⟩
    · rw [hexec, State.retireMarkDone_of_more (s := u) hmore]
      rfl
    · let v : State := u.setStore { u.store with clipMark := [] }
      rw [State.retireMarkDone_of_last (s := u) hafter hlast] at hexec
      have hsealed := State.sealDone_eq (s := v) hwriting hq
      obtain ⟨hcompletion, hservice⟩ := State.sealDone_answered (s := v) hwriting hq
      refine ⟨v.sealDone, hexec, ?_, ?_, ?_, ?_, ?_, ?_, hcompletion, hservice⟩
      · rw [hsealed]
        rfl
      · rw [hsealed]
        rfl
      · rw [hsealed]
        rfl
      · rw [hsealed]
        rfl
      · rw [hsealed]
        rfl
      · rw [hsealed]
        rfl

end Sys2Proof.Machine
end


section
/-! PROOFS, family other. Play order (R136): the pages of a clip that the player wants, from the page at hand on. -/

namespace Sys2Proof.Machine

variable {e : DirEntry} {n p q : Nat} {acc : List Nat}

theorem nextPage_eq (e : DirEntry) (p : Nat) : nextPage e p =
    if 0 < e.loopLength ∧ (p = (e.loopStart + e.loopLength - 1) / 16 ∨ lastPage e ≤ p) then some (e.loopStart / 16)
    else if p < lastPage e then some (p + 1) else none := by
  simp only [nextPage]
  by_cases hloops : 0 < e.loopLength
  · rw [if_pos hloops]
    by_cases hend : p = (e.loopStart + e.loopLength - 1) / 16 ∨ lastPage e ≤ p
    · rw [if_pos hend, if_pos ⟨hloops, hend⟩]
    · rw [if_neg hend, if_neg fun h => hend h.2, if_pos (by omega)]
  · simp [hloops]

/-- Consecutive pages of a list follow each other in play order. -/
def InOrder (e : DirEntry) (l : List Nat) : Prop := ∀ i p q, l[i]? = some p → l[i + 1]? = some q → nextPage e p = some q

theorem inOrder_append (hacc : InOrder e acc) (hlast : ∀ y, acc.getLast? = some y → nextPage e y = some p) : InOrder e (acc ++ [p]) := by
  intro i x y hx hy
  obtain hin | hend := Nat.lt_or_ge (i + 1) acc.length
  · rw [List.getElem?_append_left (by omega)] at hx
    rw [List.getElem?_append_left hin] at hy
    exact hacc i x y hx hy
  · have hlen : i + 1 < (acc ++ [p]).length := (List.getElem?_eq_some_iff.mp hy).1
    have hi : i + 1 = acc.length := by
      simp only [List.length_append, List.length_singleton] at hlen
      omega
    rw [List.getElem?_append_left (by omega)] at hx
    rw [hi, List.getElem?_append_right (Nat.le_refl _)] at hy
    simp only [Nat.sub_self, List.getElem?_cons_zero, Option.some.injEq] at hy
    rw [← hy]
    refine hlast x ?_
    rw [List.getLast?_eq_getElem?, ← hi]
    simpa using hx

/-- What play order's walk leaves: the pages it began with, distinct and in order, and cut only by its length or where the order returns. -/
structure Walk (e : DirEntry) (n : Nat) (acc l : List Nat) : Prop where
  nodup : l.Nodup
  length : l.length ≤ acc.length + n
  order : InOrder e l
  closed : l.length < acc.length + n → ∀ x y, l.getLast? = some x → nextPage e x = some y → y ∈ l
  start : acc <+: l

theorem playFrom_walk (hnodup : acc.Nodup) (horder : InOrder e acc) (hlast : ∀ y, acc.getLast? = some y → nextPage e y = some p) :
    Walk e n acc (playFrom e n p acc) := by
  induction n generalizing p acc with
  | zero => exact ⟨hnodup, Nat.le_refl _, horder, fun h => absurd h (by simp [playFrom]), List.prefix_refl _⟩
  | succ n ih =>
    simp only [playFrom]
    split
    next hin =>
      refine ⟨hnodup, by omega, horder, fun _ x y hx hy => ?_, List.prefix_refl _⟩
      have hxy := (hlast x hx).symm.trans hy
      obtain rfl := Option.some.inj hxy
      exact hin
    next hin =>
      have hnodup' : (acc ++ [p]).Nodup := List.nodup_append.mpr ⟨hnodup, by simp, by
        rintro x hx y hy rfl
        exact hin (List.mem_singleton.mp hy ▸ hx)⟩
      have horder' := inOrder_append horder hlast
      cases hnext : nextPage e p with
      | none =>
        refine ⟨hnodup', by simp, horder', fun _ x y hx hy => ?_, List.prefix_append _ _⟩
        rw [List.getLast?_concat] at hx
        rw [← Option.some.inj hx, hnext] at hy
        exact absurd hy (by simp)
      | some q =>
        obtain ⟨hn, hlen, ho, hclosed, hstart⟩ := ih (p := q) (acc := acc ++ [p]) hnodup' horder' (by
          intro y hy
          rw [List.getLast?_concat] at hy
          rw [← Option.some.inj hy, hnext])
        simp only [List.length_append, List.length_singleton] at hlen hclosed
        show Walk e (n + 1) acc (playFrom e n q (acc ++ [p]))
        exact ⟨hn, by omega, ho, fun h => hclosed (by omega), (List.prefix_append _ _).trans hstart⟩

theorem walk_nil (e : DirEntry) (n : Nat) : Walk e n [] [] where
  nodup := List.nodup_nil
  length := Nat.zero_le _
  order i p q hp := absurd hp (by simp)
  closed _ x y hx := absurd hx (by simp)
  start := List.prefix_refl _

theorem pagesFor_walk (e : DirEntry) (off : Int) (n : Nat) : Walk e n [] (pagesFor e off n) := by
  simp only [pagesFor]
  split
  · exact walk_nil e n
  · exact playFrom_walk List.nodup_nil (fun i p q hp => absurd hp (by simp)) fun y hy => absurd hy (by simp)

theorem playFrom_head (e : DirEntry) (n p : Nat) : (playFrom e (n + 1) p []).head? = some p := by
  simp only [playFrom, List.not_mem_nil, if_false, List.nil_append]
  cases hnext : nextPage e p with
  | none => rfl
  | some q =>
    have hwalk : Walk e n [p] (playFrom e n q [p]) := playFrom_walk (by simp) (by
      intro i x y _ hy
      exact absurd hy (by simp)) (by
      intro y hy
      obtain rfl : p = y := by simpa using hy
      exact hnext)
    obtain ⟨m, hm⟩ := hwalk.start
    show (playFrom e n q [p]).head? = some p
    rw [← hm]
    rfl

theorem pagesFor_head (e : DirEntry) (off : Int) (n : Nat) : (pagesFor e off (n + 1)).head? = startPage e off := by
  simp only [pagesFor]
  cases hstart : startPage e off with
  | none => rfl
  | some p => exact playFrom_head e n p

theorem effective_eq (e : DirEntry) (off : Int) : e.effective off =
    if off < 0 then none else if off < e.length then some off.toNat
    else if 0 < e.loopLength then some (e.loopStart + (off.toNat - e.loopStart) % e.loopLength) else none := by
  simp only [DirEntry.effective]
  by_cases hoff : off < 0
  · rw [if_pos hoff, if_pos hoff]
  · have hlt : off.toNat < e.length ↔ off < e.length := by omega
    rw [if_neg hoff, if_neg hoff]
    simp only [hlt]

theorem startPage_eq (e : DirEntry) (off : Int) : startPage e off = if off < 0 then some 0 else (e.effective off).map (fun f => f / 16) := by
  simp only [startPage]
  split
  next => rfl
  next => cases e.effective off <;> rfl

end Sys2Proof.Machine
end


section
/-! PROOFS, family other. The bed player's reads, its window and its prime (R124, R125, R129, R130, R135 to R139). -/

namespace Sys2Proof.Machine

theorem filter_const_true {α : Type} (l : List α) : l.filter (fun _ => true) = l := List.filter_eq_self.2 fun _ _ => rfl

namespace State

variable {s : State} {c page start : Nat} {e : DirEntry}

/-! ## A read at its bank (R124, R125) -/

theorem bankBusy_iff (hengine : s.store.engine = none) (p : Nat) : s.bankBusy p = true ↔ p % 4 ∈ s.store.readBanks := by
  simp [bankBusy, bankPrograms, hengine, bankFree, bankOf]

theorem suspendErase_of_free {t : Store} (hengine : t.engine = none) (p : Nat) : suspendErase t p = t := by
  simp only [suspendErase, hengine]

/-- The state whose bank has served the read. -/
def bankRead (s : State) (p : Nat) : State := { s with store := { s.store with readBanks := p % 4 :: s.store.readBanks } }

theorem execPageRead_eq (hact : s.framer.run = .gangWait ∨ s.framer.run = .running) (ecc : Ecc) :
    exec (.pageRead ecc) s = .next (s.playerRead ecc) :=
  congrArg Host.Outcome.next (if_pos ((acting_iff s).mpr hact))

theorem playerRead_of_clip (hread : s.player.reading = some (c, page)) (hclip : s.store.clip c = some e) (hengine : s.store.engine = none) (ecc : Ecc) :
    (s.store.physOf (e.first + page / 64) % 4 ∈ s.store.readBanks → s.playerRead ecc = s)
    ∧ (s.store.physOf (e.first + page / 64) % 4 ∉ s.store.readBanks → s.playerRead ecc =
        ((s.bankRead (s.store.physOf (e.first + page / 64))).eccOutcome (e.first + page / 64) (page % 64) ecc).playerDeliver
          { clip := e.id, page := page,
            frames := delivered (s.store.sector (s.store.physOf (e.first + page / 64))) (page % 64) ecc, zero := decide (ecc = .uncorrectable) }) := by
  have hbusy := bankBusy_iff hengine (s.store.physOf (e.first + page / 64))
  have hread : s.playerRead ecc = if s.bankBusy (s.store.physOf (e.first + page / 64)) = true then s else s.serveRead e page ecc := by
    simp only [playerRead, hread, hclip]
  rw [hread]
  refine ⟨fun hin => if_pos (hbusy.mpr hin), fun hout => (if_neg (mt hbusy.mp hout)).trans ?_⟩
  simp only [serveRead, suspendErase_of_free hengine]
  rfl

theorem playerRead_of_lost {x : LostRead} (hread : s.player.reading = none) (hlost : s.player.lostRead = some x) (hengine : s.store.engine = none)
    (ecc : Ecc) : s.playerRead ecc = if s.store.physOf x.sector % 4 ∈ s.store.readBanks then s else s.serveLost x ecc := by
  have hbusy := bankBusy_iff hengine (s.store.physOf x.sector)
  simp only [playerRead, hread, hlost, hbusy]

/-! ## The ECC outcome (R129, R130) -/

theorem readCorrected_eq (s : State) (l : Nat) : s.readCorrected l = { s with store := { s.store with
    corrected := Sparse.put (fun _ => 0) l (min 4 (s.store.countOf l + 1)) s.store.corrected
    scrubQueue := if min 4 (s.store.countOf l + 1) = 4 ∧ l ∉ s.store.scrubQueue ∧ s.store.scrubQueue.length < 8
      then s.store.scrubQueue ++ [l] else s.store.scrubQueue } } := by
  have hfull : (s.store.scrubQueue.contains l = true ∨ Config.scrubQueueSize ≤ s.store.scrubQueue.length)
      ↔ ¬(l ∉ s.store.scrubQueue ∧ s.store.scrubQueue.length < 8) := by
    rw [Decidable.not_and_iff_not_or_not, Decidable.not_not, Nat.not_lt, List.contains_iff_mem]
    rfl
  have hcount : (s.setStore (s.store.setCount l (min 4 (s.store.countOf l + 1)))).store.scrubQueue = s.store.scrubQueue := rfl
  simp only [readCorrected, scrubOffer, hcount, hfull, ite_not]
  generalize min 4 (s.store.countOf l + 1) = n
  by_cases hn : n = 4
  · by_cases hroom : l ∉ s.store.scrubQueue ∧ s.store.scrubQueue.length < 8
    · rw [if_pos hn, if_pos hroom, if_pos ⟨hn, hroom⟩]
      rfl
    · rw [if_pos hn, if_neg hroom, if_neg fun h => hroom h.2]
      rfl
  · rw [if_neg hn, if_neg fun h => hn h.1]
    rfl

/-! ## A page for the window (R136) -/

theorem playerDeliver_of_wanted {x : PageSlot} (htracked : s.player.tracked = some (x.clip, start))
    (hwanted : s.windowWanted.contains x.page = true) (hlacks : holdsPage s.player.window x.clip x.page = false) :
    s.playerDeliver x = { s with player := { s.player with reading := none, window := s.player.window ++ [x] } } := by
  simp only [playerDeliver, htracked, hwanted, hlacks, beq_self_eq_true, Bool.not_false, Bool.and_self, if_true]
  rfl

/-- R138: a page for the prime of a player that tracks nothing. -/
theorem playerDeliver_of_prime {q : Prime} (htracked : s.player.tracked = none) (hprime : s.player.prime = some q)
    (hwanted : s.primeWanted.contains page = true) (hlacks : holdsPage q.slots q.clip page = false) (frames : List BedFrame) (zero : Bool) :
    s.playerDeliver { clip := q.clip, page := page, frames := frames, zero := zero } = { s with player := { s.player with
      reading := none, prime := some { q with slots := q.slots ++ [{ clip := q.clip, page := page, frames := frames, zero := zero }] } } } := by
  have htrim (u : State) (hu : u.player.tracked = none) : u.windowTrim = u := by simp only [windowTrim, hu]
  simp only [playerDeliver, htracked, Bool.false_and, Bool.false_eq_true, if_false, setPlayer_player, hprime, hwanted, hlacks, and_self, if_true]
  exact htrim _ rfl

/-- R129: a page that cannot be read marks its clip; play order stays as it was. -/
theorem damaged_play (e : DirEntry) : (damaged e).id = e.id ∧ (damaged e).length = e.length ∧ (damaged e).loopStart = e.loopStart
    ∧ (damaged e).loopLength = e.loopLength := by
  simp only [damaged]
  cases e.state <;> exact ⟨rfl, rfl, rfl, rfl⟩

/-! ## Play order and the clip's state -/

/-- Two entries whose pages follow each other alike. -/
structure PlaysAlike (e f : DirEntry) : Prop where
  length : f.length = e.length
  loopStart : f.loopStart = e.loopStart
  loopLength : f.loopLength = e.loopLength

theorem PlaysAlike.refl (e : DirEntry) : PlaysAlike e e := ⟨rfl, rfl, rfl⟩

theorem damaged_playsAlike (e : DirEntry) : PlaysAlike e (damaged e) := by
  obtain ⟨-, hlength, hstart, hloop⟩ := damaged_play e
  exact ⟨hlength, hstart, hloop⟩

theorem PlaysAlike.nextPage {e f : DirEntry} (h : PlaysAlike e f) (p : Nat) : Machine.nextPage f p = Machine.nextPage e p := by
  obtain ⟨hlength, hstart, hloop⟩ := h
  rw [Machine.nextPage, Machine.nextPage, lastPage, lastPage, hlength, hstart, hloop]

theorem PlaysAlike.playFrom {e f : DirEntry} (h : PlaysAlike e f) (n p : Nat) (acc : List Nat) : Machine.playFrom f n p acc = Machine.playFrom e n p acc := by
  induction n generalizing p acc with
  | zero => rfl
  | succ n ih =>
    simp only [Machine.playFrom, h.nextPage]
    cases Machine.nextPage e p with
    | none => rfl
    | some q => simp only [ih]

theorem PlaysAlike.pagesFor {e f : DirEntry} (h : PlaysAlike e f) (off : Int) (n : Nat) : Machine.pagesFor f off n = Machine.pagesFor e off n := by
  have hplay := h.playFrom
  obtain ⟨hlength, hstart, hloop⟩ := h
  have heffective : f.effective off = e.effective off := by rw [DirEntry.effective, DirEntry.effective, hlength, hstart, hloop]
  simp only [Machine.pagesFor, startPage, heffective, hplay]

theorem clip_updateClip (t : Store) (id c : Nat) (f : DirEntry → DirEntry) (hid : ∀ e, (f e).id = e.id) :
    (t.updateClip id f).clip c = (t.clip c).map (fun e => if e.id = id then f e else e) := by
  have hkeeps : ((fun e : DirEntry => e.id == c) ∘ fun e => if e.id = id then f e else e) = fun e => e.id == c := by
    funext e
    simp only [Function.comp]
    repeat' split
    · rw [hid]
    · rfl
  simp only [Store.updateClip, Store.clip, List.find?_map, hkeeps]

/-- R136: the wanted pages read the tracked clip's play order and nothing else of the store. -/
theorem windowWanted_congr {u : State} {f : DirEntry} (hplayer : u.player = s.player) (halign : u.align = s.align)
    (htracked : s.player.tracked = some (c, start)) (hclip : s.store.clip c = some e) (hclip' : u.store.clip c = some f) (halike : PlaysAlike e f) :
    u.windowWanted = s.windowWanted := by
  have hholds : u.primeHolds = s.primeHolds := by rw [primeHolds, primeHolds, hplayer]
  simp only [windowWanted, trackedEntry, hholds, hplayer, htracked, hclip, hclip', halike.pagesFor, clipOffset, prog, halign]

/-! ## An uncorrectable page (R129) -/

/-- R129: the directory after an uncorrectable page of logical sector `l`. -/
def damagedDir (t : Store) (l : Nat) : List DirEntry :=
  match t.clipOf l with
  | some e => (t.updateClip e.id damaged).dir
  | none => t.dir

theorem readUncorrectable_eq (s : State) (l k : Nat) : s.readUncorrectable l k = { s with
    fault := captured s .bedRead .store (.bedRead ((s.store.clipOf l).map (fun e => e.id)) l k)
    store := { s.store with dir := damagedDir s.store l } } := by
  simp only [readUncorrectable, damagedDir, raise_eq_captured]
  cases s.store.clipOf l <;> rfl

theorem damagedDir_clip {l : Nat} (hclip : s.store.clip c = some e) :
    ∃ f, ({ s.store with dir := damagedDir s.store l } : Store).clip c = some f ∧ PlaysAlike e f := by
  simp only [damagedDir]
  cases s.store.clipOf l with
  | none => exact ⟨e, hclip, .refl e⟩
  | some x =>
    refine ⟨if e.id = x.id then damaged e else e, ?_, ?_⟩
    · exact (clip_updateClip s.store x.id c damaged fun e => (damaged_play e).1).trans (by rw [hclip]; rfl)
    · repeat' split
      · exact damaged_playsAlike e
      · exact .refl e

theorem damagedDir_state {l : Nat} (hclip : s.store.clip e.id = some e) (hof : s.store.clipOf l = some e) (hsealed : e.state = .sealed) :
    (({ s.store with dir := damagedDir s.store l } : Store).clip e.id).map (fun x => x.state) = some .damaged := by
  simp only [damagedDir, hof]
  have hfound := clip_updateClip s.store e.id e.id damaged fun e => (damaged_play e).1
  rw [hclip] at hfound
  have hdamaged : (s.store.updateClip e.id damaged).clip e.id = some (damaged e) := hfound.trans (by simp)
  refine (congrArg (fun o => o.map (fun x : DirEntry => x.state)) hdamaged).trans ?_
  simp [damaged, hsealed]

theorem clip_id (h : s.store.clip c = some e) : e.id = c := by
  simpa using List.find?_some h

/-! ## The player's output period (R135, R136, R138) -/

theorem primeUpdate_of_inUse {r : Rig} {y : RingEntry} (hact : s.framer.run = .gangWait ∨ s.framer.run = .running)
    (htiming : s.ctl.groups.g0.st.current = r.source) (hring : (s.align.rigs.get r).ring.getLast? = some y)
    (hinUse : s.cues.inUse = some y.pos.cue.toNat) : s.primeUpdate = s.clearPrime := by
  have hrig : s.timingRig = some r := (timingRig_eq_some_iff s r).mpr htiming
  simp only [primeUpdate, (acting_iff s).mpr hact, hrig, rig, hring, if_pos hinUse]
  rfl

theorem primeUpdate_of_newCue {r : Rig} {x : RingEntry} (hact : s.framer.run = .gangWait ∨ s.framer.run = .running)
    (htiming : s.ctl.groups.g0.st.current = r.source) (hring : (s.align.rigs.get r).ring.getLast? = some x)
    (hinUse : s.cues.inUse ≠ some x.pos.cue.toNat) (hlast : s.player.lastPrime ≠ some x.pos.cue) : s.primeUpdate =
      s.setPlayer { s.player with prime := s.makePrime (s.align.rigs.get r).ring x.pos.cue, lastPrime := some x.pos.cue } := by
  have hrig : s.timingRig = some r := (timingRig_eq_some_iff s r).mpr htiming
  simp only [primeUpdate, (acting_iff s).mpr hact, hrig, rig, hring, if_neg hinUse, if_neg hlast]
  rfl

theorem makePrime_of_clip {ring : List RingEntry} {cue : Half} {y : RingEntry} {id : Nat} (hclip : (s.cues.lookup cue.toNat).clip = some id)
    (hentry : s.store.clip id = some e) (hplayable : e.state = .sealed ∨ e.state = .damaged)
    (hfirst : ring.find? (fun z => z.pos.cue == cue) = some y) : s.makePrime ring cue = some
      { cue := cue, clip := id, bedStart := (s.cues.lookup cue.toNat).bedStart,
        offset := (y.pos.pos.toNat : Int) - ((s.cues.lookup cue.toNat).bedStart : Int), slots := [] } := by
  have hplays : e.playable = true := by simpa [DirEntry.playable] using hplayable
  simp only [makePrime, hclip, hfirst, hentry, if_pos hplays]

theorem playerCueChange_of_retrack {q : Prime} (hprime : s.player.prime = some q) (hmoves : s.player.tracked ≠ s.trackTarget) :
    s.playerCueChange = { s with player := { s.player with
      tracked := s.trackTarget
      window := if q.cue = s.align.prog.pos.cue ∧ s.trackTarget = some (q.clip, q.bedStart) then q.slots else []
      prime := none, lastPrime := none } } := by
  have hretrack : s.playerRetrack = s.setPlayer { s.player with tracked := s.trackTarget, window := [] } := if_neg hmoves
  have hholds (a b : Nat) : holdsPage [] a b = false := rfl
  simp only [playerCueChange, hprime, hretrack, setPlayer_player, hholds, Bool.not_false, filter_const_true, List.nil_append]
  rfl

end State

end Sys2Proof.Machine
end


section
/-! PROOFS, family other. The bed player's work at an output period, and PAGE_READ (R124, R129, R135 to R139). -/

namespace Sys2Proof.Machine

namespace State

variable {s : State} {c start : Nat} {e : DirEntry}

/-! ## The window at an output period (R136) -/

/-- The slots whose pages are still wanted. -/
def keptSlots (s : State) (c : Nat) : List PageSlot := s.player.window.filter (fun x => x.clip == c && s.windowWanted.contains x.page)

theorem windowTrim_eq (htracked : s.player.tracked = some (c, start)) : s.windowTrim = s.setPlayer { s.player with window := s.keptSlots c } := by
  simp only [windowTrim, htracked]
  rfl

/-- R136: the effective frame's page is neither held nor being read. -/
def discardsRead (s : State) (c : Nat) (off : Int) (e : DirEntry) : Bool :=
  match e.effective off with
  | some f => !holdsPage s.player.window c (f / 16) && s.player.reading != some (c, f / 16)
  | none => false

theorem windowDiscard_eq (htracked : s.player.tracked = some (c, start)) (hclip : s.store.clip c = some e) : s.windowDiscard =
    if s.discardsRead c (s.clipOffset start) e = true then s.setPlayer { s.player with reading := none, lostRead := none } else s := by
  have hpage : s.effectivePage = (e.effective (s.clipOffset start)).map (fun f => (c, f / 16)) := by
    simp only [effectivePage, htracked, trackedEntry, hclip]
  cases heffective : e.effective (s.clipOffset start) with
  | none =>
    rw [heffective] at hpage
    simp only [windowDiscard, hpage, discardsRead, heffective, Option.map_none]
    rfl
  | some f =>
    rw [heffective] at hpage
    simp only [windowDiscard, hpage, discardsRead, heffective, Option.map_some, Bool.and_eq_true, Bool.not_eq_true', bne_iff_ne]

theorem nextRead_of_tracked (htracked : s.player.tracked = some (c, start)) (hprime : s.player.prime = none) :
    s.nextRead = (s.windowWanted.find? (fun p => !holdsPage s.player.window c p)).map (fun p => (c, p)) := by
  simp only [nextRead, htracked, hprime]
  cases s.windowWanted.find? (fun p => !holdsPage s.player.window c p) <;> rfl

theorem windowRequest_eq (s : State) : s.windowRequest = s.setPlayer { s.player with
    reading := if s.player.reading = none ∧ s.player.lostRead = none then s.nextRead else s.player.reading } := by
  by_cases hfree : s.player.reading = none ∧ s.player.lostRead = none
  · obtain ⟨hread, hlost⟩ := hfree
    rw [if_pos ⟨hread, hlost⟩]
    simp only [windowRequest, hread, hlost]
  · have hbusy : s.windowRequest = s := by
      simp only [windowRequest]
      split
      · next hread hlost => exact absurd ⟨hread, hlost⟩ hfree
      · rfl
    rw [hbusy, if_neg hfree]
    rfl

/-- R136 for a player that follows its clip and primes nothing. -/
theorem playerPeriod_of_inUse {r : Rig} {y : RingEntry} (hact : s.framer.run = .gangWait ∨ s.framer.run = .running)
    (htracked : s.player.tracked = some (c, start)) (hclip : s.store.clip c = some e) (htarget : s.player.tracked = s.trackTarget)
    (htiming : s.ctl.groups.g0.st.current = r.source) (hring : (s.align.rigs.get r).ring.getLast? = some y)
    (hinUse : s.cues.inUse = some y.pos.cue.toNat) (hprime : s.player.prime = none) :
    let kept := s.keptSlots c
    let u := s.setPlayer { s.player with window := kept }
    let discards := u.discardsRead c (s.clipOffset start) e
    s.playerPeriod = { s with player := { s.player with
      lastPrime := none
      window := kept
      lostRead := if discards then none else s.player.lostRead
      reading := if discards = true ∨ (s.player.reading = none ∧ s.player.lostRead = none)
        then (s.windowWanted.find? (fun p => !holdsPage kept c p)).map (fun p => (c, p)) else s.player.reading } } := by
  intro kept u discards
  have hretrack : s.playerRetrack = s := if_pos htarget
  have hupdate : s.primeUpdate = s.setPlayer { s.player with lastPrime := none } := by
    rw [primeUpdate_of_inUse hact htiming hring hinUse, clearPrime, ← hprime]
  let v : State := s.setPlayer { s.player with lastPrime := none, window := kept }
  have htrim : s.primeUpdate.windowTrim = v := by
    rw [hupdate]
    exact windowTrim_eq (s := s.setPlayer { s.player with lastPrime := none }) htracked
  have hdiscard : v.windowDiscard = if discards = true then v.setPlayer { v.player with reading := none, lostRead := none } else v :=
    windowDiscard_eq (s := v) htracked hclip
  have hperiod : s.playerPeriod = v.windowDiscard.windowRequest := by rw [playerPeriod, hretrack, htrim]
  have hnext (w : State) (hw : w = v ∨ w = v.setPlayer { v.player with reading := none, lostRead := none }) :
      w.nextRead = (s.windowWanted.find? (fun p => !holdsPage kept c p)).map (fun p => (c, p)) := by
    obtain rfl | rfl := hw
    · exact nextRead_of_tracked (s := v) htracked hprime
    · exact nextRead_of_tracked (s := v.setPlayer { v.player with reading := none, lostRead := none }) htracked hprime
  by_cases hd : discards = true
  · rw [hperiod, hdiscard, if_pos hd, windowRequest_eq, hnext _ (.inr rfl), if_pos ⟨rfl, rfl⟩, if_pos (.inl hd)]
    simp only [hd, if_true]
    rfl
  · rw [hperiod, hdiscard, if_neg hd, windowRequest_eq, hnext _ (.inl rfl)]
    simp only [hd, Bool.false_eq_true, false_or, if_false]
    rfl

theorem primeHolds_of_none (h : s.player.prime = none) : s.primeHolds = false := by simp only [primeHolds, h]

theorem primeHolds_iff {q : Prime} (h : s.player.prime = some q) : s.primeHolds = true ↔ q.slots ≠ [] := by
  simp [primeHolds, h]

theorem windowWanted_of_tracked (htracked : s.player.tracked = some (c, start)) (hclip : s.store.clip c = some e) :
    s.windowWanted = pagesFor e (s.clipOffset start) (if s.primeHolds = true then 2 else 4) := by
  simp only [windowWanted, htracked, trackedEntry, hclip]

/-- R129, R139: the outcome of a read whose clip is gone. -/
def lostOutcome (s : State) (x : LostRead) (ecc : Ecc) : State :=
  match ecc with
  | .uncorrectable => s.raise .bedRead .store (.bedRead (some x.clip) x.sector x.page)
  | _ => s.eccOutcome x.sector x.page ecc

theorem serveLost_eq (hengine : s.store.engine = none) (x : LostRead) (ecc : Ecc) : s.serveLost x ecc =
    { (s.bankRead (s.store.physOf x.sector)).lostOutcome x ecc with
      player := { ((s.bankRead (s.store.physOf x.sector)).lostOutcome x ecc).player with lostRead := none } } := by
  simp only [serveLost, suspendErase_of_free hengine]
  cases ecc <;> rfl

end State

/-- Settles O26, part by part: the read of a page that the window wants, play order and the window's own work, a read whose clip is gone,
the prime's making, its reads and its end. -/
theorem pageReadFillsTheWindow : Obligations.PageReadFillsTheWindow := by
  refine ⟨fun s c page start e => ?_, fun s c start e htracked hclip => ?_, fun s x => ?_, fun s r x y id e hact => ?_, fun s q page e => ?_,
    fun s q hprime hmoves => ?_⟩
  · intro l p frames deliver hact hread htracked hclip hwanted hlacks hengine
    obtain rfl : e.id = c := State.clip_id hclip
    have hexec (ecc : Ecc) := State.execPageRead_eq hact ecc
    have hrows (ecc : Ecc) := State.playerRead_of_clip hread hclip hengine ecc
    refine ⟨fun hbusy ecc => (hexec ecc).trans (congrArg Host.Outcome.next ((hrows ecc).1 hbusy)), fun hfree => ⟨?_, ?_, ?_⟩⟩
    · rw [hexec, (hrows .clean).2 hfree]
      exact congrArg Host.Outcome.next (State.playerDeliver_of_wanted (s := s.bankRead p) (start := start) htracked hwanted hlacks)
    · intro n
      rw [hexec, (hrows .corrected).2 hfree]
      let u := (s.bankRead p).readCorrected l
      have hu := State.readCorrected_eq (s.bankRead p) l
      refine congrArg Host.Outcome.next ((congrArg (fun v : State => v.playerDeliver _) hu).trans ?_)
      exact State.playerDeliver_of_wanted (start := start) htracked hwanted hlacks
    · rw [hexec, (hrows .uncorrectable).2 hfree]
      have hu := State.readUncorrectable_eq (s.bankRead p) l (page % 64)
      obtain ⟨f, hf, halike⟩ := State.damagedDir_clip (s := s.bankRead p) (l := l) hclip
      have hsame : ((s.bankRead p).readUncorrectable l (page % 64)).windowWanted = s.windowWanted := by
        rw [hu]
        exact State.windowWanted_congr rfl rfl htracked hclip hf halike
      have hdelivers := State.playerDeliver_of_wanted (s := (s.bankRead p).readUncorrectable l (page % 64)) (start := start)
        (x := { clip := e.id, page := page, frames := zeroPage, zero := true }) (by rw [hu]; exact htracked) (hsame ▸ hwanted) (by rw [hu]; exact hlacks)
      refine ⟨_, congrArg Host.Outcome.next hdelivers, ?_, ?_, fun hof hsealed => ?_, ?_⟩
      · rw [hu]
        rfl
      · rw [hu]
        rfl
      · rw [hu]
        exact State.damagedDir_state (s := s.bankRead p) hclip hof hsealed
      · rw [hu]
        rfl
  · intro off most last next effective wanted
    have hmost : (if s.primeHolds = true then 2 else 4) = most := by
      simp only [most]
      cases hprime : s.player.prime with
      | none => exact if_neg (by simp [State.primeHolds_of_none hprime])
      | some q => simp only [State.primeHolds_iff hprime, ite_not]
    have hwanted : wanted = pagesFor e off most := hmost ▸ State.windowWanted_of_tracked htracked hclip
    have hwalk : Walk e most [] wanted := hwanted.symm ▸ pagesFor_walk e off most
    have heffective : e.effective off = effective := effective_eq e off
    have hnext (p : Nat) : nextPage e p = next p := nextPage_eq e p
    refine ⟨?_, hwalk.nodup, by simpa using hwalk.length, fun i p q hp hq => hnext p ▸ hwalk.order i p q hp hq,
      fun hshort p q hp hq => hwalk.closed (by simpa using hshort) p q hp ((hnext p).trans hq), fun r y hact htarget htiming hring hinUse hprime => ?_⟩
    · have hhead : (pagesFor e off most).head? = startPage e off := by
        rw [← hmost]
        repeat' split
        · exact pagesFor_head e off 1
        · exact pagesFor_head e off 3
      rw [hwanted, hhead, startPage_eq, heffective]
    · intro kept discards
      have hdiscards : (s.setPlayer { s.player with window := kept }).discardsRead c off e = discards := by
        simp only [State.discardsRead, heffective]
        rfl
      have hperiod := State.playerPeriod_of_inUse hact htracked hclip htarget htiming hring hinUse hprime
      rw [← hdiscards]
      exact hperiod
  · intro p served hact hread hlost hengine
    have hexec (ecc : Ecc) : exec (.pageRead ecc) s = .next (if p % 4 ∈ s.store.readBanks then s else s.serveLost x ecc) :=
      (State.execPageRead_eq hact ecc).trans (congrArg Host.Outcome.next (State.playerRead_of_lost hread hlost hengine ecc))
    refine ⟨fun hbusy ecc => (hexec ecc).trans (congrArg Host.Outcome.next (if_pos hbusy)), fun hfree => ?_⟩
    have hserves (ecc : Ecc) : exec (.pageRead ecc) s = .next (s.serveLost x ecc) := (hexec ecc).trans (congrArg Host.Outcome.next (if_neg hfree))
    refine ⟨?_, ?_, ?_⟩
    · rw [hserves, State.serveLost_eq hengine]
      rfl
    · rw [hserves, State.serveLost_eq hengine]
      have hcorrected : (s.bankRead p).lostOutcome x .corrected = _ := State.readCorrected_eq (s.bankRead p) x.sector
      rw [hcorrected]
      rfl
    · rw [hserves, State.serveLost_eq hengine]
      have hraised : (s.bankRead p).lostOutcome x .uncorrectable = _ := State.raise_eq_captured (s.bankRead p) _ _ _
      rw [hraised]
      rfl
  · intro policy htiming hring hinUse hlast hclip hentry hplayable hfirst
    rw [State.primeUpdate_of_newCue hact htiming hring hinUse hlast, State.makePrime_of_clip hclip hentry hplayable hfirst]
    rfl
  · intro p hact hprime htracked hclip hid hread hwanted hlacks hengine hfree
    rw [State.execPageRead_eq hact, (State.playerRead_of_clip hread hclip hengine .clean).2 hfree, hid]
    exact congrArg Host.Outcome.next (State.playerDeliver_of_prime (s := s.bankRead p) htracked hprime hwanted hlacks _ _)
  · intro joins after
    have hchange := State.playerCueChange_of_retrack hprime hmoves
    refine ⟨fun hjoins => hchange.trans ?_, fun hjoins => hchange.trans ?_⟩
    · rw [if_pos hjoins]
    · rw [if_neg hjoins]

end Sys2Proof.Machine
end


section
/-! PROOFS, family other. A main frame on the line (R167, 9.3): its bytes, read back field by field. -/

namespace Sys2Proof.Machine

/-! ## Fields (9.3) -/

theorem half_of_bytes (w : Half) : w.extractLsb' 8 8 ++ w.extractLsb' 0 8 = w := BitVec.extractLsb'_append_extractLsb' (w := 8) (len := 8)

theorem word_of_bytes (w : Word) : (w.extractLsb' 24 8 ++ w.extractLsb' 16 8) ++ (w.extractLsb' 8 8 ++ w.extractLsb' 0 8) = w := by
  have hhigh : w.extractLsb' 24 8 ++ w.extractLsb' 16 8 = w.extractLsb' 16 16 := BitVec.extractLsb'_append_extractLsb'_eq_extractLsb' rfl
  have hlow : w.extractLsb' 8 8 ++ w.extractLsb' 0 8 = w.extractLsb' 0 16 := BitVec.extractLsb'_append_extractLsb'_eq_extractLsb' rfl
  rw [hhigh, hlow]
  exact BitVec.extractLsb'_append_extractLsb' (w := 16) (len := 16)

theorem sample_of_bytes {x : Int} (hlow : -8388608 ≤ x) (hhigh : x ≤ 8388607) (rest : List Byte) : sampleAt (sampleBytes x ++ rest) 0 = x := by
  have hpair (w : BitVec 24) : w.extractLsb' 8 8 ++ w.extractLsb' 0 8 = w.extractLsb' 0 16 := BitVec.extractLsb'_append_extractLsb'_eq_extractLsb' rfl
  have hbytes (w : BitVec 24) : w.extractLsb' 16 8 ++ (w.extractLsb' 8 8 ++ w.extractLsb' 0 8) = w := by
    rw [hpair]
    exact BitVec.extractLsb'_append_extractLsb' (w := 8) (len := 16)
  have hvalue : (BitVec.ofInt 24 x).toInt = x := by
    rw [BitVec.toInt_ofInt, Int.bmod_eq_of_le] <;> omega
  exact (congrArg BitVec.toInt (hbytes (BitVec.ofInt 24 x))).trans hvalue

/-! ## The payload -/

theorem sampleBytes_length (x : Int) : (sampleBytes x).length = 3 := rfl

theorem samplesOf_flatMap {c : List Int} (hrange : ∀ x ∈ c, -8388608 ≤ x ∧ x ≤ 8388607) (rest : List Byte) :
    samplesOf c.length (c.flatMap sampleBytes ++ rest) = c := by
  induction c with
  | nil => rfl
  | cons x c ih =>
    obtain ⟨hlow, hhigh⟩ := hrange x List.mem_cons_self
    have hdrop : ((x :: c).flatMap sampleBytes ++ rest).drop 3 = c.flatMap sampleBytes ++ rest := rfl
    have hfirst : sampleAt ((x :: c).flatMap sampleBytes ++ rest) 0 = x := by
      rw [List.flatMap_cons, List.append_assoc]
      exact sample_of_bytes hlow hhigh _
    simp only [List.length_cons, samplesOf, hdrop, hfirst, ih fun y hy => hrange y (List.mem_cons_of_mem _ hy)]

theorem flatMap_sampleBytes_length (c : List Int) : (c.flatMap sampleBytes).length = 3 * c.length := by
  induction c with
  | nil => rfl
  | cons x c ih =>
    rw [List.flatMap_cons, List.length_append, ih, sampleBytes_length, List.length_cons]
    omega

/-- The payload's bytes. -/
def payload (l : List (List Int)) : List Byte := l.flatMap (fun c => c.flatMap sampleBytes)

/-- A channel of 12 samples of 24 bits each. -/
def ChannelOk (c : List Int) : Prop := c.length = 12 ∧ ∀ x ∈ c, -8388608 ≤ x ∧ x ≤ 8388607

theorem payload_length {l : List (List Int)} (hl : ∀ c ∈ l, ChannelOk c) : (payload l).length = 36 * l.length := by
  induction l with
  | nil => rfl
  | cons c l ih =>
    obtain ⟨hlen, -⟩ := hl c List.mem_cons_self
    have hrest := ih fun d hd => hl d (List.mem_cons_of_mem _ hd)
    simp only [payload] at hrest ⊢
    rw [List.flatMap_cons, List.length_append, hrest, flatMap_sampleBytes_length, hlen, List.length_cons]
    omega

theorem channelsOf_payload {l : List (List Int)} (hl : ∀ c ∈ l, ChannelOk c) (rest : List Byte) : channelsOf l.length (payload l ++ rest) = l := by
  induction l with
  | nil => rfl
  | cons c l ih =>
    obtain ⟨hlen, hrange⟩ := hl c List.mem_cons_self
    have hrest := ih fun d hd => hl d (List.mem_cons_of_mem _ hd)
    have hsplit : payload (c :: l) ++ rest = c.flatMap sampleBytes ++ (payload l ++ rest) := by
      simp only [payload, List.flatMap_cons, List.append_assoc]
    have hdrop : (c.flatMap sampleBytes ++ (payload l ++ rest)).drop 36 = payload l ++ rest :=
      List.drop_left' (by rw [flatMap_sampleBytes_length, hlen])
    have hsamples := samplesOf_flatMap hrange (payload l ++ rest)
    rw [hlen] at hsamples
    simp only [List.length_cons, channelsOf, hsplit, hsamples, hdrop, hrest]

/-! ## The CRC -/

theorem wordAt_append (body : List Byte) (w : Word) : wordAt (body ++ wordBytes w) body.length = w := by
  have hat (i : Nat) : byteAt (body ++ wordBytes w) (body.length + i) = (wordBytes w).getD i 0 := by
    simp [byteAt, List.getD_eq_getElem?_getD, List.getElem?_append_right]
  have hword : wordAt (body ++ wordBytes w) body.length = ((wordBytes w).getD 0 0 ++ (wordBytes w).getD 1 0)
      ++ ((wordBytes w).getD 2 0 ++ (wordBytes w).getD 3 0) := by
    rw [← hat, ← hat, ← hat, ← hat]
    rfl
  exact hword.trans (word_of_bytes w)

theorem crcGood_closeCrc (body : List Byte) : crcGood (closeCrc body) = true := by
  have hlen : (closeCrc body).length = body.length + 4 := by rw [closeCrc, List.length_append]; rfl
  have hbody : crcBody (closeCrc body) = body := by
    rw [crcBody, hlen, Nat.add_sub_cancel, closeCrc, List.take_left]
  have hlast : lastCrc (closeCrc body) = crc32 body := by
    rw [lastCrc, if_neg (by omega), hlen, Nat.add_sub_cancel]
    exact wordAt_append body _
  rw [crcGood, hbody, hlast, beq_self_eq_true]

/-! ## The frame's bytes -/

/-- The bytes that the CRC closes. -/
def MainFrame.body (f : MainFrame) : List Byte :=
  [f.kind.code, BitVec.ofNat 8 (bitIf f.stopped 1 + bitIf f.declared 2 + bitIf f.pilot 4)] ++ halfBytes f.seq
    ++ halfBytes f.pos.cue ++ wordBytes f.pos.pos ++ [BitVec.ofNat 8 f.channels.length, f.role] ++ f.summary.toBytes ++ payload f.channels

theorem toBytes_eq (f : MainFrame) : f.toBytes = closeCrc f.body := rfl

theorem body_length (f : MainFrame) : f.body.length = 20 + (payload f.channels).length := by
  rw [MainFrame.body, List.length_append]
  rfl

theorem flags_of_bits (a b c : Bool) : (BitVec.ofNat 8 (bitIf a 1 + bitIf b 2 + bitIf c 4)).getLsbD 0 = a
    ∧ (BitVec.ofNat 8 (bitIf a 1 + bitIf b 2 + bitIf c 4)).getLsbD 1 = b ∧ (BitVec.ofNat 8 (bitIf a 1 + bitIf b 2 + bitIf c 4)).getLsbD 2 = c := by
  cases a <;> cases b <;> cases c <;> decide

theorem count_of_toBytes {f : MainFrame} (hmany : f.channels.length ≤ 64) : (byteAt f.toBytes 10).toNat = f.channels.length := by
  have hbyte : byteAt f.toBytes 10 = BitVec.ofNat 8 f.channels.length := rfl
  rw [hbyte, BitVec.toNat_ofNat]
  omega

theorem toBytes_length {f : MainFrame} (hok : ∀ c ∈ f.channels, ChannelOk c) : f.toBytes.length = 24 + 36 * f.channels.length := by
  rw [toBytes_eq, closeCrc, List.length_append, body_length, payload_length hok]
  simp only [wordBytes, List.length_cons, List.length_nil]
  omega

theorem readMain_toBytes {f : MainFrame} (hmany : f.channels.length ≤ 64) (hok : ∀ c ∈ f.channels, ChannelOk c) (k : FrameKind) :
    readMain k f.toBytes = { kind := k, stopped := f.stopped, declared := f.declared, pilot := f.pilot, seq := f.seq, pos := f.pos,
                             count := f.channels.length, channels := f.channels } := by
  have hflags : byteAt f.toBytes 1 = BitVec.ofNat 8 (bitIf f.stopped 1 + bitIf f.declared 2 + bitIf f.pilot 4) := rfl
  obtain ⟨hstopped, hdeclared, hpilot⟩ := flags_of_bits f.stopped f.declared f.pilot
  have hseq : halfAt f.toBytes 2 = f.seq := half_of_bytes f.seq
  have hcue : halfAt f.toBytes 4 = f.pos.cue := half_of_bytes f.pos.cue
  have hpos : wordAt f.toBytes 6 = f.pos.pos := word_of_bytes f.pos.pos
  have hdrop : f.toBytes.drop 20 = payload f.channels ++ wordBytes (crc32 f.body) := rfl
  rw [readMain, hflags, hstopped, hdeclared, hpilot, hseq, hcue, hpos, count_of_toBytes hmany, hdrop, channelsOf_payload hok]

theorem mainKind_toBytes {f : MainFrame} (hmany : f.channels.length ≤ 64) (hkind : f.kind = .idle ↔ f.channels = []) :
    mainKind f.toBytes = some f.kind := by
  have hcode : byteAt f.toBytes 0 = f.kind.code := rfl
  have hcount := count_of_toBytes hmany
  rw [mainKind, hcode, hcount]
  cases hk : f.kind with
  | idle =>
    have hnone : f.channels.length = 0 := by rw [hkind.mp hk]; rfl
    rw [if_pos (show FrameKind.code .idle = 0 from rfl), if_pos hnone]
  | audio =>
    have hsome : 1 ≤ f.channels.length := List.length_pos_iff.mpr fun h => by simp [hkind.mpr h] at hk
    rw [if_neg (show ¬FrameKind.code .audio = 0 by decide), if_pos (show FrameKind.code .audio = 1 from rfl), if_pos ⟨hsome, hmany⟩]

theorem mainWhole_toBytes {f : MainFrame} (hmany : f.channels.length ≤ 64) (hok : ∀ c ∈ f.channels, ChannelOk c) :
    mainWhole { marks := true, bytes := f.toBytes } = true := by
  simp [mainWhole, toBytes_length hok, count_of_toBytes hmany]

theorem nibbles_eq (a b : Nat) : nibbles a b = BitVec.ofNat 8 (16 * a + b) := by rw [nibbles, Nat.mul_comm]

/-- Settles O60: the frame passes every check, its fields read back one by one, and the summary's bytes are R111's. -/
theorem sentMainFramesAreReceived : Obligations.SentMainFramesAreReceived := by
  intro f hmany hkind hok source health step flag m
  have hcrc : crcGood f.toBytes = true := crcGood_closeCrc f.body
  refine ⟨?_, rfl, fun _ _ => ?_⟩
  · simp only [checkMain, mainWhole_toBytes hmany hok, hcrc, Bool.and_self, if_true, mainKind_toBytes hmany hkind, readMain_toBytes hmany hok]
  · have hsource (x : Source) : source x = x.code := by cases x <;> rfl
    have hhealth (x : HealthState) : health x = x.code := by cases x <;> rfl
    have hstep (x : StepState) : step x = x.code := by cases x <;> rfl
    have hsummary : (f.toBytes.drop 12).take 8 = m.toBytes := rfl
    rw [hsummary, Summary.toBytes]
    simp only [hsource, hhealth, hstep, nibbles_eq, List.map_cons, List.map_nil]
    rfl

end Sys2Proof.Machine
end


section
/-! PROOFS, family other. The mix of a fade, and the channels of the output frame (O58). -/

namespace Sys2Proof.Machine
namespace State

/-! ## The mix (R85, R110) -/

/-- R110: the rounded quotient is within a half of the exact one, and a half is rounded away from zero. -/
theorem roundDiv_near (n : Int) (m : Nat) (hm : 0 < m) :
    2 * (roundDiv n m * m - n).natAbs ≤ m ∧ (2 * (roundDiv n m * m - n).natAbs = m → n.natAbs ≤ (roundDiv n m * m).natAbs) := by
  have below := Nat.div_mul_le_self (2 * n.natAbs + m) (2 * m)
  have above := Nat.lt_div_mul_add (a := 2 * n.natAbs + m) (b := 2 * m) (by omega)
  unfold roundDiv
  generalize (2 * n.natAbs + m) / (2 * m) = q at *
  have whole : q * (2 * m) = 2 * (q * m) := Nat.mul_left_comm q 2 m
  rw [whole] at below above
  split
  · rw [show ((q : Nat) : Int) * (m : Int) = ((q * m : Nat) : Int) from (Int.natCast_mul q m).symm]
    omega
  · rw [show -((q : Nat) : Int) * (m : Int) = -((q * m : Nat) : Int) by rw [Int.natCast_mul, Int.neg_mul]]
    omega

/-- A rounded quotient lies between the integers between which the exact one lies. -/
theorem roundDiv_between (n lo hi : Int) (m : Nat) (hm : 0 < m) (hlo : lo * m ≤ n) (hhi : n ≤ hi * m) :
    lo ≤ roundDiv n m ∧ roundDiv n m ≤ hi := by
  obtain ⟨near, _⟩ := roundDiv_near n m hm
  generalize roundDiv n m = y at *
  have hm' : (0 : Int) < m := by exact_mod_cast hm
  constructor
  · refine Int.not_lt.1 fun hlt => ?_
    have : (y + 1) * m ≤ lo * m := Int.mul_le_mul_of_nonneg_right (by omega) (Int.le_of_lt hm')
    rw [Int.add_mul] at this
    omega
  · refine Int.not_lt.1 fun hlt => ?_
    have : (hi + 1) * m ≤ y * m := Int.mul_le_mul_of_nonneg_right (by omega) (Int.le_of_lt hm')
    rw [Int.add_mul] at this
    omega

/-- The weighted sum of two sides lies between the total's multiples of the smaller and of the larger side. -/
theorem weighted_between (o d w v : Int) (hw : 0 ≤ w) (hv : 0 ≤ v) :
    min o d * (v + w) ≤ o * v + d * w ∧ o * v + d * w ≤ max o d * (v + w) := by
  have lowO := Int.mul_le_mul_of_nonneg_right (show min o d ≤ o by omega) hv
  have lowD := Int.mul_le_mul_of_nonneg_right (show min o d ≤ d by omega) hw
  have highO := Int.mul_le_mul_of_nonneg_right (show o ≤ max o d by omega) hv
  have highD := Int.mul_le_mul_of_nonneg_right (show d ≤ max o d by omega) hw
  rw [Int.mul_add, Int.mul_add]
  exact ⟨Int.add_le_add lowO lowD, Int.add_le_add highO highD⟩

theorem mixSample_between (n k j : Nat) (o d : Int) (hk : k < n) (hj : j < 12) :
    let w : Int := ((12 * k + j + 1 : Nat) : Int)
    let total : Int := ((12 * n : Nat) : Int)
    let sum := o * (total - w) + d * w
    let y := mixSample k n j o d
    2 * (y * total - sum).natAbs ≤ 12 * n ∧ (2 * (y * total - sum).natAbs = 12 * n → (sum.natAbs : Int) ≤ (y * total).natAbs)
    ∧ min o d ≤ y ∧ y ≤ max o d := by
  intro w total sum y
  have rest : ((12 * n - (12 * k + j + 1) : Nat) : Int) = total - w := by omega
  have hy : y = roundDiv sum (12 * n) := by
    unfold y mixSample sum
    rw [rest]
  obtain ⟨near, half⟩ := roundDiv_near sum (12 * n) (by omega)
  have sides := weighted_between o d w (total - w) (by omega) (by omega)
  rw [Int.sub_add_cancel] at sides
  obtain ⟨low, high⟩ := roundDiv_between sum _ _ (12 * n) (by omega) sides.1 sides.2
  rw [hy]
  exact ⟨near, fun h => by exact_mod_cast half h, low, high⟩

theorem mixFrom_length (k n : Nat) : ∀ (j : Nat) (a b : List Int), (mixFrom k n j a b).length = min a.length b.length
  | _, [], _ => by simp [mixFrom]
  | _, _ :: _, [] => by simp [mixFrom]
  | j, _ :: os, _ :: ds => by simp [mixFrom, mixFrom_length k n (j + 1) os ds]

theorem mixFrom_getElem? (k n : Nat) : ∀ (j : Nat) (a b : List Int) (i : Nat) (u v : Int), a[i]? = some u → b[i]? = some v →
    (mixFrom k n j a b)[i]? = some (mixSample k n (j + i) u v)
  | _, [], _, _, _, _, h, _ => by simp at h
  | _, _ :: _, [], _, _, _, _, h => by simp at h
  | j, o :: os, d :: ds, 0, u, v, hu, hv => by
    obtain rfl : o = u := by simpa using hu
    obtain rfl : d = v := by simpa using hv
    simp [mixFrom]
  | j, _ :: os, _ :: ds, i + 1, u, v, hu, hv => by
    have tail := mixFrom_getElem? k n (j + 1) os ds i u v (by simpa using hu) (by simpa using hv)
    rw [show j + (i + 1) = j + 1 + i by omega]
    simpa [mixFrom] using tail

/-! ## The frame and its summary (R104, R111) -/

theorem summary_eq (s : State) :
    s.summary =
      { sources := s.ctl.groups.map (fun g => g.st.current)
        healthA := s.health.a.state, stepA := s.stepOf .a, healthB := s.health.b.state, stepB := s.stepOf .b
        faultLocked := s.fault.first.isSome, showLock := s.mgmt.lock, bedReady := s.bedReady, bypass := s.framer.bypass
        position := s.gang.position, size := s.gang.size } := rfl

theorem outputFrame_of_playing {s : State} (h : s.align.prog.state ≠ .stopped) :
    s.outputFrame = { kind := .audio, stopped := false, declared := false, pilot := false, seq := 0, pos := s.align.prog.pos,
                      channels := s.routes.active.map s.channelSamples, role := 0, summary := s.summary } :=
  if_pos (by rw [playing_eq]; simpa using h)

theorem outputFrame_of_stopped {s : State} (h : s.align.prog.state = .stopped) :
    s.outputFrame = { kind := .idle, stopped := true, declared := false, pilot := false, seq := 0, pos := { cue := 0, pos := 0 }
                      channels := [], role := 0, summary := s.summary } :=
  if_neg (by rw [playing_eq]; simp [h])

theorem outputFrame_head (s : State) :
    s.outputFrame.role = 0 ∧ s.outputFrame.declared = false ∧ s.outputFrame.pilot = false ∧ s.outputFrame.summary = s.summary := by
  unfold outputFrame
  split <;> exact ⟨rfl, rfl, rfl, rfl⟩

/-! ## The channels (R105 to R110) -/

theorem silenced_iff (s : State) (g : Fin 8) (r : Rig) :
    s.silenced g r = true ↔ (s.health.get r).state = .failed ∨ (s.health.get r).state = .offline
      ∨ (s.health.get r).state = .qualifying ∨ (g ≠ 0 ∧ s.stepOf r = .outOfStep) := by
  simp [silenced, monitor, or_assoc]

theorem goodHealth_iff (h : HealthState) : goodHealth h = true ↔ h = .healthy ∨ h = .suspect := by
  simp [goodHealth]

theorem ownEntry_of_silenced {s : State} {g : Fin 8} {r : Rig} (h : s.silenced g r = true) : s.ownEntry g r = none := if_pos h

theorem ownEntry_of_heard {s : State} {g : Fin 8} {r : Rig} (h : ¬s.silenced g r = true) :
    s.ownEntry g r = (s.rig r).byPos s.prog.pos := if_neg h

theorem patchEntry_of_silenced {s : State} {g : Fin 8} {r : Rig} (h : s.silenced g r = true) : s.patchEntry g r = none := if_pos h

/-- R108: past the guards and with nothing at the position, the other rig patches when it is good and in step. -/
theorem patchEntry_of_missing {s : State} {g : Fin 8} {r : Rig} (h : ¬s.silenced g r = true)
    (hnone : (s.rig r).byPos s.prog.pos = none) :
    s.patchEntry g r = if goodHealth (s.monitor r.other).state ∧ s.stepOf r.other = .inStep
      then (s.rig r.other).byPos s.prog.pos else none := by
  unfold patchEntry
  rw [if_neg h, hnone]

/-- The samples of an entry that may be missing. -/
def entryOrZero (x : Option RingEntry) (c : Option Nat) : List Int := x.elim zeros12 (fun n => entrySamples n c)

theorem sideSamples_rig (s : State) (g : Fin 8) (e : RouteEntry) (r : Rig) :
    s.sideSamples g e r.source = entryOrZero (s.ownEntry g r) (routeChannel e r) := by
  cases r <;> simp only [sideSamples, Source.rig, Rig.source] <;> cases s.ownEntry g _ <;> rfl

theorem settledSamples_rig (s : State) (g : Fin 8) (e : RouteEntry) (r : Rig) :
    s.settledSamples g e r.source = (s.ownEntry g r).elim (entryOrZero (s.patchEntry g r) (routeChannel e r.other))
      (fun n => entrySamples n (routeChannel e r)) := by
  cases r <;> simp only [settledSamples, Source.rig, Rig.source] <;> cases s.ownEntry g _ <;> simp only [Option.elim]
    <;> cases s.patchEntry g _ <;> rfl

theorem channelSamples_of_settled {s : State} {e : RouteEntry} {x : Source} (h : (s.group (routeGroup e)).st = .settled x) :
    s.channelSamples e = s.settledSamples (routeGroup e) e x := by
  simp only [channelSamples, h]

theorem channelSamples_of_fading {s : State} {e : RouteEntry} {o d : Source} {n : Nat} {start : Word} {ret : Bool}
    (h : (s.group (routeGroup e)).st = .fading o d n start ret) :
    s.channelSamples e = if n ≤ s.progress start then s.sideSamples (routeGroup e) e d
      else mixFrom (s.progress start) n 0 (s.sideSamples (routeGroup e) e o) (s.sideSamples (routeGroup e) e d) := by
  simp only [channelSamples, h]

theorem routeGroup_of_val {e : RouteEntry} {g : Fin 8} (h : e.group = g.val) : routeGroup e = g := by
  apply Fin.ext
  simp only [routeGroup, Fin.ofNat, h]
  omega

end State
open State

/-- Settles O58: the quotient's rounding, the frame by the program's state, and the channel by its group's record. -/
theorem mixLiesBetweenItsSides : Obligations.MixLiesBetweenItsSides := by
  unfold Obligations.MixLiesBetweenItsSides
  refine ⟨fun n k j o d hk hj => mixSample_between n k j o d hk hj, fun s => ?_, ?_⟩
  · obtain ⟨role, declared, pilot, summary⟩ := outputFrame_head s
    refine ⟨fun h => ?_, fun h => ?_, role, declared, pilot, ?_⟩
    · rw [outputFrame_of_playing h]
      exact ⟨rfl, rfl, rfl, rfl, fun hinv => (List.length_map _).trans hinv.routes.1.1⟩
    · rw [outputFrame_of_stopped h]
      exact ⟨rfl, rfl, rfl, rfl⟩
    · intro step
      rw [summary, summary_eq, stepOf_eq, stepOf_eq]
      rfl
  · intro s e g hg x zeros mutes found taken bed
    obtain rfl := routeGroup_of_val hg
    have muted : ∀ r, mutes r ↔ s.silenced (routeGroup e) r = true := fun r => (silenced_iff s _ r).symm
    have own : ∀ r, ¬mutes r → s.ownEntry (routeGroup e) r = found r := fun r h => ownEntry_of_heard (by rwa [← muted])
    have taken_eq : ∀ y r, entrySamples y (routeChannel e r) = taken y r := by
      intro y r
      cases r <;> rfl
    refine ⟨fun r hst => ?_, fun hst => ?_, fun hst => ?_, fun o d n start ret hst => ?_⟩
    · have channel : s.channelSamples e = _ := (channelSamples_of_settled hst).trans (settledSamples_rig s _ e r)
      refine ⟨fun hm => ?_, fun hm => ⟨fun y hy => ?_, fun hnone => ?_⟩⟩
      · rw [channel, ownEntry_of_silenced ((muted r).1 hm), patchEntry_of_silenced ((muted r).1 hm)]
        rfl
      · rw [channel, own r hm, hy]
        exact taken_eq y r
      · rw [own r hm, hnone, patchEntry_of_missing (by rwa [← muted]) hnone] at channel
        intro stands
        have stands_iff : stands ↔ goodHealth (s.monitor r.other).state = true ∧ s.stepOf r.other = .inStep := by
          rw [goodHealth_iff]
          exact Iff.rfl
        refine ⟨fun h => ?_, fun h => ?_⟩
        · rw [if_pos (stands_iff.1 h)] at channel
          have seen : (s.rig r.other).byPos s.prog.pos = found r.other := rfl
          rw [channel, seen]
          cases found r.other with
          | none => rfl
          | some y => exact taken_eq y r.other
        · rw [if_neg (fun h' => h (stands_iff.2 h'))] at channel
          exact channel
    · exact channelSamples_of_settled hst
    · exact channelSamples_of_settled hst
    · intro side k
      have channel := channelSamples_of_fading hst
      have isSide : ∀ y, side y (s.sideSamples (routeGroup e) e y) := by
        refine fun y => ⟨?_, ?_, ?_⟩
        · rintro rfl
          rfl
        · rintro rfl
          rfl
        · rintro r rfl
          rw [sideSamples_rig]
          refine ⟨fun h => ?_, fun h v hv => ?_⟩
          · by_cases hm : mutes r
            · rw [ownEntry_of_silenced ((muted r).1 hm)]
              rfl
            · rw [own r hm, h.resolve_left hm]
              rfl
          · rw [own r h, hv]
            exact taken_eq v r
      refine ⟨_, _, isSide o, isSide d, fun hk => ?_, fun hk => ?_⟩
      · have before : ¬n ≤ s.progress start := Nat.not_le.2 hk
        rw [channel, if_neg before]
        refine ⟨mixFrom_length _ _ _ _ _, fun j u v hu hv => ?_⟩
        have mixed := mixFrom_getElem? (s.progress start) n 0 _ _ j u v hu hv
        rwa [Nat.zero_add] at mixed
      · rw [channel]
        exact if_pos hk

end Sys2Proof.Machine
end


section
/-! PROOFS, family other. The end of LOAD: the settings image (R134), for O7. -/

namespace Sys2Proof.Machine

/-! ## The cue map that an image fills (R62) -/

/-- A record put into a map that has none of its number joins the others. -/
theorem mem_putRecord_of_new {r : CueRecord} {l : List CueRecord} (h : ∀ x ∈ l, x.cue ≠ r.cue) (x : CueRecord) :
    x ∈ putRecord r l ↔ x = r ∨ x ∈ l := by
  induction l with
  | nil => simp [putRecord]
  | cons y m ih =>
    simp only [putRecord]
    split
    next => simp
    next =>
      split
      next heq => exact absurd heq.symm (h y (by simp))
      next =>
        rw [List.mem_cons, ih (fun z hz => h z (by simp [hz])), List.mem_cons]
        exact or_left_comm

namespace State

variable {s : State}

theorem mem_loadCues {l : List CueRecord} (h : (l.map (fun r => r.cue)).Nodup) (x : CueRecord) : x ∈ loadCues l ↔ x ∈ l := by
  induction l generalizing x with
  | nil => simp [loadCues]
  | cons y m ih =>
    obtain ⟨new, rest⟩ := List.nodup_cons.1 h
    have keeps : ∀ z, z ∈ loadCues m ↔ z ∈ m := fun z => ih rest z
    have fresh : ∀ z ∈ loadCues m, z.cue ≠ y.cue := fun z hz heq => new (List.mem_map.2 ⟨z, (keeps z).1 hz, heq⟩)
    rw [show loadCues (y :: m) = putRecord y (loadCues m) from rfl, mem_putRecord_of_new fresh, keeps, List.mem_cons]

/-! ## The contents replace the defaults (R134) -/

theorem settleGroups_frame (s : State) (l : List (Fin 8)) :
    (l.foldl settleAnew s).ctl.policies = s.ctl.policies ∧ (l.foldl settleAnew s).routes = s.routes
    ∧ (l.foldl settleAnew s).cues = s.cues ∧ (l.foldl settleAnew s).mgmt = s.mgmt := by
  induction l generalizing s with
  | nil => exact ⟨rfl, rfl, rfl, rfl⟩
  | cons g m ih =>
    obtain ⟨policies, routes, cues, mgmt⟩ := ih (s.settleAnew g)
    simp [policies, routes, cues, mgmt]

theorem loadImage_contents (s : State) (v : Settings) :
    (s.loadImage v).routes = { active := v.routes, shadow := v.routes, commit := none }
    ∧ (s.loadImage v).ctl.policies = v.policies
    ∧ (s.loadImage v).mgmt = { s.mgmt with grants := v.grants }
    ∧ (s.loadImage v).cues = { records := loadCues v.cues, staged := none, inUse := none }
    ∧ ((s.loadImage v).monitor .a).limits = v.limits.a ∧ ((s.loadImage v).monitor .b).limits = v.limits.b := by
  unfold loadImage
  dsimp only
  refine ⟨?_, ?_, ?_, ?_, ?_, applyLimits_limits _ .b _⟩
  · simp [settleGroups_frame]
  · simp [settleGroups_frame]
  · simp [settleGroups_frame]
  · simp [settleGroups_frame]
  · rw [applyLimits_other .a .b _ (by decide)]
    exact applyLimits_limits _ .a _

/-! ## The state LOAD_END leaves (R173, R174) -/

theorem execLoadEnd_at_end (whole : Bool) (hrun : s.framer.run = .load) (hcount : s.framer.loadCount = 259) :
    exec (.loadEnd whole) s = .next ((s.setFramer { s.framer with loadCount := 260, count := s.framer.count + 1 }).loadEnd whole) := by
  have due : s.framer.run = .load ∧ Config.loadPeriods ≤ s.framer.loadCount + 1 := ⟨hrun, by rw [hcount]; decide⟩
  refine congrArg Host.Outcome.next ((if_pos due).trans ?_)
  rw [hcount]
  rfl

/-- The fields of the state at LOAD's end, from the state with the scanned store after the image's outcome. -/
theorem loadEnd_fields (s : State) (whole : Bool) :
    let u := (s.setStore (scanStore s.store)).imageEnd whole
    let t := s.loadEnd whole
    t.framer = { s.framer with run := .gangWait, waitCount := 0 } ∧ t.align.prog.dInForce = t.ctl.policies.g0.dSet
    ∧ t.store = scanStore s.store ∧ t.links = s.links ∧ t.player = s.player ∧ t.pending = s.pending ∧ t.fault = u.fault
    ∧ t.cues = u.cues ∧ t.routes = u.routes ∧ t.ctl = u.ctl ∧ t.health = u.health ∧ t.mgmt = u.mgmt := by
  intro u t
  refine ⟨?_, ?_, ?_, ?_, ?_, ?_, ?_, ?_, ?_, ?_, ?_, ?_⟩ <;> simp [t, u, loadEnd]

theorem imageEnd_of_blank {s : State} (h : s.store.settings = { pages := [], disturbed := false }) (whole : Bool) :
    s.imageEnd whole = s.raise .settingsDefaulted .store (.image .noImage) := by
  unfold imageEnd
  rw [h]
  rfl

theorem imageEnd_of_saved {s : State} {v : Settings} (h : s.store.settings = savedImage v) (hv : contentGood v = true) :
    s.imageEnd true = s.loadImage v := by
  unfold imageEnd
  rw [h, judgeImage_savedImage v hv]

theorem scanStore_settings (t : Store) : (scanStore t).settings = t.settings := rfl

/-- R134: a contents check that passes has found no cue number twice. -/
theorem contentGood.nodup {v : Settings} (h : contentGood v = true) : (v.cues.map (fun r => r.cue)).Nodup := by
  simp only [contentGood, Bool.and_eq_true, decide_eq_true_eq] at h
  obtain ⟨⟨⟨⟨⟨⟨⟨⟨_, nodup⟩, _⟩, _⟩, _⟩, _⟩, _⟩, _⟩, _⟩ := h
  exact nodup

end State
end Sys2Proof.Machine
end


section
/-! PROOFS, family other. What the scan rebuilds from the flash (R117, R118), for O7. -/

namespace Sys2Proof.Machine

/-! ## Sparse tables in ascending order -/

namespace Sparse

variable {α β : Type} {d : Nat → α} {k : Nat} {v : α} {m : List (Nat × α)}

theorem get_of_absent (h : ∀ x ∈ m, x.1 ≠ k) : get d k m = d k := by
  induction m with
  | nil => rfl
  | cons x m ih =>
    obtain ⟨i, w⟩ := x
    simp only [get]
    rw [if_neg (h (i, w) (by simp))]
    exact ih (fun y hy => h y (by simp [hy]))

theorem get_of_mem (h : m.Pairwise (fun x y => x.1 < y.1)) (hm : (k, v) ∈ m) : get d k m = v := by
  induction m with
  | nil => simp at hm
  | cons x m ih =>
    obtain ⟨i, w⟩ := x
    obtain ⟨above, rest⟩ := List.pairwise_cons.1 h
    simp only [get]
    rcases List.mem_cons.1 hm with heq | hin
    · obtain ⟨rfl, rfl⟩ := Prod.mk.inj heq
      exact if_pos rfl
    · have : i < k := above _ hin
      rw [if_neg (by omega)]
      exact ih rest hin

theorem mem_of_get_ne (h : get d k m ≠ d k) : (k, get d k m) ∈ m := by
  induction m with
  | nil => exact absurd rfl h
  | cons x m ih =>
    obtain ⟨i, w⟩ := x
    simp only [get] at h ⊢
    by_cases hi : i = k
    · simp [hi]
    · rw [if_neg hi] at h ⊢
      exact List.mem_cons_of_mem _ (ih h)

theorem mem_insert {x : Nat × α} (h : x ∈ insert k v m) : x = (k, v) ∨ x ∈ m := by
  induction m with
  | nil => simpa [insert] using h
  | cons y m ih =>
    simp only [insert] at h
    split at h
    next => simpa using h
    next =>
      split at h
      next => exact (List.mem_cons.1 h).imp id (List.mem_cons_of_mem _)
      next =>
        rcases List.mem_cons.1 h with h | h
        · exact .inr (h ▸ List.mem_cons_self)
        · exact (ih h).imp id (List.mem_cons_of_mem _)

theorem mem_insert_same (k : Nat) (v : α) (m : List (Nat × α)) : (k, v) ∈ insert k v m := by
  induction m with
  | nil => simp [insert]
  | cons y m ih =>
    simp only [insert]
    repeat' split
    · simp
    · simp
    · exact List.mem_cons_of_mem _ ih

theorem mem_insert_other {x : Nat × α} (hx : x ∈ m) (hk : x.1 ≠ k) : x ∈ insert k v m := by
  induction m with
  | nil => simp at hx
  | cons y m ih =>
    simp only [insert]
    split
    next => exact List.mem_cons_of_mem _ hx
    next =>
      split
      next heq =>
        rcases List.mem_cons.1 hx with h | h
        · exact absurd (h ▸ heq.symm) hk
        · exact List.mem_cons_of_mem _ h
      next =>
        rcases List.mem_cons.1 hx with h | h
        · simp [h]
        · exact List.mem_cons_of_mem _ (ih h)

theorem insert_ascending (k : Nat) (v : α) (h : m.Pairwise (fun x y => x.1 < y.1)) :
    (insert k v m).Pairwise (fun x y => x.1 < y.1) := by
  induction m with
  | nil => simp [insert]
  | cons y m ih =>
    obtain ⟨above, rest⟩ := List.pairwise_cons.1 h
    simp only [insert]
    split
    next hlt =>
      refine List.pairwise_cons.2 ⟨fun z hz => ?_, h⟩
      rcases List.mem_cons.1 hz with rfl | hz
      · exact hlt
      · exact Nat.lt_trans hlt (above z hz)
    next hlt =>
      split
      next heq => exact List.pairwise_cons.2 ⟨fun z hz => heq ▸ above z hz, rest⟩
      next hne =>
        refine List.pairwise_cons.2 ⟨fun z hz => ?_, ih rest⟩
        rcases mem_insert hz with rfl | hz
        · show y.1 < k
          omega
        · exact above z hz

theorem insert_of_above (h : ∀ x ∈ m, x.1 < k) : insert k v m = m ++ [(k, v)] := by
  induction m with
  | nil => rfl
  | cons y m ih =>
    have below : y.1 < k := h y (by simp)
    simp only [insert]
    rw [if_neg (by omega), if_neg (by omega), ih (fun x hx => h x (by simp [hx]))]
    rfl

theorem foldl_insert_ascending {β : Type} (f : β → Nat) (g : β → α) (l : List β) (h : m.Pairwise (fun x y => x.1 < y.1)) :
    (l.foldl (fun t c => insert (f c) (g c) t) m).Pairwise (fun x y => x.1 < y.1) := by
  induction l generalizing m with
  | nil => exact h
  | cons c l ih => exact ih (insert_ascending _ _ h)

/-- An ascending list whose numbers are above the table's joins it as it stands. -/
theorem foldl_insert_of_above (l : List (Nat × α)) (h : (m ++ l).Pairwise (fun x y => x.1 < y.1)) :
    l.foldl (fun t x => insert x.1 x.2 t) m = m ++ l := by
  induction l generalizing m with
  | nil => simp
  | cons x l ih =>
    have below : ∀ y ∈ m, y.1 < x.1 := fun y hy => (List.pairwise_append.1 h).2.2 y hy x (by simp)
    rw [List.foldl_cons, insert_of_above below, ih (by simpa using h)]
    simp

variable {f : β → Nat} {g : β → α} {put1 : List (Nat × α) → β → List (Nat × α)}

/-- Entries put for other numbers leave a number's value. -/
theorem get_foldl_other (hput : ∀ t c j, get d j (put1 t c) = if j = f c then g c else get d j t) {l : List β}
    (h : ∀ c ∈ l, f c ≠ k) : get d k (l.foldl put1 m) = get d k m := by
  induction l generalizing m with
  | nil => rfl
  | cons c l ih =>
    rw [List.foldl_cons, ih (fun x hx => h x (by simp [hx])), hput, if_neg (Ne.symm (h c (by simp)))]

/-- A number's value stays when every entry put for it holds that value. -/
theorem get_foldl_kept (hput : ∀ t c j, get d j (put1 t c) = if j = f c then g c else get d j t) {l : List β}
    (h : ∀ c ∈ l, f c = k → g c = v) (hm : get d k m = v) : get d k (l.foldl put1 m) = v := by
  induction l generalizing m with
  | nil => exact hm
  | cons c l ih =>
    refine ih (fun x hx => h x (by simp [hx])) ?_
    rw [hput]
    split
    next hk => exact h c (by simp) hk.symm
    next => exact hm

/-- A number that an entry of the list names takes the value on which the entries for it agree. -/
theorem get_foldl_same (hput : ∀ t c j, get d j (put1 t c) = if j = f c then g c else get d j t) {l : List β} {c : β} (hc : c ∈ l)
    (h : ∀ x ∈ l, f x = f c → g x = g c) : get d (f c) (l.foldl put1 m) = g c := by
  induction l generalizing m with
  | nil => simp at hc
  | cons x l ih =>
    have rest : ∀ y ∈ l, f y = f c → g y = g c := fun y hy => h y (by simp [hy])
    by_cases hin : c ∈ l
    · exact ih hin rest
    · obtain rfl : c = x := (List.mem_cons.1 hc).resolve_right hin
      exact get_foldl_kept (m := put1 m c) hput rest (by rw [hput, if_pos rfl])

end Sparse
end Sys2Proof.Machine
end


section
/-! PROOFS, family other. The claims of the flash and their winners (R117), for O7. -/

namespace Sys2Proof.Machine

/-! ## The claims -/

/-- A physical sector with a complete header, neither RETIRED nor disturbed (R117). -/
def ClaimAt (m : List (Nat × FlashSector)) (p : Nat) (h : Header) : Prop :=
  p < 4160 ∧ (Memory.read m p).header = some h ∧ (Memory.read m p).retire = false ∧ (Memory.read m p).disturbed = false

section
variable {m : List (Nat × FlashSector)} (hwf : Memory.wf m = true)
include hwf

theorem flash_ascending : m.Pairwise (fun x y => x.1 < y.1) := (Sparse.wfAbove_keys hwf).1

theorem read_of_mem {p : Nat} {x : FlashSector} (h : (p, x) ∈ m) : Memory.read m p = x := Sparse.get_of_mem (flash_ascending hwf) h

/-- No listed sector is blank. -/
theorem listed_ne_blank {x : Nat × FlashSector} (h : x ∈ m) : x.2 ≠ blankSector := by
  have notBlank : ∀ (lo : Option Nat) (l : List (Nat × FlashSector)), Sparse.wfAbove (fun _ => blankSector) lo l = true →
      ∀ y ∈ l, y.2 ≠ blankSector := by
    intro lo l
    induction l generalizing lo with
    | nil => simp
    | cons z l ih =>
      obtain ⟨i, w⟩ := z
      intro hl y hy
      simp only [Sparse.wfAbove, Bool.and_eq_true, decide_eq_true_eq] at hl
      rcases List.mem_cons.1 hy with rfl | hy
      · exact hl.1.2
      · exact ih _ hl.2 y hy
  exact notBlank none m hwf x h

omit hwf in
theorem mem_of_read_ne_blank {p : Nat} (h : Memory.read m p ≠ blankSector) : (p, Memory.read m p) ∈ m := Sparse.mem_of_get_ne h

theorem isBlank_iff (p : Nat) : isBlank m p = true ↔ Memory.read m p = blankSector := by
  simp only [isBlank, Bool.not_eq_true', List.any_eq_false, beq_iff_eq]
  constructor
  · exact fun h => Sparse.get_of_absent (fun x hx => h x hx)
  · rintro h ⟨q, x⟩ hx rfl
    exact listed_ne_blank hwf hx (by rw [← h]; exact (read_of_mem hwf hx).symm)

theorem mem_retiredSectors (p : Nat) : p ∈ retiredSectors m ↔ p < 4160 ∧ (Memory.read m p).retire = true := by
  simp only [retiredSectors, dataFlash, List.mem_map, List.mem_filter, decide_eq_true_eq]
  constructor
  · rintro ⟨⟨q, x⟩, ⟨⟨hx, hlt⟩, hr⟩, rfl⟩
    exact ⟨hlt, by rw [read_of_mem hwf hx]; exact hr⟩
  · rintro ⟨hlt, hr⟩
    have listed : (p, Memory.read m p) ∈ m := mem_of_read_ne_blank (fun h => by rw [h] at hr; simp [blankSector] at hr)
    exact ⟨_, ⟨⟨listed, hlt⟩, hr⟩, rfl⟩

omit hwf in
theorem claimOf_eq_some_iff (x : Nat × FlashSector) (c : Claim) :
    claimOf x = some c ↔ x.2.header = some c.header ∧ x.2.retire = false ∧ x.2.disturbed = false ∧ c.phys = x.1
      ∧ c.sealed = x.2.sealMarker := by
  obtain ⟨p, hd, z⟩ := c
  simp only [claimOf]
  cases x.2.header with
  | none => simp
  | some h =>
    simp only [Option.ite_none_right_eq_some, Option.some.injEq, Claim.mk.injEq]
    constructor
    · rintro ⟨⟨hr, hd⟩, rfl, rfl, rfl⟩
      exact ⟨rfl, hr, hd, rfl, rfl⟩
    · rintro ⟨rfl, hr, hd, rfl, rfl⟩
      exact ⟨⟨hr, hd⟩, rfl, rfl, rfl⟩

theorem mem_claims_iff (c : Claim) :
    c ∈ claims m ↔ ClaimAt m c.phys c.header ∧ c.sealed = (Memory.read m c.phys).sealMarker := by
  simp only [claims, dataFlash, List.mem_filterMap, List.mem_filter, decide_eq_true_eq, claimOf_eq_some_iff]
  constructor
  · rintro ⟨⟨q, x⟩, ⟨hx, hlt⟩, hh, hr, hd, rfl, hz⟩
    have seen := read_of_mem hwf hx
    exact ⟨⟨hlt, by rw [seen]; exact hh, by rw [seen]; exact hr, by rw [seen]; exact hd⟩, by rw [seen]; exact hz⟩
  · rintro ⟨⟨hlt, hh, hr, hd⟩, hz⟩
    have listed : (c.phys, Memory.read m c.phys) ∈ m := mem_of_read_ne_blank (fun h => by rw [h] at hh; simp [blankSector] at hh)
    exact ⟨_, ⟨listed, hlt⟩, hh, hr, hd, rfl, hz⟩

/-- A claim of the flash is one of the scan's. -/
theorem exists_claim {p : Nat} {h : Header} (hc : ClaimAt m p h) : ∃ c ∈ claims m, c.phys = p ∧ c.header = h :=
  ⟨{ phys := p, header := h, sealed := (Memory.read m p).sealMarker }, (mem_claims_iff hwf _).2 ⟨hc, rfl⟩, rfl, rfl⟩

theorem claims_ascending : (claims m).Pairwise (fun c e => c.phys < e.phys) := by
  refine List.Pairwise.filterMap claimOf ?_ ((flash_ascending hwf).filter _)
  intro x y hxy c hc e he
  obtain ⟨_, _, _, hcp, _⟩ := (claimOf_eq_some_iff x c).1 hc
  obtain ⟨_, _, _, hep, _⟩ := (claimOf_eq_some_iff y e).1 he
  rw [hcp, hep]
  exact hxy

theorem claim_of_phys {c e : Claim} (hc : c ∈ claims m) (he : e ∈ claims m) (h : c.phys = e.phys) : c = e := by
  obtain ⟨⟨_, hch, _⟩, hcz⟩ := (mem_claims_iff hwf c).1 hc
  obtain ⟨⟨_, heh, _⟩, hez⟩ := (mem_claims_iff hwf e).1 he
  cases c
  cases e
  simp_all

end

/-! ## The winners -/

/-- The claims of one logical number. -/
def rivals (l : List Claim) (n : Nat) : List Claim := l.filter (fun d => d.header.logical == n)

theorem mem_rivals {l : List Claim} {n : Nat} {c : Claim} : c ∈ rivals l n ↔ c ∈ l ∧ c.header.logical = n := by
  simp [rivals, List.mem_filter]

/-- R117: the claim's generation is one more than another's, and no other's is one more than its own. -/
def newest (l : List Claim) (x : Claim) : Bool := l.any (fun y => oneMore x y) && !l.any (fun y => oneMore y x)

theorem newest_iff (l : List Claim) (x : Claim) :
    newest l x = true ↔ (∃ y ∈ l, x.header.generation = y.header.generation + 1)
      ∧ ∀ y ∈ l, y.header.generation ≠ x.header.generation + 1 := by
  simp [newest, oneMore]

theorem winnerOf_of_rivals (d f : Claim) (l : List Claim) :
    winnerOf (d :: f :: l) = some (((d :: f :: l).find? (newest (d :: f :: l))).getD d) := by
  have named : (fun x => (d :: f :: l).any (fun y => oneMore x y) && !(d :: f :: l).any (fun y => oneMore y x)) = newest (d :: f :: l) := rfl
  simp only [winnerOf, named]
  cases (d :: f :: l).find? (newest (d :: f :: l)) <;> rfl

theorem winnerOf_mem {l : List Claim} {c : Claim} (h : winnerOf l = some c) : c ∈ l := by
  match l with
  | [] => simp [winnerOf] at h
  | [d] => simpa [winnerOf, eq_comm] using h
  | d :: e :: l =>
    rw [winnerOf_of_rivals] at h
    obtain rfl := Option.some.inj h
    cases hf : (d :: e :: l).find? (newest (d :: e :: l)) with
    | none => exact List.mem_cons_self
    | some x => exact List.mem_of_find?_eq_some hf

theorem winnerOf_of_newest {l : List Claim} {e : Claim} (he : e ∈ l) (hnew : newest l e = true)
    (honly : ∀ x ∈ l, newest l x = true → x = e) : winnerOf l = some e := by
  match l with
  | [] => simp at he
  | [d] => exact congrArg some (List.mem_singleton.1 he).symm
  | d :: f :: l =>
    have found : (d :: f :: l).find? (newest (d :: f :: l)) = some e := by
      cases hf : (d :: f :: l).find? (newest (d :: f :: l)) with
      | none => exact absurd hnew (by simpa using List.find?_eq_none.1 hf e he)
      | some x => exact congrArg some (honly x (List.mem_of_find?_eq_some hf) (List.find?_some hf))
    rw [winnerOf_of_rivals, found]
    rfl

theorem winnerOf_of_only {l : List Claim} {e : Claim} (he : e ∈ l) (honly : ∀ x ∈ l, x = e) : winnerOf l = some e := by
  have some_winner : ∃ w, winnerOf l = some w := by
    match l with
    | [] => simp at he
    | [d] => exact ⟨d, rfl⟩
    | d :: f :: l => exact ⟨_, winnerOf_of_rivals d f l⟩
  obtain ⟨w, hw⟩ := some_winner
  rw [hw, honly w (winnerOf_mem hw)]

theorem mem_winners {l : List Claim} {c : Claim} :
    c ∈ winners l ↔ c ∈ l ∧ c.header.logical < 4096 ∧ ∃ w, winnerOf (rivals l c.header.logical) = some w ∧ w.phys = c.phys := by
  simp only [winners, List.mem_filter, Bool.and_eq_true, decide_eq_true_eq, rivals]
  refine and_congr_right fun _ => and_congr_right fun _ => ?_
  cases winnerOf (l.filter (fun d => d.header.logical == c.header.logical)) <;> simp

section
variable {m : List (Nat × FlashSector)} (hwf : Memory.wf m = true)
include hwf

/-- R117: one claim wins for a logical number. -/
theorem winner_unique {c e : Claim} (hc : c ∈ winners (claims m)) (he : e ∈ winners (claims m)) (h : c.header.logical = e.header.logical) :
    c = e := by
  obtain ⟨hcm, _, w, hw, hwc⟩ := mem_winners.1 hc
  obtain ⟨hem, _, x, hx, hxe⟩ := mem_winners.1 he
  rw [h, hx] at hw
  obtain rfl := Option.some.inj hw
  exact claim_of_phys hwf hcm hem (hwc.symm.trans hxe)

/-- R117: of two claims the one whose generation is one more wins. -/
theorem winner_of_pair {c e : Claim} (hc : c ∈ claims m) (he : e ∈ claims m) (h : c.header.logical = e.header.logical)
    (hlt : e.header.logical < 4096) (honly : ∀ x ∈ claims m, x.header.logical = e.header.logical → x = c ∨ x = e)
    (hnewer : c = e ∨ e.header.generation = c.header.generation + 1) :
    e ∈ winners (claims m) ∧ ∀ x ∈ winners (claims m), x.header.logical = e.header.logical → x = e := by
  have two : ∀ x, x ∈ rivals (claims m) e.header.logical ↔ x = c ∨ x = e := by
    intro x
    rw [mem_rivals]
    refine ⟨fun hx => honly x hx.1 hx.2, ?_⟩
    rintro (rfl | rfl)
    · exact ⟨hc, h⟩
    · exact ⟨he, rfl⟩
  have wins : winnerOf (rivals (claims m) e.header.logical) = some e := by
    rcases hnewer with rfl | hgen
    · refine winnerOf_of_only ((two c).2 (.inl rfl)) (fun x hx => ((two x).1 hx).elim id id)
    · have notBack : c.header.generation ≠ e.header.generation + 1 := by bv_omega
      have notSelf : e.header.generation ≠ e.header.generation + 1 := by bv_omega
      refine winnerOf_of_newest ((two e).2 (.inr rfl)) ?_ ?_
      · refine (newest_iff _ _).2 ⟨⟨c, (two c).2 (.inl rfl), hgen⟩, fun y hy => ?_⟩
        rcases (two y).1 hy with rfl | rfl
        · exact notBack
        · exact notSelf
      · intro x hx hnew
        refine ((two x).1 hx).resolve_left fun hxc => ?_
        subst hxc
        exact ((newest_iff _ _).1 hnew).2 e ((two e).2 (.inr rfl)) hgen
  refine ⟨mem_winners.2 ⟨he, hlt, e, wins, rfl⟩, fun x hx hxl => ?_⟩
  exact winner_unique hwf hx (mem_winners.2 ⟨he, hlt, e, wins, rfl⟩) hxl

end
end Sys2Proof.Machine
end


section
/-! PROOFS, family other. The map, the pool and the backlog that the scan rebuilds (R117, R118), for O7. -/

namespace Sys2Proof.Machine

/-! ## The free sectors and the numbers they are given to -/

theorem pairwise_zip_fst {α β : Type} {p : α → α → Prop} {l : List α} (h : l.Pairwise p) (r : List β) :
    (l.zip r).Pairwise (fun x y => p x.1 y.1) := by
  induction l generalizing r with
  | nil => simp
  | cons x l ih =>
    obtain ⟨first, rest⟩ := List.pairwise_cons.1 h
    cases r with
    | nil => simp
    | cons y r => exact List.pairwise_cons.2 ⟨fun z hz => first z.1 (List.of_mem_zip hz).1, ih rest r⟩

/-- A number stands once in an ascending table. -/
theorem entry_unique {α : Type} {l : List (Nat × α)} (h : l.Pairwise (fun x y => x.1 < y.1)) {x y : Nat × α} (hx : x ∈ l) (hy : y ∈ l)
    (hk : x.1 = y.1) : x = y := by
  have same : x.2 = y.2 := by
    refine (Sparse.get_of_mem (d := fun _ => y.2) h hx).symm.trans ?_
    rw [hk]
    exact Sparse.get_of_mem h hy
  exact Prod.ext hk same

variable {m : List (Nat × FlashSector)}

theorem mem_freeSectors (c : List Claim) (p : Nat) (b : Bool) :
    (p, b) ∈ freeSectors m c ↔ p < 4160 ∧ p ∉ retiredSectors m ∧ (∀ x ∈ c, x.phys ≠ p) ∧ b = isBlank m p := by
  have free : ∀ q, q ∈ (List.range Config.dataSectors).filter (fun p => !(retiredSectors m).contains p && !c.any (fun x => x.phys == p))
      ↔ q < 4160 ∧ q ∉ retiredSectors m ∧ ∀ x ∈ c, x.phys ≠ q := by
    intro q
    simp [List.mem_filter, Config.dataSectors]
  simp only [freeSectors, List.mem_append, List.mem_map, List.mem_filter, free, Prod.mk.injEq]
  constructor
  · rintro (⟨q, ⟨hq, hblank⟩, rfl, rfl⟩ | ⟨q, ⟨hq, hblank⟩, rfl, rfl⟩)
    · exact ⟨hq.1, hq.2.1, hq.2.2, hblank.symm⟩
    · exact ⟨hq.1, hq.2.1, hq.2.2, by simpa using hblank.symm⟩
  · rintro ⟨hlt, hret, hclaim, rfl⟩
    cases hb : isBlank m p with
    | true => exact .inl ⟨p, ⟨⟨hlt, hret, hclaim⟩, hb⟩, rfl, rfl⟩
    | false => exact .inr ⟨p, ⟨⟨hlt, hret, hclaim⟩, by simp [hb]⟩, rfl, rfl⟩

theorem givenSectors_ascending (c w : List Claim) : (givenSectors m c w).Pairwise (fun x y => x.1 < y.1) :=
  pairwise_zip_fst ((List.pairwise_lt_range (n := Config.logicalSectors)).filter _) _

theorem mem_givenSectors {c w : List Claim} {x : Nat × Nat × Bool} (h : x ∈ givenSectors m c w) :
    x.1 < 4096 ∧ (∀ y ∈ w, y.header.logical ≠ x.1) ∧ x.2 ∈ freeSectors m c := by
  obtain ⟨number, sector⟩ := List.of_mem_zip h
  simp only [List.mem_filter, List.mem_range, Bool.not_eq_true', List.any_eq_false, beq_iff_eq] at number
  exact ⟨number.1, number.2, sector⟩

theorem mem_leftSectors {c w : List Claim} {x : Nat × Bool} (h : x ∈ leftSectors m c w) : x ∈ freeSectors m c := List.mem_of_mem_drop h

/-! ## The map (R117) -/

/-- A winning claim's logical number is mapped to its sector. -/
theorem scanRemap_winner {given : List (Nat × Nat × Bool)} {w : List Claim} {c : Claim} (hc : c ∈ w)
    (hw : ∀ x ∈ w, x.header.logical = c.header.logical → x = c) : Sparse.get id c.header.logical (scanRemap given w) = c.phys :=
  Sparse.get_foldl_same (f := fun x => x.header.logical) (g := fun x => x.phys)
    (fun t x j => Sparse.get_put_any x.header.logical j x.phys t) hc (fun x hx h => congrArg Claim.phys (hw x hx h))

/-- A logical number without a claim is mapped to the free sector it is given. -/
theorem scanRemap_given {given : List (Nat × Nat × Bool)} {w : List Claim} {x : Nat × Nat × Bool} (hx : x ∈ given)
    (hasc : given.Pairwise (fun x y => x.1 < y.1)) (hw : ∀ y ∈ w, y.header.logical ≠ x.1) :
    Sparse.get id x.1 (scanRemap given w) = x.2.1 := by
  refine (Sparse.get_foldl_other (f := fun y => y.header.logical) (g := fun y => y.phys)
    (fun t y j => Sparse.get_put_any y.header.logical j y.phys t) hw).trans ?_
  by_cases heq : x.1 = x.2.1
  · refine (Sparse.get_of_absent fun y hy hk => ?_).trans heq
    obtain ⟨z, hz, rfl⟩ := List.mem_map.1 hy
    obtain ⟨hz, hne⟩ := List.mem_filter.1 hz
    obtain rfl := entry_unique hasc hz hx hk
    exact absurd heq (by simpa using hne)
  · refine Sparse.get_of_mem (List.pairwise_map.2 (hasc.filter _)) ?_
    exact List.mem_map.2 ⟨x, List.mem_filter.2 ⟨hx, by simpa using heq⟩, rfl⟩

/-! ## The states and the backlog (R117, R131) -/

theorem scanStates_ascending {given : List (Nat × Nat × Bool)} (hasc : given.Pairwise (fun x y => x.1 < y.1)) (dir : List DirEntry)
    (w : List Claim) : (scanStates given dir w).Pairwise (fun x y => x.1 < y.1) := by
  unfold scanStates
  refine Sparse.foldl_insert_ascending (fun c => c.header.logical) _ w ?_
  exact List.pairwise_map.2 (hasc.filter _)

/-- A winning claim's number is ALLOCATED when its clip is kept, and DIRTY otherwise. -/
theorem scanStates_winner {given : List (Nat × Nat × Bool)} {dir : List DirEntry} {w : List Claim} {c : Claim} (hc : c ∈ w)
    (hw : ∀ x ∈ w, x.header.logical = c.header.logical → x = c) :
    Sparse.get (fun _ => LogicalState.erased) c.header.logical (scanStates given dir w) = if claimKept dir c then .allocated else .dirty :=
  Sparse.get_foldl_same (f := fun x => x.header.logical) (g := fun x => if claimKept dir x then LogicalState.allocated else .dirty)
    (fun t x j => Sparse.get_insert_any x.header.logical j _ t) hc (fun x hx h => by rw [hw x hx h])

/-- A number without a claim is ERASED, or DIRTY in a free sector that is not blank. -/
theorem scanStates_given {given : List (Nat × Nat × Bool)} {dir : List DirEntry} {w : List Claim} {l : Nat}
    (hw : ∀ y ∈ w, y.header.logical ≠ l) :
    Sparse.get (fun _ => LogicalState.erased) l (scanStates given dir w) = .erased
    ∨ Sparse.get (fun _ => LogicalState.erased) l (scanStates given dir w) = .dirty ∧ ∃ p, (l, p, false) ∈ given := by
  have base : Sparse.get (fun _ => LogicalState.erased) l (scanStates given dir w) = _ :=
    Sparse.get_foldl_other (f := fun y => y.header.logical) (g := fun y => if claimKept dir y then LogicalState.allocated else .dirty)
      (fun t y j => Sparse.get_insert_any y.header.logical j _ t) hw
  rw [base]
  by_cases erased : Sparse.get (fun _ => LogicalState.erased) l
      ((given.filter (fun x => !x.2.2)).map (fun x => (x.1, LogicalState.dirty))) = .erased
  · exact .inl erased
  · have listed := Sparse.mem_of_get_ne (d := fun _ => LogicalState.erased) erased
    obtain ⟨⟨k, p, b⟩, hx, heq⟩ := List.mem_map.1 listed
    obtain ⟨hx, hb⟩ := List.mem_filter.1 hx
    obtain ⟨rfl, hd⟩ := Prod.mk.inj heq
    obtain rfl : b = false := by simpa using hb
    exact .inr ⟨hd.symm, p, hx⟩

/-! ## The pool (R117) -/

/-- A claim that loses goes into the pool as a sector to erase. -/
theorem loser_mem_scanPool {c w : List Claim} {left : List (Nat × Bool)} {x : Claim} (hx : x ∈ c) (hw : ∀ y ∈ w, y.phys ≠ x.phys) :
    (x.phys, false) ∈ scanPool c w left := by
  have pooled : ∀ (l : List Claim) (t : List (Nat × Bool)), (x ∈ l ∨ (x.phys, false) ∈ t) →
      (x.phys, false) ∈ l.foldl (fun m y => Sparse.insert y.phys false m) t := by
    intro l
    induction l with
    | nil => exact fun t h => h.resolve_left (by simp)
    | cons y l ih =>
      intro t h
      refine ih _ ?_
      by_cases same : x.phys = y.phys
      · exact .inr (same ▸ Sparse.mem_insert_same y.phys false t)
      · rcases h with h | h
        · exact (List.mem_cons.1 h).elim (fun e => absurd (congrArg Claim.phys e) same) .inl
        · exact .inr (Sparse.mem_insert_other h same)
  refine pooled _ _ (.inl (List.mem_filter.2 ⟨hx, ?_⟩))
  simpa using hw

/-- A sector of the pool is a free one left over, or a losing claim's. -/
theorem mem_scanPool {c w : List Claim} {left : List (Nat × Bool)} {p : Nat} {e : Bool} (h : (p, e) ∈ scanPool c w left) :
    (p, e) ∈ left ∨ e = false ∧ ∃ x ∈ c, x.phys = p := by
  have ofLeft : ∀ (l t : List (Nat × Bool)), (p, e) ∈ l.foldl (fun m x => Sparse.insert x.1 x.2 m) t → (p, e) ∈ t ∨ (p, e) ∈ l := by
    intro l
    induction l with
    | nil => exact fun t h => .inl h
    | cons y l ih =>
      intro t h
      rcases ih _ h with h | h
      · exact (Sparse.mem_insert h).elim (fun e => .inr (e ▸ List.mem_cons_self)) .inl
      · exact .inr (List.mem_cons_of_mem _ h)
  have ofLosers : ∀ (l : List Claim) (t : List (Nat × Bool)), (p, e) ∈ l.foldl (fun m x => Sparse.insert x.phys false m) t →
      (p, e) ∈ t ∨ e = false ∧ ∃ x ∈ l, x.phys = p := by
    intro l
    induction l with
    | nil => exact fun t h => .inl h
    | cons y l ih =>
      intro t h
      rcases ih _ h with h | ⟨he, x, hx, hp⟩
      · rcases Sparse.mem_insert h with h | h
        · obtain ⟨rfl, rfl⟩ := Prod.mk.inj h
          exact .inr ⟨rfl, y, by simp, rfl⟩
        · exact .inl h
      · exact .inr ⟨he, x, List.mem_cons_of_mem _ hx, hp⟩
  rcases ofLosers _ _ h with h | ⟨he, x, hx, hp⟩
  · exact .inl ((ofLeft _ _ h).resolve_left (by simp))
  · exact .inr ⟨he, x, (List.mem_filter.1 hx).1, hp⟩

end Sys2Proof.Machine
end


section
/-! PROOFS, family other. The directory that the scan rebuilds (R118), and the end of LOAD (O7). -/

namespace Sys2Proof.Machine

/-! ## The directory -/

/-- A clip kept from a winning claim: its seal stands, and every sector of its range is claimed for it (R118). -/
def KeptFrom (w : List Claim) (e : DirEntry) : Prop :=
  e.state = .sealed ∧ rangeClaimed w e.id e.first e.count = true
    ∧ ∃ c ∈ w, c.sealed = true ∧ c.header.logical = e.first
        ∧ c.header.params = some { length := e.length, loopStart := e.loopStart, loopLength := e.loopLength }

theorem mem_insertLogical {c x : Claim} {l : List Claim} (h : x ∈ insertLogical c l) : x = c ∨ x ∈ l := by
  induction l with
  | nil => simpa [insertLogical] using h
  | cons d m ih =>
    simp only [insertLogical] at h
    split at h
    next => simpa using h
    next =>
      rcases List.mem_cons.1 h with h | h
      · exact .inr (h ▸ List.mem_cons_self)
      · exact (ih h).imp id (List.mem_cons_of_mem _)

theorem mem_candidateClips {w : List Claim} {c : Claim} (h : c ∈ candidateClips w) : c ∈ w ∧ c.sealed = true := by
  have sorted : ∀ l : List Claim, c ∈ l.foldr insertLogical [] → c ∈ l := by
    intro l
    induction l with
    | nil => exact id
    | cons d m ih =>
      intro h
      exact (mem_insertLogical h).elim (fun e => e ▸ List.mem_cons_self) (fun h => List.mem_cons_of_mem _ (ih h))
  obtain ⟨hw, hc⟩ := List.mem_filter.1 (sorted _ h)
  simp only [Bool.and_eq_true] at hc
  exact ⟨hw, hc.2⟩

theorem mem_keepClip {w : List Claim} {l : List DirEntry} {c : Claim} (hc : c ∈ w) (hs : c.sealed = true) {e : DirEntry}
    (h : e ∈ keepClip w l c) : e ∈ l ∨ KeptFrom w e := by
  unfold keepClip at h
  cases hp : c.header.params with
  | none => exact .inl (by simpa only [hp] using h)
  | some p =>
    simp only [hp] at h
    split at h
    next hkeep =>
      rcases List.mem_append.1 h with h | h
      · exact .inl h
      · obtain ⟨_, _, _, _, hrange, _⟩ := hkeep
        obtain rfl := List.mem_singleton.1 h
        exact .inr ⟨rfl, hrange, c, hc, hs, rfl, hp⟩
    next => exact .inl h

theorem mem_scanDir {w : List Claim} {e : DirEntry} (h : e ∈ scanDir w) : KeptFrom w e := by
  have kept : ∀ (l : List Claim) (k : List DirEntry), (∀ c ∈ l, c ∈ w ∧ c.sealed = true) → e ∈ l.foldl (keepClip w) k →
      e ∈ k ∨ KeptFrom w e := by
    intro l
    induction l with
    | nil => exact fun k _ h => .inl h
    | cons c l ih =>
      intro k hl h
      obtain ⟨hc, hs⟩ := hl c (by simp)
      rcases ih _ (fun x hx => hl x (by simp [hx])) h with h | h
      · exact mem_keepClip hc hs h
      · exact .inr h
  have sorted := (State.sortClips_ok (State.keptClips_ok w (candidateClips w) (k := []) ⟨Nat.zero_le _, by simp, by simp⟩)).2
  exact (kept _ _ (fun c hc => mem_candidateClips hc) (sorted.mem_iff.1 h)).resolve_left (by simp)

/-- R118: a winning claim of a sector inside a kept clip's range is kept. -/
theorem rangeClaimed_at {w : List Claim} {dir : List DirEntry} {e : DirEntry} (he : e ∈ dir) (h : rangeClaimed w e.id e.first e.count = true)
    {j : Nat} (hj : j < e.count) :
    ∃ c ∈ w, c.header.logical = e.first + j ∧ c.header.clip = e.id ∧ c.header.index = j ∧ claimKept dir c = true := by
  have claimed := List.all_eq_true.1 h j (List.mem_range.2 hj)
  obtain ⟨c, hc, hplace⟩ := List.any_eq_true.1 claimed
  simp only [Bool.and_eq_true, beq_iff_eq] at hplace
  obtain ⟨⟨hl, hid⟩, hix⟩ := hplace
  refine ⟨c, hc, hl, hid, hix, List.any_eq_true.2 ⟨e, he, ?_⟩⟩
  simp [hl, hid, hix, hj]

/-! ## The rebuilt store -/

section
variable {t : Store} (hwf : Memory.wf t.flash = true)

theorem scanStore_backlog (t : Store) (l : Nat) : l ∈ (scanStore t).backlog ↔ (scanStore t).stateOf l = .dirty := by
  have asc := scanStates_ascending (givenSectors_ascending (m := t.flash) (claims t.flash) (winners (claims t.flash)))
    (scanDir (winners (claims t.flash))) (winners (claims t.flash))
  constructor
  · intro h
    obtain ⟨⟨k, v⟩, hx, rfl⟩ := List.mem_map.1 h
    obtain ⟨hx, hv⟩ := List.mem_filter.1 hx
    obtain rfl : v = .dirty := by simpa using hv
    exact Sparse.get_of_mem asc hx
  · intro h
    have listed := Sparse.mem_of_get_ne (d := fun _ => LogicalState.erased) (k := l) (m := (scanStore t).logical)
      (by rw [show Sparse.get (fun _ => LogicalState.erased) l (scanStore t).logical = .dirty from h]; decide)
    rw [show Sparse.get (fun _ => LogicalState.erased) l (scanStore t).logical = .dirty from h] at listed
    exact List.mem_map.2 ⟨_, List.mem_filter.2 ⟨listed, rfl⟩, rfl⟩

theorem scanStore_backlog_ascending (t : Store) : (scanStore t).backlog.Pairwise (fun x y => x < y) :=
  List.pairwise_map.2 ((scanStates_ascending (givenSectors_ascending _ _) _ _).filter _)

include hwf

theorem scanStore_spares {p : Nat} {e : Bool} (h : (p, e) ∈ (scanStore t).spares) :
    p < 4160 ∧ (Memory.read t.flash p).retire = false ∧ (e = true ↔ Memory.read t.flash p = blankSector) := by
  rcases mem_scanPool h with h | ⟨rfl, x, hx, rfl⟩
  · obtain ⟨hlt, hret, _, rfl⟩ := (mem_freeSectors _ _ _).1 (mem_leftSectors h)
    rw [mem_retiredSectors hwf, not_and, Bool.not_eq_true] at hret
    exact ⟨hlt, hret hlt, isBlank_iff hwf p⟩
  · obtain ⟨⟨hlt, hh, hret, _⟩, _⟩ := (mem_claims_iff hwf x).1 hx
    refine ⟨hlt, hret, by simp, fun hb => ?_⟩
    rw [hb] at hh
    simp [blankSector] at hh

/-- A winning claim in the rebuilt store: its number is mapped to its sector, and ALLOCATED or DIRTY. -/
theorem scanStore_winner {c : Claim} (hc : c ∈ winners (claims t.flash)) :
    (scanStore t).physOf c.header.logical = c.phys
    ∧ (scanStore t).stateOf c.header.logical = if claimKept (scanStore t).dir c then .allocated else .dirty :=
  ⟨scanRemap_winner hc (fun _ hx h => winner_unique hwf hx hc h), scanStates_winner hc (fun _ hx h => winner_unique hwf hx hc h)⟩

/-- R117: the newer of two claims is mapped, and the other one's sector goes into the pool. -/
theorem scanStore_pair {p q : Nat} {h k : Header} (hp : ClaimAt t.flash p h) (hq : ClaimAt t.flash q k) (hl : h.logical = k.logical)
    (hlt : k.logical < 4096) (honly : ∀ r n, ClaimAt t.flash r n → n.logical = k.logical → r = p ∨ r = q)
    (hnewer : p = q ∨ k.generation = h.generation + 1) :
    (scanStore t).physOf k.logical = q ∧ (scanStore t).stateOf k.logical ≠ .erased ∧ (p ≠ q → (p, false) ∈ (scanStore t).spares) := by
  obtain ⟨c, hc, rfl, rfl⟩ := exists_claim hwf hp
  obtain ⟨e, he, rfl, rfl⟩ := exists_claim hwf hq
  have only : ∀ x ∈ claims t.flash, x.header.logical = e.header.logical → x = c ∨ x = e := fun x hx h =>
    (honly x.phys x.header ((mem_claims_iff hwf x).1 hx).1 h).imp (claim_of_phys hwf hx hc) (claim_of_phys hwf hx he)
  obtain ⟨wins, alone⟩ := winner_of_pair hwf hc he hl hlt only (hnewer.imp (claim_of_phys hwf hc he) id)
  obtain ⟨phys, state⟩ := scanStore_winner hwf wins
  refine ⟨phys, ?_, fun hne => loser_mem_scanPool hc fun y hy hphys => ?_⟩
  · rw [state]
    split <;> simp
  · obtain ⟨hyc, _, _⟩ := mem_winners.1 hy
    obtain rfl := claim_of_phys hwf hyc hc hphys
    exact hne (congrArg Claim.phys (alone y hy hl))

/-- R117: a number without a claim is not ALLOCATED, and DIRTY only over a sector that is not blank. -/
theorem scanStore_unclaimed {l : Nat} (hl : ∀ p h, ClaimAt t.flash p h → h.logical ≠ l) :
    (scanStore t).stateOf l ≠ .allocated ∧ ((scanStore t).stateOf l = .dirty →
      Memory.read t.flash ((scanStore t).physOf l) ≠ blankSector ∧ (Memory.read t.flash ((scanStore t).physOf l)).retire = false) := by
  have none_wins : ∀ y ∈ winners (claims t.flash), y.header.logical ≠ l := fun y hy =>
    hl y.phys y.header ((mem_claims_iff hwf y).1 (mem_winners.1 hy).1).1
  rcases scanStates_given (given := givenSectors t.flash (claims t.flash) (winners (claims t.flash)))
    (dir := scanDir (winners (claims t.flash))) none_wins with erased | ⟨dirty, p, hgiven⟩
  · have state : (scanStore t).stateOf l = .erased := erased
    rw [state]
    simp
  · have state : (scanStore t).stateOf l = .dirty := dirty
    have phys : (scanStore t).physOf l = p := scanRemap_given hgiven (givenSectors_ascending _ _) none_wins
    obtain ⟨_, _, hfree⟩ := mem_givenSectors hgiven
    obtain ⟨hlt, hret, _, hblank⟩ := (mem_freeSectors _ _ _).1 hfree
    rw [mem_retiredSectors hwf, not_and, Bool.not_eq_true] at hret
    rw [state, phys]
    refine ⟨by simp, fun _ => ⟨fun hb => ?_, hret hlt⟩⟩
    rw [(isBlank_iff hwf p).2 hb] at hblank
    cases hblank

/-- R118: a clip of the directory is whole: its first sector is sealed and holds its parameters, and each sector holds its part. -/
theorem scanStore_clip {e : DirEntry} (he : e ∈ (scanStore t).dir) :
    e.state = .sealed ∧ EntryOk e ∧ (Memory.read t.flash ((scanStore t).physOf e.first)).sealMarker = true
    ∧ (∃ h, ClaimAt t.flash ((scanStore t).physOf e.first) h
        ∧ h.params = some { length := e.length, loopStart := e.loopStart, loopLength := e.loopLength })
    ∧ ∀ j, j < e.count → (scanStore t).stateOf (e.first + j) = .allocated
        ∧ ∃ h, ClaimAt t.flash ((scanStore t).physOf (e.first + j)) h ∧ h.logical = e.first + j ∧ h.clip = e.id ∧ h.index = j := by
  obtain ⟨_, _, ok, _⟩ := State.scanDir_ok (winners (claims t.flash))
  obtain ⟨state, range, c, hc, hsealed, hfirst, hparams⟩ := mem_scanDir he
  obtain ⟨hat, hseal⟩ := (mem_claims_iff hwf c).1 (mem_winners.1 hc).1
  obtain ⟨phys, _⟩ := scanStore_winner hwf hc
  rw [hfirst] at phys
  rw [phys]
  refine ⟨state, ok e he, hseal.symm.trans hsealed, ⟨c.header, hat, hparams⟩, fun j hj => ?_⟩
  obtain ⟨x, hx, hl, hid, hix, hkept⟩ := rangeClaimed_at he range hj
  obtain ⟨physx, statex⟩ := scanStore_winner hwf hx
  rw [if_pos hkept, hl] at statex
  rw [hl] at physx
  refine ⟨statex, x.header, ?_, hl, hid, hix⟩
  rw [physx]
  exact ((mem_claims_iff hwf x).1 (mem_winners.1 hx).1).1

end

/-! ## A blank flash -/

theorem isBlank_of_blank : isBlank [] = fun _ => true := rfl

/-- The free sectors of a blank flash: those the numbers take, and the 64 left over. -/
theorem freeSectors_of_blank :
    freeSectors [] [] = (List.range 4096).map (fun p => (p, true)) ++ (List.range 64).map (fun i => (4096 + i, true)) := by
  have all : freeSectors [] [] = (List.range (4096 + 64)).map (fun p => (p, true)) := by
    simp only [freeSectors, retiredSectors, dataFlash, isBlank_of_blank, Config.dataSectors]
    have none : (List.range (4096 + 64)).filter (fun _ => false) = [] := List.filter_eq_nil_iff.2 (by simp)
    simp [filter_const_true, none]
  rw [all, List.range_add, List.map_append, List.map_map]
  rfl

theorem numbers_of_blank :
    (List.range Config.logicalSectors).filter (fun l => !([] : List Claim).any (fun x => x.header.logical == l)) = List.range 4096 := by
  simp [Config.logicalSectors]

theorem zip_map_self {α β : Type} (f : α → β) (l : List α) : l.zip (l.map f) = l.map (fun x => (x, f x)) := by
  induction l with
  | nil => rfl
  | cons x l ih => simp [ih]

theorem givenSectors_of_blank : givenSectors [] [] [] = (List.range 4096).map (fun l => (l, l, true)) := by
  rw [givenSectors, numbers_of_blank, freeSectors_of_blank]
  have paired := List.zip_append (l₁ := List.range 4096) (r₁ := ([] : List Nat)) (l₂ := (List.range 4096).map (fun p => (p, true)))
    (r₂ := (List.range 64).map (fun i => (4096 + i, true))) (by simp)
  rw [List.append_nil, List.zip_nil_left, List.append_nil] at paired
  rw [paired, zip_map_self]

theorem leftSectors_of_blank : leftSectors [] [] [] = (List.range 64).map (fun i => (4096 + i, true)) := by
  rw [leftSectors, numbers_of_blank, freeSectors_of_blank]
  exact List.drop_left' (by simp)

theorem scanPool_of_claimless (left : List (Nat × Bool)) : scanPool [] [] left = left.foldl (fun m x => Sparse.insert x.1 x.2 m) [] := rfl

theorem scanStore_of_blank {t : Store} (h : t.flash = []) :
    (scanStore t).remap = [] ∧ (scanStore t).logical = [] ∧ (scanStore t).dir = [] ∧ (scanStore t).retired = [] ∧ (scanStore t).backlog = []
    ∧ (scanStore t).spares = (List.range 64).map (fun i => (4096 + i, true)) := by
  have claimless : claims t.flash = [] := by rw [h]; rfl
  have winless : winners ([] : List Claim) = [] := rfl
  have given : givenSectors t.flash (claims t.flash) (winners (claims t.flash)) = (List.range 4096).map (fun l => (l, l, true)) := by
    rw [claimless, winless, h]
    exact givenSectors_of_blank
  have logical : (scanStore t).logical = [] := by
    show scanStates _ _ _ = []
    rw [given, claimless, winless]
    simp [scanStates]
  refine ⟨?_, logical, ?_, ?_, ?_, ?_⟩
  · show scanRemap _ _ = []
    rw [given, claimless, winless]
    simp [scanRemap]
  · show scanDir _ = []
    rw [claimless, winless]
    rfl
  · show retiredSectors _ = []
    rw [h]
    rfl
  · show ((scanStore t).logical.filter _).map _ = []
    rw [logical]
    rfl
  · show scanPool _ _ _ = _
    rw [claimless, winless, h, leftSectors_of_blank, scanPool_of_claimless]
    have ascending : (([] : List (Nat × Bool)) ++ (List.range 64).map (fun i => (4096 + i, true))).Pairwise (fun x y : Nat × Bool => x.1 < y.1) :=
      List.pairwise_map.2 ((List.pairwise_lt_range (n := 64)).imp (fun h => Nat.add_lt_add_left h 4096))
    rw [Sparse.foldl_insert_of_above _ ascending, List.nil_append]

open State

/-- Settles O7: the image's outcome by its pages, and the store by the claims of the flash. -/
theorem loadEndEntersGangWait : Obligations.LoadEndEntersGangWait := by
  intro s whole hrun hcount
  let v : State := s.setFramer { s.framer with loadCount := 260, count := s.framer.count + 1 }
  obtain ⟨framer, inForce, store, links, player, pending, fault, cues, routes, ctl, health, mgmt⟩ := loadEnd_fields v whole
  let u := v.setStore (scanStore v.store)
  have store' : (v.loadEnd whole).store = scanStore s.store := store
  refine ⟨v.loadEnd whole, execLoadEnd_at_end whole hrun hcount, framer, inForce, by rw [store']; rfl, by rw [store']; rfl,
    links, player, pending, ?_, ?_, ?_⟩
  · intro hblank
    rw [imageEnd_of_blank (s := u) hblank] at fault cues routes ctl health mgmt
    exact ⟨fault.trans (raise_fault _ _ _ _), cues, routes, ctl, health, mgmt⟩
  · rintro w hsaved rfl hgood
    rw [imageEnd_of_saved (s := u) hsaved hgood] at fault cues routes ctl health mgmt
    obtain ⟨routesV, policiesV, mgmtV, cuesV, limitsA, limitsB⟩ := loadImage_contents u w
    refine ⟨fault.trans (loadImage_frame w).2.2.2.2.2.2.2.1, routes.trans routesV, ?_, mgmt.trans mgmtV, ?_, ?_, ?_, ?_, ?_⟩
    · rw [ctl, policiesV]
    · rw [health]
      exact limitsA
    · rw [health]
      exact limitsB
    · rw [cues, cuesV]
    · rw [cues, cuesV]
    · intro r
      rw [cues, cuesV]
      exact (mem_loadCues (contentGood.nodup hgood) r).symm
  · rw [store']
    refine ⟨rfl, rfl, rfl, rfl, fun h => ?_, fun hwf => ?_⟩
    · obtain ⟨remap, logical, dir, retired, backlog, spares⟩ := scanStore_of_blank h
      exact ⟨remap, logical, dir, retired, backlog, spares⟩
    · intro at_ claim
      obtain ⟨ascending, few, _, _⟩ := scanDir_ok (winners (claims s.store.flash))
      refine ⟨mem_retiredSectors hwf, fun p e h => scanStore_spares hwf h, ?_, ?_, scanStore_backlog s.store,
        scanStore_backlog_ascending s.store, ascending, few, fun e he => ?_⟩
      · exact fun p q h k hp hq hl hlt honly hnewer => scanStore_pair hwf hp hq hl hlt honly hnewer
      · exact fun l _ hl => scanStore_unclaimed hwf hl
      · obtain ⟨state, ⟨idLow, idHigh, params, count, range⟩, sealed, first, parts⟩ := scanStore_clip hwf he
        exact ⟨state, idLow, idHigh, params, count, range, sealed, first, parts⟩

end Sys2Proof.Machine
end


section
/-! PROOFS, family other. The switch controller's steps for one group other than group 0, SETTLED on a rig, while the program plays
(R71): what the steps find, and the switch they make. For O22 and O23. -/

namespace Sys2Proof.Machine

theorem Oct.set_get_self {α : Type} (p : Oct α) (k : Fin 8) : p.set k (p.get k) = p := by
  refine Oct.ext_get _ _ fun j => ?_
  by_cases h : j = k
  · rw [h, Oct.get_set_same]
  · rw [Oct.get_set_other _ _ _ _ h]

theorem Oct.set_g0_other {α : Type} (p : Oct α) {k : Fin 8} (v : α) (h : k ≠ 0) : (p.set k v).g0 = p.g0 :=
  Oct.get_set_other p k 0 v (Ne.symm h)

/-- A group with no AT BOUNDARY request, no placed switch and an idle timer, or with one that waits, is settled as it stands. -/
theorem Group.settleTimer_same {x : Group} (h : x.waits = true ∨ x.timer = none) : x.settleTimer = x := by
  rw [Group.settleTimer_eq]
  rcases h with h | h
  · rw [if_pos h]
  · rw [h, ite_self, ← h]

namespace State

variable {s : State} {g : Fin 8}

theorem setGroup_self {x : Group} (h : s.group g = x) : s.setGroup g x = s := by
  subst h
  simp only [setGroup, setCtl, group, Oct.set_get_self]

theorem playing_of_ne {s : State} (h : s.align.prog.state ≠ .stopped) : s.playing = true := by simp [playing_eq, h]

/-! ## What a change of another group's record leaves (R67, R149) -/

section
variable (hg : g ≠ 0) (y : Group)
include hg

theorem setGroup_stepOf (r : Rig) : (s.setGroup g y).stepOf r = s.stepOf r := by
  have timing : (s.setGroup g y).ctl.groups.g0 = s.ctl.groups.g0 := Oct.set_g0_other _ y hg
  rw [stepOf_eq, stepOf_eq, timing]
  rfl

theorem setGroup_ctlStep (r : Rig) : (s.setGroup g y).ctlStep r = s.ctlStep r := by
  simp only [ctlStep, setGroup_stepOf hg]
  rfl

theorem setGroup_rigEligible (r : Rig) : (s.setGroup g y).rigEligible r = s.rigEligible r := by
  simp only [rigEligible, setGroup_ctlStep hg]
  rfl

theorem setGroup_eligible (hst : y.st = (s.group g).st) (x : Source) : (s.setGroup g y).eligible g x = s.eligible g x := by
  cases x with
  | mute => rfl
  | a => exact setGroup_rigEligible hg y .a
  | b => exact setGroup_rigEligible hg y .b
  | bed =>
    simp only [eligible, bedEligible, setGroup_group, hst]
    rfl

omit y in
/-- R87: only group 0 makes a hard switch. -/
theorem hardRig_of_other (x : Source) : s.hardRig g x = false := by
  simp only [hardRig]
  split
  · rfl
  · simp [hg]

end

theorem eligible_rig (s : State) (g : Fin 8) (r : Rig) : s.eligible g r.source = s.rigEligible r := by cases r <;> rfl

theorem rigEligible_of_playing (hplay : s.playing = true) (r : Rig) :
    s.rigEligible r = true ↔ goodHealth (s.ctlHealth r) = true ∧ s.ctlStep r ≠ .outOfStep := by
  simp [rigEligible, hplay]

theorem ctlHealth_of_alone (h : s.leadsFollowers = false) (r : Rig) : s.ctlHealth r = (s.health.get r).state := by
  simp [ctlHealth, h, monitor]

theorem ctlStep_of_alone (h : s.leadsFollowers = false) (r : Rig) : s.ctlStep r = s.stepOf r := by
  simp [ctlStep, h]

theorem leadsFollowers_of_alone (h : s.gang.presentCount = 0) : s.leadsFollowers = false := by
  simp [leadsFollowers, h]

theorem leadsFollowers_of_present (hrole : s.gang.role = .leader) (h : 0 < s.gang.presentCount) : s.leadsFollowers = true := by
  simp [leadsFollowers, hrole, h]

theorem source_rig (r : Rig) : Source.rig r.source = some r := (Source.rig_eq_some_iff _ r).2 rfl

/-! ## The switch (R84, R93, R96) -/

/-- R93: the gang's records once a leader's vector has changed. -/
def announced (s : State) (g : Fin 8) (src : Source) (eff : ShowPos) (fade : Nat) (u : Urgency) : Gang :=
  let order : Byte := match s.gang.vector.get g with | some e => e.order + 1 | none => 0
  if s.gang.role = .leader then
    { s.gang with vector := s.gang.vector.set g (some { source := src, effective := eff, order := order, fade := fade, urgency := u }) }
  else s.gang

theorem changeVector_eq (s : State) (g : Fin 8) (src : Source) (eff : ShowPos) (fade : Nat) (u : Urgency) :
    s.changeVector g src eff fade u = s.setGang (s.announced g src eff fade u) := by
  unfold changeVector announced
  split <;> rfl

/-- R84, R96: the state once group `g` has switched from `o` with nothing left pending. -/
def switchedGroup (s : State) (g : Fin 8) (o : Source) (st : GroupState) (h : Nat) (i : SwitchInfo) (gang : Gang) : State :=
  { s with
    ctl := { s.ctl with
      groups := s.ctl.groups.set g { s.group g with st := st, h := h, placed := none, timer := none, healthMoved := true }
      journal := s.ctl.journal.push { number := s.ctl.journal.next, group := g, origin := o, dest := st.current, cause := i.cause
                                      level := i.level, urgency := i.urgency, outcome := i.outcome, pos := s.align.prog.pos, count := s.framer.count } }
    gang := gang }

theorem carry_of_no_requests {o : Source} {st : GroupState} {h : Nat} {i : SwitchInfo} (hg : g ≠ 0) (hard tell : Bool)
    (hop : (s.group g).op = none) (hhealth : (s.group g).health = none) (hrevert : (s.group g).revert = none)
    (hmoves : st.current ≠ (s.group g).st.current) :
    s.carry g o st hard h i tell = s.switchedGroup g o st h i
      (if tell then s.announced g st.current s.align.prog.pos (fadeUsed st) .immediate else s.gang) := by
  have moved : movedAfter (s.group g) st = true := by simp [movedAfter, hmoves]
  have placed : s.place g st hard = s.setGroup g { s.group g with st := st } := if_neg hg
  have settled : Group.settleTimer { s.group g with st := st, h := h, placed := none, healthMoved := true }
      = { s.group g with st := st, h := h, placed := none, timer := none, healthMoved := true } := by
    simp [Group.settleTimer_eq, Group.waits, isBoundary, hop, hhealth, hrevert]
  have carried : s.carry g o st hard h i tell = if tell then (s.switchedGroup g o st h i s.gang).vectorNow g (fadeUsed st)
      else s.switchedGroup g o st h i s.gang := by
    simp only [carry, placed, moved, setGroup_group]
    rw [settled, setGroup_setGroup]
    rfl
  have told : (s.switchedGroup g o st h i s.gang).vectorNow g (fadeUsed st)
      = s.switchedGroup g o st h i (s.announced g st.current s.align.prog.pos (fadeUsed st) .immediate) := by
    have current : ((s.switchedGroup g o st h i s.gang).group g).st.current = st.current := by
      simp only [switchedGroup, group, Oct.get_set_same]
    rw [vectorNow, changeVector_eq, current]
    rfl
  rw [carried, told]
  split <;> rfl

/-! ## The steps that find nothing to do (R71) -/

theorem groupStep_of_leader (hrole : s.gang.role = .leader) (candidate cueChanged : Bool) :
    groupStep candidate cueChanged s g = s.ownGroup g candidate cueChanged := by
  simp [groupStep, joined, discovering, hrole]

theorem fadeProgress_of_settled {x : Source} (h : (s.group g).st = .settled x) : s.fadeProgress g = s := by
  simp only [fadeProgress, h]

theorem fadeWatch_of_settled {x : Source} (h : (s.group g).st = .settled x) : s.fadeWatch g = (s, false) := by
  simp only [fadeWatch, h]

theorem deferral_of_idle (h : (s.group g).timer = none) (fresh : Bool) : s.deferral g fresh = s := by
  simp only [deferral, h]

theorem satisfyPlaced_of_none (h : (s.group g).placed = none) : s.satisfyPlaced g = s := by
  simp only [satisfyPlaced, h]

theorem placement_of_none (hplaced : (s.group g).placed = none) (hlead : s.leadsFollowers = false) (cueChanged : Bool) :
    s.placement g cueChanged = s := by
  simp only [placement, hplaced, placing, hlead]
  split <;> simp_all

theorem dropCause_of_empty {c : Cause} (hempty : (s.group g).setSlot c none = s.group g)
    (h : (s.group g).waits = true ∨ (s.group g).timer = none) : s.dropCause g c = s := by
  rw [dropCause, Group.drop, hempty, Group.settleTimer_same h]
  exact setGroup_self rfl

theorem needsRevert_of_off (hoff : (s.policy g).revertOn = false) (hrevert : (s.group g).revert = none)
    (h : (s.group g).waits = true ∨ (s.group g).timer = none) (src : Source) : s.needsRevert g src = s := by
  have unwanted : s.revertWanted g src = false := by simp [revertWanted, hoff]
  rw [needsRevert, unwanted]
  refine dropCause_of_empty ?_ h
  simp only [Group.setSlot, ← hrevert]

end State
end Sys2Proof.Machine
end


section
/-! PROOFS, family other. A group that stands on a FAILED rig leaves it (O22). -/

namespace Sys2Proof.Machine
namespace State

variable {s : State} {g : Fin 8} {r : Rig}

/-! ## The HEALTH choice without the failed rig (R75) -/

/-- R75 for a group other than group 0: the other rig, else BED, else MUTE. -/
def refuge (s : State) (g : Fin 8) (r : Rig) : Source :=
  let p := s.ctl.policies.get g
  let m := s.health.get r.other
  if r.other.source ∈ p.fallback ∧ (m.state = .healthy ∨ m.state = .suspect) ∧ s.stepOf r.other ≠ .outOfStep then r.other.source
  else if .bed ∈ p.fallback ∧ s.eligible g .bed = true then .bed
  else .mute

theorem refuge_ne (s : State) (g : Fin 8) (r : Rig) : s.refuge g r ≠ r.source := by
  unfold refuge
  dsimp only
  (repeat' split) <;> cases r <;> decide

/-- The first candidate, where a test admits one source alone. -/
theorem firstOf_of_only {l : List Source} {f : Source → Bool} {y : Source} (h : ∀ x ∈ l, f x = true → x = y) :
    firstOf l f = if y ∈ l ∧ f y = true then some y else none := by
  unfold firstOf
  cases hfind : l.find? f with
  | none =>
    rw [if_neg]
    rintro ⟨hy, hf⟩
    exact absurd hf (by simpa using List.find?_eq_none.1 hfind y hy)
  | some x =>
    have hx := List.mem_of_find?_eq_some hfind
    have hf := List.find?_some hfind
    obtain rfl := h x hx hf
    rw [if_pos ⟨hx, hf⟩]

theorem mem_candidates {x : Source} : x ∈ s.candidates g [r.source] ↔ x ∈ (s.policy g).fallback ∧ x ≠ r.source := by
  simp [candidates, List.mem_filter]

/-- A rig among the candidates is the other rig. -/
theorem candidate_rig {x : Source} {q : Rig} (hx : x ∈ s.candidates g [r.source]) (hq : Source.rig x = some q) : x = r.other.source := by
  obtain rfl := (Source.rig_eq_some_iff x q).1 hq
  obtain ⟨_, hne⟩ := mem_candidates.1 hx
  have only : q = r.other := by
    cases q <;> cases r <;> simp_all [Rig.other, Rig.source]
  rw [only]

theorem sourceHealth_rig (s : State) (r : Rig) (h : HealthState) : s.sourceHealth r.source h = (s.ctlHealth r == h) := by
  cases r <;> rfl

theorem sourceInStep_rig (s : State) (r : Rig) : s.sourceInStep r.source = (s.ctlStep r != .outOfStep) := by
  cases r <;> rfl

theorem firstOf_good (hlead : s.leadsFollowers = false) (h : HealthState) :
    firstOf (s.candidates g [r.source]) (fun x => s.sourceHealth x h && s.sourceInStep x)
      = if r.other.source ∈ (s.policy g).fallback ∧ (s.health.get r.other).state = h ∧ s.stepOf r.other ≠ .outOfStep
        then some r.other.source else none := by
  have rigOnly : ∀ x ∈ s.candidates g [r.source], (s.sourceHealth x h && s.sourceInStep x) = true → x = r.other.source := by
    intro x hx hf
    cases hq : Source.rig x with
    | none => simp [sourceHealth, hq] at hf
    | some q => exact candidate_rig hx hq
  rw [firstOf_of_only rigOnly, sourceHealth_rig, sourceInStep_rig, ctlHealth_of_alone hlead, ctlStep_of_alone hlead]
  have other_ne : r.other.source ≠ r.source := by cases r <;> decide
  simp [mem_candidates, other_ne]

theorem firstOf_bed : firstOf (s.candidates g [r.source]) (fun x => x == .bed && s.eligible g x)
    = if .bed ∈ (s.policy g).fallback ∧ s.eligible g .bed = true then some .bed else none := by
  rw [firstOf_of_only (y := .bed) (fun x _ hf => by simp at hf; exact hf.1)]
  have bed_ne : Source.bed ≠ r.source := by cases r <;> decide
  simp [mem_candidates, bed_ne]

theorem firstOf_hard (hg : g ≠ 0) (l : List Source) : firstOf l (fun x => s.hardEligible g x true) = none := by
  refine List.find?_eq_none.2 fun x _ => ?_
  simp [hardEligible, hardRig_of_other hg]

theorem orElse_ite {p : Prop} [Decidable p] (x : Source) (y : Option Source) :
    orElse (if p then some x else none) y = if p then some x else y := by
  split <;> rfl

/-- R75: the choice of a group other than group 0, away from a rig, of a unit that reads its own monitors. -/
theorem healthChoice_of_rig (hg : g ≠ 0) (hplay : s.playing = true) (hlead : s.leadsFollowers = false) (r : Rig) :
    s.healthChoice g [r.source] = some (s.refuge g r) := by
  have mute_left : (if [r.source].contains .mute then none else some Source.mute) = some .mute := by cases r <;> rfl
  have good_iff : (r.other.source ∈ (s.policy g).fallback
        ∧ ((s.health.get r.other).state = .healthy ∨ (s.health.get r.other).state = .suspect) ∧ s.stepOf r.other ≠ .outOfStep)
      ↔ (r.other.source ∈ (s.policy g).fallback ∧ (s.health.get r.other).state = .healthy ∧ s.stepOf r.other ≠ .outOfStep)
        ∨ (r.other.source ∈ (s.policy g).fallback ∧ (s.health.get r.other).state = .suspect ∧ s.stepOf r.other ≠ .outOfStep) := by
    constructor
    · rintro ⟨listed, healthy | suspect, step⟩
      · exact .inl ⟨listed, healthy, step⟩
      · exact .inr ⟨listed, suspect, step⟩
    · rintro (⟨listed, healthy, step⟩ | ⟨listed, suspect, step⟩)
      · exact ⟨listed, .inl healthy, step⟩
      · exact ⟨listed, .inr suspect, step⟩
  rw [healthChoice, choose, if_pos hplay, firstOf_good hlead, firstOf_good hlead, firstOf_bed, firstOf_hard hg, mute_left]
  simp only [orElse_ite]
  unfold refuge
  dsimp only [orElse]
  by_cases healthy : r.other.source ∈ (s.policy g).fallback ∧ (s.health.get r.other).state = .healthy ∧ s.stepOf r.other ≠ .outOfStep
  · rw [if_pos healthy]
    exact congrArg some (if_pos (good_iff.2 (.inl healthy))).symm
  · rw [if_neg healthy]
    by_cases suspect : r.other.source ∈ (s.policy g).fallback ∧ (s.health.get r.other).state = .suspect ∧ s.stepOf r.other ≠ .outOfStep
    · rw [if_pos suspect]
      exact congrArg some (if_pos (good_iff.2 (.inr suspect))).symm
    · rw [if_neg suspect]
      refine Eq.trans ?_ (congrArg some (if_neg fun good => (good_iff.1 good).elim healthy suspect).symm)
      exact (apply_ite some _ _ _).symm

/-- The choice does not see a change of the group's requests. -/
theorem refuge_setGroup (hg : g ≠ 0) {y : Group} (hst : y.st = (s.group g).st) : (s.setGroup g y).refuge g r = s.refuge g r := by
  simp only [refuge, setGroup_stepOf hg, setGroup_eligible hg y hst]
  rfl

/-! ## The switch off a failed rig (R72, R79, R84, R92) -/

theorem eligible_of_failed (hlead : s.leadsFollowers = false) (hfailed : (s.health.get r).state = .failed) (g : Fin 8) :
    s.eligible g r.source = false := by
  rw [eligible_rig, rigEligible, ctlHealth_of_alone hlead, hfailed]
  simp [goodHealth]

theorem switchState_of_ineligible {t : Source} (h : s.eligible g (s.group g).st.current = false) (fade : Nat) (cut : Bool) :
    s.switchState g t fade cut = .settled t := by
  simp [switchState, h]

/-- R92: GROUP MUTED joins a switch to MUTE; nothing else of the unit changes. -/
theorem mutedFault_eq (s : State) (g : Fin 8) (x t : Source) :
    s.mutedFault g x t = { s with fault := if t = .mute then captured s .groupMuted (.group g) (.source x) else s.fault } := by
  unfold mutedFault
  split
  · exact raise_eq_captured _ _ _ _
  · rfl

/-- A group with nothing pending and an idle timer. -/
structure Idle (x : Group) : Prop where
  op : x.op = none
  health : x.health = none
  revert : x.revert = none
  placed : x.placed = none
  timer : x.timer = none

/-- The IMMEDIATE HEALTH request that a failed source raises (R72). -/
def failureRequest (s : State) (g : Fin 8) : SwitchReq :=
  { target := none, urgency := .immediate, level := (s.policy g).healthLevel, hard := false, latched := s.framer.count }

/-- The group's record once the failed rig has been noticed: h is 0, and the request stands. -/
def noticed (s : State) (g : Fin 8) : Group :=
  { s.group g with h := 0, healthMoved := false, health := some (s.failureRequest g) }

theorem needNow_of_idle (idle : Idle (s.group g)) : s.needNow g = s.setGroup g (s.noticed g) := by
  simp only [needNow, latchHealth, setGroup_group, idle.health, setGroup_setGroup]
  refine congrArg (s.setGroup g) ?_
  simp [Group.latch, Group.setSlot, Group.settleTimer_eq, Group.waits, isBoundary, request, noticed, failureRequest, idle.op,
    idle.revert, idle.placed, idle.timer, GroupPolicy.level]

/-- R72, R76: a playing group on a failed rig, with nothing pending and no revert, has the HEALTH need alone. -/
theorem needs_of_failed (hplay : s.playing = true) (hst : (s.group g).st = .settled r.source) (hfailed : s.eligible g r.source = false)
    (idle : Idle (s.group g)) (hoff : (s.policy g).revertOn = false) (candidate : Bool) :
    ∃ fresh, s.needs g candidate = (s.setGroup g (s.noticed g), fresh) := by
  have notMute : r.source ≠ .mute := by cases r <;> decide
  have need : s.needsPlaying g r.source = s.setGroup g (s.noticed g) := by
    rw [needsPlaying, if_neg notMute, if_pos hfailed]
    exact needNow_of_idle idle
  have stays : (s.setGroup g (s.noticed g)).needsRevert g r.source = s.setGroup g (s.noticed g) := by
    have record := setGroup_group s g (s.noticed g)
    exact needsRevert_of_off (s := s.setGroup g (s.noticed g)) hoff (by rw [record]; exact idle.revert) (.inr (by rw [record]; exact idle.timer)) _
  simp only [needs, hst, if_pos hplay, need, stays]
  exact ⟨_, rfl⟩

/-- R79: the HEALTH request of the noticed record is the one that is due. -/
theorem dueRequests_of_noticed (idle : Idle (s.group g)) (hlevel : 1 ≤ (s.policy g).healthLevel) :
    (s.setGroup g (s.noticed g)).dueRequests g = [(.health, s.failureRequest g)] := by
  have above : 0 < (s.policy g).healthLevel := hlevel
  simp only [dueRequests, setGroup_group, Group.requests, noticed, idle.op, idle.revert]
  simp [due, ranked, rankInsert, failureRequest, above]

/-- The journal's account of a switch off a failed rig. -/
def failureInfo (s : State) (g : Fin 8) (c : Cause) : SwitchInfo :=
  { cause := c, level := (s.policy g).healthLevel, urgency := .immediate, outcome := .seamless }

/-- R84, R92: the group's record after the switch, the journal and the fault record; `gang` is the gang's part. -/
def leftRig (s : State) (g : Fin 8) (r : Rig) (c : Cause) (gang : Gang) : State :=
  { s.switchedGroup g r.source (.settled (s.refuge g r)) 0 (s.failureInfo g c) gang with
    fault := if s.refuge g r = .mute then captured s .groupMuted (.group g) (.source r.source) else s.fault }

/-- R84: the cut of an idle group off a failed rig, whatever its h and its HEALTH mark stand at. -/
theorem carry_to_refuge (hg : g ≠ 0) (hst : (s.group g).st = .settled r.source) (idle : Idle (s.group g)) (n : Nat) (b : Bool) (c : Cause) :
    ((s.setGroup g { s.group g with h := n, healthMoved := b }).carry g r.source (.settled (s.refuge g r)) false 0
        (s.failureInfo g c) true).mutedFault g r.source (s.refuge g r)
      = s.leftRig g r c (s.announced g (s.refuge g r) s.align.prog.pos 0 .immediate) := by
  let y : Group := { s.group g with h := n, healthMoved := b }
  have record : (s.setGroup g y).group g = y := setGroup_group _ _ _
  have moves : GroupState.current (.settled (s.refuge g r)) ≠ ((s.setGroup g y).group g).st.current := by
    rw [record]
    exact fun h => refuge_ne s g r (h.trans (congrArg GroupState.current hst))
  rw [carry_of_no_requests (s := s.setGroup g y) hg false true (by rw [record]; exact idle.op) (by rw [record]; exact idle.health)
    (by rw [record]; exact idle.revert) moves, mutedFault_eq]
  unfold switchedGroup leftRig
  rw [record, setGroup_ctl]
  dsimp only
  rw [Oct.set_set]
  rfl

/-- R79, R84: the noticed record's request is carried out. -/
theorem serve_of_noticed (hg : g ≠ 0) (hlead : s.leadsFollowers = false) (hplay : s.playing = true)
    (hst : (s.group g).st = .settled r.source) (hfailed : s.eligible g r.source = false) (idle : Idle (s.group g)) (reachedNow : Bool) :
    (s.setGroup g (s.noticed g)).serve g reachedNow false [(.health, s.failureRequest g)]
      = s.leftRig g r .health (s.announced g (s.refuge g r) s.align.prog.pos 0 .immediate) := by
  let u := s.setGroup g (s.noticed g)
  have record : u.group g = s.noticed g := setGroup_group _ _ _
  have current : (u.group g).st.current = r.source := by
    rw [record]
    exact congrArg GroupState.current hst
  have target : u.requestTarget g .health (s.failureRequest g) = some (s.refuge g r) := by
    have choice := healthChoice_of_rig (s := u) hg hplay hlead r
    rw [refuge_setGroup (y := s.noticed g) hg rfl] at choice
    simp only [requestTarget, current]
    exact choice
  have served : u.serve g reachedNow false [(.health, s.failureRequest g)] = u.carryRequest g .health (s.failureRequest g) (s.refuge g r) false := by
    have limit : u.throughLimit g (s.failureRequest g) reachedNow = false := rfl
    simp only [serve, target, current, limit]
    simp [refuge_ne]
  have cut : u.switchState g (s.refuge g r) (u.policy g).fade false = .settled (s.refuge g r) := by
    refine switchState_of_ineligible ?_ _ _
    rw [current, setGroup_eligible (y := s.noticed g) hg rfl]
    exact hfailed
  have emptied : u.setGroup g ((u.group g).setSlot .health none) = s.setGroup g { s.group g with h := 0, healthMoved := false } := by
    rw [setGroup_setGroup, record]
    refine congrArg (s.setGroup g) ?_
    simp only [noticed, Group.setSlot, ← idle.health]
  have urgent : u.journalUrgency g .immediate = .immediate := ite_self _
  rw [served, ← carry_to_refuge hg hst idle 0 false .health]
  simp only [carryRequest, emptied, cut, current, hardRig_of_other hg]
  rw [show (s.failureRequest g).urgency = .immediate from rfl, urgent]
  rfl

/-- A change of the vector leaves the unit's part in the gang. -/
theorem announced_leadsFollowers (s t : State) {src : Source} {eff : ShowPos} {fade : Nat} {u : Urgency}
    (h : t.gang = s.announced g src eff fade u) : t.leadsFollowers = s.leadsFollowers := by
  unfold leadsFollowers
  rw [h]
  unfold announced
  dsimp only
  split <;> rfl

/-- R71: on a leader without followers the group's steps are the need, and its service. -/
theorem ownGroup_of_failed (hg : g ≠ 0) (hlead : s.leadsFollowers = false) (hplay : s.playing = true)
    (hst : (s.group g).st = .settled r.source) (hfailed : s.eligible g r.source = false) (idle : Idle (s.group g))
    (hoff : (s.policy g).revertOn = false) (hlevel : 1 ≤ (s.policy g).healthLevel) (candidate cueChanged : Bool) :
    s.ownGroup g candidate cueChanged = s.leftRig g r .health (s.announced g (s.refuge g r) s.align.prog.pos 0 .immediate) := by
  obtain ⟨fresh, need⟩ := needs_of_failed hplay hst hfailed idle hoff candidate
  let u := s.setGroup g (s.noticed g)
  let t := s.leftRig g r .health (s.announced g (s.refuge g r) s.align.prog.pos 0 .immediate)
  have record : u.group g = s.noticed g := setGroup_group _ _ _
  have waits : u.deferral g fresh = u := deferral_of_idle (by rw [record]; exact idle.timer) fresh
  have unplaced : u.satisfyPlaced g = u := satisfyPlaced_of_none (by rw [record]; exact idle.placed)
  have settled : (u.group g).st = .settled r.source := by rw [record]; exact hst
  have served (reachedNow : Bool) : u.service g reachedNow false = t := by
    simp only [service, settled]
    rw [dueRequests_of_noticed idle hlevel]
    exact serve_of_noticed hg hlead hplay hst hfailed idle reachedNow
  have done : t.placement g cueChanged = t := by
    refine placement_of_none ?_ ?_ cueChanged
    · simp only [t, leftRig, switchedGroup, group, Oct.get_set_same]
    · exact (announced_leadsFollowers s t rfl).trans hlead
  simp only [ownGroup, fadeProgress_of_settled hst, fadeWatch_of_settled hst, need]
  rw [waits, unplaced, served, done]

/-- R95: a JOINED follower with no waiting entry makes the switch as a local emergency. -/
theorem joinedGroup_of_failed (hg : g ≠ 0) (hrole : s.gang.role = .follower) (hplay : s.playing = true)
    (hst : (s.group g).st = .settled r.source) (hfailed : (s.health.get r).state = .failed) (idle : Idle (s.group g))
    (hwaiting : s.gang.waiting.get g = none) (cueChanged : Bool) :
    s.joinedGroup g cueChanged = s.leftRig g r .localEmergency { s.gang with emergency := s.gang.emergency.set g true } := by
  let t := s.leftRig g r .localEmergency { s.gang with emergency := s.gang.emergency.set g true }
  have hlead := leadsFollowers_of_follower hrole
  have calls : s.emergencySource g r.source = true := by simp [emergencySource, source_rig, monitor, hfailed]
  have current : (s.group g).st.current = r.source := congrArg GroupState.current hst
  have cut : s.switchState g (s.refuge g r) (s.policy g).fade false = .settled (s.refuge g r) :=
    switchState_of_ineligible (by rw [current]; exact eligible_of_failed hlead hfailed g) _ _
  have untold : s.announced g (s.refuge g r) s.align.prog.pos 0 .immediate = s.gang := by
    unfold announced
    simp [hrole]
  have carried := carry_to_refuge hg hst idle (s.group g).h (s.group g).healthMoved .localEmergency
  rw [setGroup_self rfl, untold] at carried
  have left : s.emergency g r.source = t := by
    simp only [emergency, healthChoice_of_rig hg hplay hlead, hardRig_of_other hg, cut]
    exact congrArg (flagEmergency · g) carried
  have watched : s.joinedWatch g = t := by
    simp only [joinedWatch, hst, calls, if_true]
    exact left
  have waiting : t.gang.waiting.get g = none := hwaiting
  rw [joinedGroup, fadeProgress_of_settled hst, watched]
  simp only [waitingPoint, joinedService, waiting]
  rfl

end State
open State

/-- Settles O22: on a leader the HEALTH need and its service, on a follower the watch of R95. -/
theorem failedRigIsLeft : Obligations.FailedRigIsLeft := by
  intro s g r candidate cueChanged x p m hplay hg hst hfailed hop hhealth hrevert hplaced htimer dest order left
  have idle : Idle (s.group g) := ⟨hop, hhealth, hrevert, hplaced, htimer⟩
  have settled : (s.group g).st = .settled r.source := hst
  have plays := playing_of_ne hplay
  have shown (c : Cause) (gang : Gang) : s.leftRig g r c gang = left c gang := by
    have record : s.ctl.groups.set g { s.group g with st := .settled dest, h := 0, placed := none, timer := none, healthMoved := true }
        = s.ctl.groups.set g { x with st := .settled dest, h := 0, healthMoved := true } := by
      rw [← hplaced, ← htimer]
      rfl
    simp only [leftRig, switchedGroup]
    exact congrArg (fun y => { left c gang with ctl := { (left c gang).ctl with groups := y } }) record
  refine ⟨fun hrole halone hoff hlevel => ?_, fun hrole hstate hwaiting => ?_⟩
  · have hlead := leadsFollowers_of_alone halone
    rw [groupStep_of_leader hrole,
      ownGroup_of_failed hg hlead plays settled (eligible_of_failed hlead hfailed g) idle hoff hlevel, shown]
    refine congrArg (left .health) ?_
    unfold announced
    exact if_pos hrole
  · have joins : s.joined = true := by simp [joined, hrole, hstate]
    rw [groupStep, if_pos joins, joinedGroup_of_failed hg hrole plays settled hfailed idle hwaiting, shown]

end Sys2Proof.Machine
end


section
/-! PROOFS, family other. An OPERATOR request on a group SETTLED on a good rig (O23). -/

namespace Sys2Proof.Machine
namespace State

variable {s : State} {g : Fin 8} {r : Rig} {dest : Source}

/-! ## The steps of a group on a good rig (R71, R72, R80) -/

/-- A playing group other than group 0 on a HEALTHY rig in step, with no HEALTH or REVERT request and no revert wanted. -/
structure Steady (s : State) (g : Fin 8) (r : Rig) : Prop where
  other : g ≠ 0
  plays : s.playing = true
  settled : (s.group g).st = .settled r.source
  healthy : s.ctlHealth r = .healthy
  inStep : s.ctlStep r ≠ .outOfStep
  health : (s.group g).health = none
  revert : (s.group g).revert = none
  off : (s.policy g).revertOn = false

theorem Steady.eligible (h : Steady s g r) : s.eligible g r.source = true := by
  rw [eligible_rig, rigEligible_of_playing h.plays, h.healthy]
  exact ⟨rfl, h.inStep⟩

theorem Steady.current (h : Steady s g r) : (s.group g).st.current = r.source := congrArg GroupState.current h.settled

/-- The facts hold whatever the group's OPERATOR slot, placement and timer become. -/
theorem Steady.setGroup (h : Steady s g r) {y : Group} (hst : y.st = (s.group g).st) (hhealth : y.health = none) (hrevert : y.revert = none) :
    Steady (s.setGroup g y) g r where
  other := h.other
  plays := h.plays
  settled := by rw [setGroup_group, hst]; exact h.settled
  healthy := h.healthy
  inStep := by rw [setGroup_ctlStep h.other]; exact h.inStep
  health := by rw [setGroup_group]; exact hhealth
  revert := by rw [setGroup_group]; exact hrevert
  off := h.off

/-- R72, R76: the source calls for nothing. -/
theorem Steady.needs (h : Steady s g r) (hwaits : (s.group g).waits = true ∨ (s.group g).timer = none) (candidate : Bool) :
    s.needs g candidate = (s, false) := by
  have notMute : r.source ≠ .mute := by cases r <;> decide
  have sound : s.suspectSource r.source = false := by simp [suspectSource, source_rig, h.healthy]
  have noHealth : s.dropCause g .health = s := by
    refine dropCause_of_empty ?_ hwaits
    simp only [Group.setSlot, ← h.health]
  have need : s.needsPlaying g r.source = s := by
    rw [needsPlaying, if_neg notMute, if_neg (by simp [h.eligible]), if_neg (by simp [sound])]
    exact noHealth
  simp only [State.needs, h.settled, if_pos h.plays, need, needsRevert_of_off h.off h.revert hwaits]
  simp

/-- R84: the state a group on a good rig takes for a request's target. -/
def entered (s : State) (g : Fin 8) (r : Rig) (dest : Source) : GroupState :=
  if 0 < (s.policy g).fade then .fading r.source dest (s.policy g).fade s.framer.count false else .settled dest

theorem entered_current (s : State) (g : Fin 8) (r : Rig) (dest : Source) : (s.entered g r dest).current = dest := by
  unfold entered
  split <;> rfl

theorem entered_fadeUsed (s : State) (g : Fin 8) (r : Rig) (dest : Source) : fadeUsed (s.entered g r dest) = (s.policy g).fade := by
  unfold entered
  split
  · rfl
  · simp only [fadeUsed]
    omega

theorem Steady.switchState (h : Steady s g r) : s.switchState g dest (s.policy g).fade false = s.entered g r dest := by
  simp [State.switchState, h.plays, h.current, h.eligible, entered]

/-- R80: a waiting group's timer counts on. -/
def counted (s : State) (g : Fin 8) (n : Nat) : Group := { s.group g with timer := some (n + 1) }

theorem deferral_of_running {n : Nat} (htimer : (s.group g).timer = some n) (hlimit : n + 1 < (s.policy g).deferral) :
    s.deferral g false = s.setGroup g (s.counted g n) := by
  simp only [deferral, htimer]
  rw [if_neg (by simp), if_neg (by omega)]
  rfl

/-! ## An IMMEDIATE request on a leader without followers (R79, R84) -/

/-- The journal's account of an OPERATOR switch. -/
def operatorInfo (level : Nat) (u : Urgency) (y : SwitchOutcome) : SwitchInfo :=
  { cause := .operator, level := level, urgency := u, outcome := y }

/-- R79: one OPERATOR request above h, due at once. -/
theorem dueRequests_of_operator {q : SwitchReq} (h : Steady s g r) (hop : (s.group g).op = some q) (hq : q.urgency = .immediate)
    (hlevel : (s.group g).h < q.level) : s.dueRequests g = [(.operator, q)] := by
  simp only [dueRequests, Group.requests, hop, h.health, h.revert]
  simp [due, ranked, rankInsert, hq, hlevel]

theorem carryRequest_of_operator (h : Steady s g r) (hdest : dest ≠ r.source) {q : SwitchReq} (hq : q.urgency = .immediate) :
    s.carryRequest g .operator q dest false
      = (s.setGroup g { s.group g with op := none }).switchedGroup g r.source (s.entered g r dest) q.level
          (operatorInfo q.level .immediate .seamless) (s.announced g dest s.align.prog.pos (s.policy g).fade .immediate) := by
  let y : Group := { s.group g with op := none }
  have record : (s.setGroup g y).group g = y := setGroup_group _ _ _
  have urgent : s.journalUrgency g q.urgency = .immediate := by rw [hq]; exact ite_self _
  have moves : (s.entered g r dest).current ≠ ((s.setGroup g y).group g).st.current := by
    rw [record, entered_current]
    exact fun e => hdest (e.trans h.current)
  have carried := carry_of_no_requests (s := s.setGroup g y) (o := r.source) (h := q.level)
    (i := operatorInfo q.level .immediate .seamless) h.other false true
    (by rw [record]) (by rw [record]; exact h.health) (by rw [record]; exact h.revert) moves
  rw [entered_current, entered_fadeUsed] at carried
  simp only [carryRequest, h.current, h.switchState, hardRig_of_other h.other, urgent]
  exact carried

theorem ownGroup_of_immediate (h : Steady s g r) (hlead : s.leadsFollowers = false) (hdest : dest ≠ r.source) (hto : s.eligible g dest = true)
    (hplaced : (s.group g).placed = none) (htimer : (s.group g).timer = none) {q : SwitchReq} (hop : (s.group g).op = some q)
    (hq : q.urgency = .immediate) (htarget : q.target = some dest) (hlevel : (s.group g).h < q.level) (candidate cueChanged : Bool) :
    s.ownGroup g candidate cueChanged
      = (s.setGroup g { s.group g with op := none }).switchedGroup g r.source (s.entered g r dest) q.level
          (operatorInfo q.level .immediate .seamless) (s.announced g dest s.align.prog.pos (s.policy g).fade .immediate) := by
  let t := (s.setGroup g { s.group g with op := none }).switchedGroup g r.source (s.entered g r dest) q.level
    (operatorInfo q.level .immediate .seamless) (s.announced g dest s.align.prog.pos (s.policy g).fade .immediate)
  have served (reachedNow : Bool) : s.service g reachedNow false = t := by
    have limit : s.throughLimit g q reachedNow = false := by simp [throughLimit, hq]
    have admitted : s.targetEligible g dest (hardPerm .operator q.hard) = true := by simp [targetEligible, hto]
    simp only [service, h.settled]
    rw [dueRequests_of_operator h hop hq hlevel]
    simp only [serve, requestTarget, htarget, admitted, h.current, limit, if_neg hdest]
    simp only [or_true, if_true]
    exact carryRequest_of_operator h hdest hq
  have done : t.placement g cueChanged = t := by
    refine placement_of_none ?_ ((announced_leadsFollowers s t rfl).trans hlead) cueChanged
    simp only [t, switchedGroup, group, Oct.get_set_same]
  simp only [ownGroup, fadeProgress_of_settled h.settled, fadeWatch_of_settled h.settled, h.needs (.inr htimer),
    deferral_of_idle htimer, satisfyPlaced_of_none hplaced]
  rw [served, done]

/-! ## A waiting group on a leader with followers (R80, R93, R94) -/

/-- R80: at a leader with followers no AT BOUNDARY request is due, so the group's steps come to its placement. -/
theorem ownGroup_of_waiting {n : Nat} (h : Steady s g r) (hlead : s.leadsFollowers = true) (htimer : (s.group g).timer = some n)
    (hlimit : n + 1 < (s.policy g).deferral) (hwaits : (s.group g).waits = true)
    (hrequests : ∀ q, (s.group g).op = some q → q.urgency = .atBoundary)
    (hsame : (s.setGroup g (s.counted g n)).satisfyPlaced g = s.setGroup g (s.counted g n)) (candidate cueChanged : Bool) :
    s.ownGroup g candidate cueChanged = (s.setGroup g (s.counted g n)).placement g cueChanged := by
  let u := s.setGroup g (s.counted g n)
  have record : u.group g = s.counted g n := setGroup_group _ _ _
  have hu : Steady u g r := h.setGroup rfl h.health h.revert
  have noneDue : u.dueRequests g = [] := by
    have places : u.placing = true := by
      have plays : u.playing = true := hu.plays
      simp only [placing, plays, Bool.and_true]
      exact hlead
    have notDue : ∀ q : SwitchReq, q.urgency = .atBoundary → u.due g q = false := by
      intro q hq
      simp [due, hq, hu.current, hu.eligible, places]
    simp only [dueRequests, record, Group.requests, counted, h.health, h.revert]
    cases hop : (s.group g).op with
    | none => rfl
    | some q =>
      simp [notDue q (hrequests q hop), ranked]
  have served (reachedNow : Bool) : u.service g reachedNow false = u := by
    simp only [service, hu.settled, noneDue, serve]
  simp only [ownGroup, fadeProgress_of_settled h.settled, fadeWatch_of_settled h.settled, h.needs (.inl hwaits),
    deferral_of_running htimer hlimit]
  rw [hsame, served]

/-- R58, R59: the switch point found the gang lead ahead. -/
def pointAhead (s : State) : Option ShowPos :=
  (search s.policyInUse (s.align.prog.pos.pos.toNat + s.ctl.policies.g0.gangLead)).map
    (fun y => { cue := s.align.prog.pos.cue, pos := BitVec.ofNat 32 y })

theorem searchPoint_of_leads (hlead : s.leadsFollowers = true) : s.searchPoint = s.pointAhead := by
  simp only [searchPoint, searchLead, if_pos hlead]
  rfl

/-- R93: the OPERATOR request placed at a switch point. -/
def placedFor (q : SwitchReq) (dest : Source) (point : Option ShowPos) : Placed :=
  { cause := .operator, level := q.level, target := dest, hard := q.hard, point := point, moved := false, pin := none, latched := q.latched }

/-- R93: what the gang is told of a placed switch. -/
def announcedAhead (s : State) (g : Fin 8) (dest : Source) : Gang :=
  s.pointAhead.elim s.gang (fun pt => s.announced g dest pt (s.policy g).fade .atBoundary)

theorem placement_of_operator {q : SwitchReq} (h : Steady s g r) (hlead : s.leadsFollowers = true) (hdest : dest ≠ r.source)
    (hto : s.eligible g dest = true) (hplaced : (s.group g).placed = none) (hop : (s.group g).op = some q) (hq : q.urgency = .atBoundary)
    (htarget : q.target = some dest) (hlevel : (s.group g).h < q.level) (cueChanged : Bool) :
    s.placement g cueChanged
      = (s.setGroup g { s.group g with op := none, placed := some (placedFor q dest s.pointAhead) }).setGang (s.announcedAhead g dest) := by
  have places : s.placing = true := by simp [placing, hlead, h.plays]
  have first : ranked ((s.group g).requests.filter (fun x => decide ((s.group g).h < x.2.level) && x.2.urgency == .atBoundary))
      = [(.operator, q)] := by
    simp only [Group.requests, hop, h.health, h.revert]
    simp [ranked, rankInsert, hq, hlevel]
  have admitted : s.targetEligible g dest (hardPerm .operator q.hard) = true := by simp [targetEligible, hto]
  have elsewhere : dest ≠ (GroupState.settled r.source).current := hdest
  have placed : s.placement g cueChanged = s.placeRequest g .operator q dest := by
    simp only [placement, h.settled, hplaced, if_pos places, first, placeFirst, requestTarget, htarget, admitted]
    simp [elsewhere]
  rw [placed]
  simp only [placeRequest, searchPoint_of_leads hlead, announcedAhead]
  cases s.pointAhead with
  | none => rfl
  | some pt =>
    simp only [changeVector_eq]
    rfl

/-- R94: a placed switch at its point is carried out, and the vector stays. -/
theorem placement_at_point {c : Placed} (h : Steady s g r) (hlead : s.leadsFollowers = true) (hdest : dest ≠ r.source)
    (hto : s.eligible g dest = true) (hplaced : (s.group g).placed = some c) (hop : (s.group g).op = none) (hcause : c.cause = .operator)
    (htarget : c.target = dest) (hpoint : c.point = some s.align.prog.pos) (hpin : c.pin = none) (cueChanged : Bool) :
    s.placement g cueChanged = s.switchedGroup g r.source (s.entered g r dest) c.level
      (operatorInfo c.level .atBoundary (if c.moved then .atLimit else .seamless)) s.gang := by
  have admitted : s.targetEligible g c.target (hardPerm c.cause c.hard) = true := by simp [targetEligible, htarget, hto]
  have stays : s.placedReopen g c cueChanged = s := by
    rw [placedReopen, if_neg]
    simp [hpoint]
  have judged : s.placedJudge g c = s.placedCarry g c none false := by
    simp only [placedJudge, hpoint, hlead]
    exact if_pos rfl
  have carried : s.placement g cueChanged = s.placedCarry g c none false := by
    simp only [placement, h.settled, hplaced, placedStep, admitted, stays, judged]
    simp
  have moves : (s.entered g r dest).current ≠ (s.group g).st.current := by
    rw [entered_current, h.current]
    exact hdest
  have switched := carry_of_no_requests (o := r.source) (h := c.level)
    (i := operatorInfo c.level .atBoundary (if c.moved then .atLimit else .seamless)) h.other false false hop h.health h.revert moves
  rw [carried]
  simp only [placedCarry, htarget, h.current, h.switchState, hardRig_of_other h.other, placedHold, hpin, hcause]
  exact switched

theorem satisfyPlaced_of_unrequested {c : Placed} (hplaced : (s.group g).placed = some c) (hop : (s.group g).op = none)
    (hhealth : (s.group g).health = none) (hrevert : (s.group g).revert = none) : s.satisfyPlaced g = s := by
  have same : s.dropPlaced g c = s := by
    refine setGroup_self ?_
    generalize s.group g = x at *
    cases x
    simp_all
  simp only [satisfyPlaced, hplaced, same, ite_self]

theorem announced_of_leader (hrole : s.gang.role = .leader) (dest : Source) (eff : ShowPos) (fade : Nat) (u : Urgency) :
    s.announced g dest eff fade u = { s.gang with vector := s.gang.vector.set g (some
      { source := dest, effective := eff, order := (s.gang.vector.get g).elim 0 (fun e => e.order + 1), fade := fade, urgency := u }) } := by
  unfold announced
  rw [if_pos hrole]
  cases s.gang.vector.get g <;> rfl

/-- The switched group's state over a changed record of it. -/
theorem switchedGroup_setGroup (s : State) (g : Fin 8) (y : Group) (o : Source) (st : GroupState) (n : Nat) (i : SwitchInfo) (gang : Gang) :
    (s.setGroup g y).switchedGroup g o st n i gang
      = { s.switchedGroup g o st n i gang with
          ctl := { (s.switchedGroup g o st n i gang).ctl with
            groups := s.ctl.groups.set g { y with st := st, h := n, placed := none, timer := none, healthMoved := true } } } := by
  unfold switchedGroup
  rw [setGroup_group, setGroup_ctl]
  dsimp only
  rw [Oct.set_set]
  rfl

end State
open State

/-- Settles O23: the request is due at once, or placed at the point found and carried out there. -/
theorem forceIsCarriedOut : Obligations.ForceIsCarriedOut := by
  intro s g r dest candidate cueChanged x p hrole hplay hg hst hdest hto hhealth hrevert hoff order announce moved
  have settled : (s.group g).st = .settled r.source := hst
  have orders : (s.gang.vector.get g).elim 0 (fun e => e.order + 1) = order := by
    unfold order
    cases s.gang.vector.get g <;> rfl
  have announces (pt : ShowPos) (u : Urgency) : s.announced g dest pt p.fade u = announce pt u := by
    rw [announced_of_leader hrole, orders]
  refine ⟨fun halone hhealthy hstep hplaced htimer q hop hq htarget hlevel => ?_, fun hpresent hhealthy hstep n htimer hlimit => ?_⟩
  · have hlead := leadsFollowers_of_alone halone
    have steady : Steady s g r := ⟨hg, playing_of_ne hplay, settled, by rw [ctlHealth_of_alone hlead]; exact hhealthy,
      by rw [ctlStep_of_alone hlead]; exact hstep, hhealth, hrevert, hoff⟩
    rw [groupStep_of_leader hrole, ownGroup_of_immediate steady hlead hdest hto hplaced htimer hop hq htarget hlevel,
      switchedGroup_setGroup, ← announces]
    unfold moved switchedGroup
    rw [entered_current]
    rfl
  · have hlead := leadsFollowers_of_present hrole hpresent
    have steady : Steady s g r := ⟨hg, playing_of_ne hplay, settled, hhealthy, hstep, hhealth, hrevert, hoff⟩
    let u := s.setGroup g (s.counted g n)
    have record : u.group g = s.counted g n := setGroup_group _ _ _
    have counting : Steady u g r := steady.setGroup rfl hhealth hrevert
    have reach : u.eligible g dest = true := by
      rw [setGroup_eligible (y := s.counted g n) hg rfl]
      exact hto
    refine ⟨?_, fun c hplaced hop hcause htarget hpoint hpin => ?_⟩
    · intro q hop hq htarget hlevel hplaced point
      have waits : (s.group g).waits = true := by
        have opens : isBoundary (s.group g).op = true := by
          rw [show (s.group g).op = some q from hop]
          simp [isBoundary, hq]
        simp [Group.waits, opens]
      have unplaced : u.satisfyPlaced g = u := satisfyPlaced_of_none (by rw [record]; exact hplaced)
      rw [groupStep_of_leader hrole, ownGroup_of_waiting steady hlead htimer hlimit waits
          (fun q' h => by rw [Option.some.inj (h.symm.trans hop)]; exact hq) unplaced,
        placement_of_operator (s := u) counting hlead hdest reach (by rw [record]; exact hplaced) (by rw [record]; exact hop) hq htarget
          (by rw [record]; exact hlevel), setGroup_setGroup, record]
      have ahead : u.pointAhead = point := rfl
      have told : u.announcedAhead g dest = point.elim s.gang (fun pt => announce pt .atBoundary) := by
        unfold announcedAhead
        rw [ahead]
        exact congrArg (point.elim s.gang) (funext fun pt => announces pt .atBoundary)
      rw [told, ahead]
      clear_value point
      cases point <;> rfl
    · have waits : (s.group g).waits = true := by
        have stands : (s.group g).placed = some c := hplaced
        simp [Group.waits, stands]
      have same : u.satisfyPlaced g = u := satisfyPlaced_of_unrequested (by rw [record]; exact hplaced) (by rw [record]; exact hop)
        (by rw [record]; exact hhealth) (by rw [record]; exact hrevert)
      rw [groupStep_of_leader hrole, ownGroup_of_waiting steady hlead htimer hlimit waits
          (fun q' h => absurd (h.symm.trans hop) (by simp)) same,
        placement_at_point (s := u) counting hlead hdest reach (by rw [record]; exact hplaced) (by rw [record]; exact hop) hcause htarget
          hpoint hpin, switchedGroup_setGroup]
      unfold moved switchedGroup
      have free : (s.counted g n).op = none := hop
      rw [entered_current, free]
      rfl

end Sys2Proof.Machine
end


section
/-! PROOFS, family other. What an output period leaves of a unit's place in the gang: its role, its position, the tick to relay and the
entries from below (R144 to R147). For O24. -/

namespace Sys2Proof.Machine

/-- A unit's place in the gang and what it passes on. -/
def Gang.line (g : Gang) : Role × Nat × Option Tick × List UnitEntry := (g.role, g.position, g.relay, g.below)

namespace State

variable {s : State} {g : Fin 8}

/-- Steps that each leave the place leave it together. -/
theorem foldl_line {f : State → Fin 8 → State} (h : ∀ t g, (f t g).gang.line = t.gang.line) (l : List (Fin 8)) (t : State) :
    (l.foldl f t).gang.line = t.gang.line := by
  induction l generalizing t with
  | nil => rfl
  | cons g l ih => exact (ih _).trans (h t g)

/-! ## The switch controller -/

@[simp] theorem setGang_line (s : State) (v : Gang) : (s.setGang v).gang.line = v.line := rfl

@[simp] theorem changeVector_line (g : Fin 8) (src : Source) (eff : ShowPos) (fade : Nat) (u : Urgency) :
    (s.changeVector g src eff fade u).gang.line = s.gang.line := by
  simp only [changeVector]
  split <;> rfl

@[simp] theorem vectorNow_line (g : Fin 8) (fade : Nat) : (s.vectorNow g fade).gang.line = s.gang.line := changeVector_line _ _ _ _ _

@[simp] theorem carry_line (g : Fin 8) (o : Source) (st : GroupState) (hard : Bool) (h : Nat) (w : SwitchInfo) (tell : Bool) :
    (s.carry g o st hard h w tell).gang.line = s.gang.line := by
  simp only [carry]
  split <;> simp

@[simp] theorem carryRequest_line (g : Fin 8) (c : Cause) (q : SwitchReq) (t : Source) (atLimit : Bool) :
    (s.carryRequest g c q t atLimit).gang.line = s.gang.line := by
  simp only [carryRequest]
  split <;> simp

@[simp] theorem fadeProgress_gang (g : Fin 8) : (s.fadeProgress g).gang = s.gang := by
  simp only [fadeProgress, fadeDone]
  (repeat' split) <;> simp

@[simp] theorem destinationFailed_line (g : Fin 8) (o d : Source) (n : Nat) (start : Word) (ret : Bool) (c : Cause) :
    (s.destinationFailed g o d n start ret c).gang.line = s.gang.line := by
  simp only [destinationFailed, fadeToThird, fadeReturn, fadeFailed]
  (repeat' split) <;> simp

@[simp] theorem cutShort_line (g : Fin 8) (o d : Source) (c : Cause) : (s.cutShort g o d c).gang.line = s.gang.line := carry_line _ _ _ _ _ _ _

@[simp] theorem fadeWatch_line (g : Fin 8) : (s.fadeWatch g).1.gang.line = s.gang.line := by
  simp only [fadeWatch]
  (repeat' split) <;> simp

@[simp] theorem serve_line (g : Fin 8) (reachedNow switched : Bool) (l : List (Cause × SwitchReq)) :
    (s.serve g reachedNow switched l).gang.line = s.gang.line := by
  induction l generalizing s with
  | nil => rfl
  | cons x m ih =>
    simp only [serve]
    (repeat' split) <;> simp [ih]

@[simp] theorem serveFading_line (g : Fin 8) (o d : Source) (n : Nat) (start : Word) (reachedNow switched : Bool)
    (l : List (Cause × SwitchReq)) : (s.serveFading g o d n start reachedNow switched l).gang.line = s.gang.line := by
  induction l generalizing s with
  | nil => rfl
  | cons x m ih =>
    simp only [serveFading]
    (repeat' split) <;> simp [ih]

@[simp] theorem service_line (g : Fin 8) (reachedNow switched : Bool) : (s.service g reachedNow switched).gang.line = s.gang.line := by
  simp only [service]
  split <;> simp

@[simp] theorem placedCarry_line (g : Fin 8) (p : Placed) (outcome : Option SwitchOutcome) (tell : Bool) :
    (s.placedCarry g p outcome tell).gang.line = s.gang.line := carry_line _ _ _ _ _ _ _

@[simp] theorem placedStep_line (g : Fin 8) (p : Placed) (cueChanged : Bool) : (s.placedStep g p cueChanged).gang.line = s.gang.line := by
  simp only [placedStep, placedWithdraw, placedReopen, placedJudge, placedMove]
  (repeat' split) <;> simp

@[simp] theorem placeFirst_line (g : Fin 8) (l : List (Cause × SwitchReq)) : (s.placeFirst g l).gang.line = s.gang.line := by
  induction l generalizing s with
  | nil => rfl
  | cons x m ih =>
    simp only [placeFirst, placeRequest]
    (repeat' split) <;> simp [ih]

@[simp] theorem placement_line (g : Fin 8) (cueChanged : Bool) : (s.placement g cueChanged).gang.line = s.gang.line := by
  simp only [placement]
  (repeat' split) <;> simp

@[simp] theorem flagEmergency_line (g : Fin 8) : (s.flagEmergency g).gang.line = s.gang.line := rfl

@[simp] theorem emergency_line (g : Fin 8) (src : Source) : (s.emergency g src).gang.line = s.gang.line := by
  simp only [emergency]
  split <;> simp

@[simp] theorem joinedWatch_line (g : Fin 8) : (s.joinedWatch g).gang.line = s.gang.line := by
  simp only [joinedWatch]
  (repeat' split) <;> simp

@[simp] theorem gangApply_line (g : Fin 8) (w : Waiting) (passed : Bool) : (s.gangApply g w passed).gang.line = s.gang.line := by
  have noted : (s.applied g w).gang.line = s.gang.line := rfl
  simp only [gangApply, gangSwitch]
  (repeat' split) <;> simp [noted]

@[simp] theorem waitingPoint_line (g : Fin 8) (cueChanged : Bool) : (s.waitingPoint g cueChanged).gang.line = s.gang.line := by
  simp only [waitingPoint]
  (repeat' split) <;> rfl

@[simp] theorem joinedService_line (g : Fin 8) : (s.joinedService g).gang.line = s.gang.line := by
  simp only [joinedService]
  (repeat' split) <;> simp

@[simp] theorem groupStep_line (candidate cueChanged : Bool) (g : Fin 8) : (groupStep candidate cueChanged s g).gang.line = s.gang.line := by
  simp only [groupStep, joinedGroup, ownGroup]
  (repeat' split) <;> simp

@[simp] theorem controllerShare_line : s.controllerShare.gang.line = s.gang.line := by
  simp only [controllerShare, controllerPeriod]
  split
  · rw [foldl_line (fun t g => groupStep_line _ _ g)]
    simp
  · rfl

/-! ## The program -/

@[simp] theorem stopGroup_line (g : Fin 8) : (s.stopGroup g).gang.line = s.gang.line := by
  simp only [stopGroup, fadeDone]
  (repeat' split) <;> simp

@[simp] theorem enterStopped_line : s.enterStopped.gang.line = s.gang.line := by
  have steps (t : State) : t.stopGroups.gang.line = t.gang.line := foldl_line (fun _ g => stopGroup_line g) allGroups t
  simp [enterStopped, steps]

@[simp] theorem anchorPeriod_gang (k : Word) : (s.anchorPeriod k).gang = s.gang := by
  simp only [anchorPeriod, anchorStart]
  (repeat' split) <;> rfl

@[simp] theorem gracePeriod_gang : s.gracePeriod.gang = s.gang := by
  simp only [gracePeriod, graceExpire]
  (repeat' split) <;> simp

@[simp] theorem stoppedPeriod_line (k : Word) : (s.stoppedPeriod k).gang.line = s.gang.line := by
  simp only [stoppedPeriod]
  split <;> simp

@[simp] theorem dueAdvance_gang : s.dueAdvance.gang = s.gang := rfl

@[simp] theorem dueLookup_gang (r : Rig) : (s.dueLookup r).gang = s.gang := rfl

@[simp] theorem runningPeriod_line : s.runningPeriod.gang.line = s.gang.line := by
  simp only [runningPeriod]
  (repeat' split) <;> simp

@[simp] theorem freePeriod_line : s.freePeriod.gang.line = s.gang.line := by
  simp only [freePeriod]
  (repeat' split) <;> simp

@[simp] theorem holdClear_gang : s.holdClear.gang = s.gang := by
  simp only [holdClear]
  split <;> rfl

@[simp] theorem programPeriod_line (k : Word) : (s.programPeriod k).gang.line = s.gang.line := by
  simp only [programPeriod]
  split <;> simp

@[simp] theorem programShare_line : s.programShare.gang.line = s.gang.line := by
  simp only [programShare]
  (repeat' split) <;> simp

/-! ## The gang agent -/

@[simp] theorem rowPeriod_line (n : Fin 3) : (s.rowPeriod n).gang.line = s.gang.line := by
  simp only [rowPeriod, rowLost]
  (repeat' split) <;> rfl

@[simp] theorem leaveWait_line : s.leaveWait.gang.line = s.gang.line := by
  simp only [leaveWait]
  split <;> rfl

@[simp] theorem adoptGroup_line (g : Fin 8) : (s.adoptGroup g).gang.line = s.gang.line := by
  simp only [adoptGroup]
  (repeat' split) <;> rfl

@[simp] theorem becomeJoined_line : s.becomeJoined.gang.line = s.gang.line := by
  rw [becomeJoined, leaveWait_line, foldl_line (fun _ g => adoptGroup_line g)]
  rfl

@[simp] theorem becomeIsolated_line : s.becomeIsolated.gang.line = s.gang.line := rfl

@[simp] theorem gangPeriod_line : s.gangPeriod.gang.line = s.gang.line := by
  have silent : s.silencePeriod.gang.line = s.gang.line := by
    simp only [silencePeriod]
    split <;> rfl
  simp only [gangPeriod, followerPeriod]
  (repeat' split) <;> simp [silent]

theorem laterShares_line (i : PeriodInput) : (s.laterShares i).gang.line = s.gang.line := by
  simp only [laterShares]
  split <;> simp

/-- The unit's place in the gang when its slots are sent is the one at the period's start. -/
theorem periodShares_line (s : State) (i : PeriodInput) : (s.periodShares i).gang.line = s.gang.line := by
  rw [periodShares, laterShares_line]
  simp [periodSwitch, periodCommit, periodHealth, periodProgram, clockPeriod]

end State
end Sys2Proof.Machine
end


section
/-! PROOFS, family other. The slots of one output period: what is sent on each port (R169 to R173), and what the run state's share leaves of it
(R174). For O24. -/

namespace Sys2Proof.Machine

theorem Six.set_get_self {α : Type} (o : Six α) (p : Port) : o.set p (o.get p) = o := by cases p <;> rfl

namespace State

variable {s : State}

/-! ## The slots sent (R144, R145, R147, R169 to R171) -/

/-- The side record of a CONTROL port's slot: its oldest short reply, else its oldest completion. -/
def replySide (s : State) (p : CtlPort) : Option OutSide := (s.framer.holders.get p).next.1.map OutSide.reply

/-- A main frame with the port's sequence number. -/
def numbered (s : State) (p : Port) (f : MainFrame) : OutMain := .frame { f with seq := s.framer.seqs.get p }

/-- The slot of an output port: the output frame, or the relay's traffic while the bypass is engaged. -/
def outputSlot (s : State) (p : CtlPort) (f : Option MainFrame) : OutSlot :=
  match f with
  | some x => { main := some (s.numbered p.port x), side := s.replySide p }
  | none => { main := some .relay, side := none }

/-- What the slot of a port leaves: the clock, the bypass, and everything outside the framer but what the gang passes on. -/
structure SameFace (s t : State) : Prop where
  state : t = { s with framer := t.framer, gang := t.gang }
  gang : t.gang = { s.gang with relay := t.gang.relay, below := t.gang.below }
  run : t.framer.run = s.framer.run
  count : t.framer.count = s.framer.count
  bypass : t.framer.bypass = s.framer.bypass

namespace SameFace

variable {t u : State}

theorem trans (h : SameFace s t) (k : SameFace t u) : SameFace s u where
  state := by rw [k.state, h.state]
  gang := by rw [k.gang, h.gang]
  run := k.run.trans h.run
  count := k.count.trans h.count
  bypass := k.bypass.trans h.bypass

theorem summary (h : SameFace s t) : t.summary = s.summary := by
  obtain ⟨state, gang, _, _, bypass⟩ := h
  generalize t.framer = x at *
  generalize t.gang = y at *
  subst state
  rw [gang]
  simp only [State.summary, bypass]
  rfl

theorem returnFrame (h : SameFace s t) (r : Rig) : t.returnFrame r = s.returnFrame r := by
  have summary := h.summary
  obtain ⟨state, _⟩ := h
  have role : t.role r = s.role r := by rw [state]; rfl
  have prog : t.prog = s.prog := by rw [state]; rfl
  simp only [State.returnFrame, summary, role, prog]

theorem gangFrame (h : SameFace s t) : t.gangFrame = s.gangFrame := by
  simp only [State.gangFrame, h.summary]

end SameFace

/-- One port's slot has been sent. -/
structure Sent (s t : State) (p : Port) (x : OutSlot) (seq : Half) (holders : Four Holders) : Prop where
  face : SameFace s t
  out : t.framer.out = s.framer.out.set p x
  seqs : t.framer.seqs = s.framer.seqs.set p seq
  holders : t.framer.holders = holders

theorem sendRig_sent (s : State) (r : Rig) (p : CtlPort) :
    Sent s (s.sendRig r p) r.port { main := some (s.numbered r.port (s.returnFrame r)), side := s.replySide p }
      (s.framer.seqs.get r.port + 1) (s.framer.holders.set p (s.framer.holders.get p).next.2)
    ∧ (s.sendRig r p).gang = s.gang :=
  ⟨⟨⟨rfl, rfl, rfl, rfl, rfl⟩, rfl, rfl, rfl⟩, rfl⟩

theorem sendOutput_sent (s : State) (p : CtlPort) (f : Option MainFrame) :
    Sent s (s.sendOutput p f) p.port (s.outputSlot p f) (if f.isSome then s.framer.seqs.get p.port + 1 else s.framer.seqs.get p.port)
      (s.framer.holders.set p (s.framer.holders.get p).next.2)
    ∧ (s.sendOutput p f).gang = s.gang := by
  cases f with
  | some x => exact ⟨⟨⟨rfl, rfl, rfl, rfl, rfl⟩, rfl, rfl, rfl⟩, rfl⟩
  | none => exact ⟨⟨⟨rfl, rfl, rfl, rfl, rfl⟩, rfl, (Six.set_get_self _ _).symm, rfl⟩, rfl⟩

/-- The side record of GU's slot. -/
def upSide (s : State) : Option OutSide := if s.acting = true ∧ s.gang.role = .follower then some (.report s.gangReport) else none

/-- The side record of GD's slot. -/
def downSide (s : State) : Option OutSide :=
  if s.acting = true ∧ s.gang.role = .leader then some (.tick s.tick) else s.gang.relay.map OutSide.tick

theorem sendUp_sent (s : State) :
    Sent s s.sendUp .gu { main := some (s.numbered .gu s.gangFrame), side := s.upSide } (s.framer.seqs.gu + 1) s.framer.holders
    ∧ s.sendUp.gang = { s.gang with below := [] } := ⟨⟨⟨rfl, rfl, rfl, rfl, rfl⟩, rfl, rfl, rfl⟩, rfl⟩

theorem sendDown_sent (s : State) :
    Sent s s.sendDown .gd { main := some (s.numbered .gd s.gangFrame), side := s.downSide } (s.framer.seqs.gd + 1) s.framer.holders
    ∧ s.sendDown.gang = { s.gang with relay := none } := ⟨⟨⟨rfl, rfl, rfl, rfl, rfl⟩, rfl, rfl, rfl⟩, rfl⟩

theorem SameFace.upSide {t : State} (h : SameFace s t) (hgang : t.gang = s.gang) : t.upSide = s.upSide := by
  obtain ⟨state, _, run, _, _⟩ := h
  have report : t.gangReport = s.gangReport := by rw [state, hgang]; rfl
  have act : t.acting = s.acting := acting_of_framer run
  simp only [State.upSide, act, hgang, report]

theorem SameFace.downSide {t : State} (h : SameFace s t) (hgang : t.gang = { s.gang with below := [] }) : t.downSide = s.downSide := by
  obtain ⟨state, _, run, _, _⟩ := h
  have tick : t.tick = s.tick := by rw [state, hgang]; rfl
  have act : t.acting = s.acting := acting_of_framer run
  simp only [State.downSide, act, hgang, tick]

/-- The output period's slots: what each port carries, the next numbers, and the holders. -/
structure SentAll (s : State) (f : Option MainFrame) (t : State) : Prop where
  face : SameFace s t
  gang : t.gang = { s.gang with relay := none, below := [] }
  out : t.framer.out =
    { ra := { main := some (s.numbered .ra (s.returnFrame .a)), side := s.replySide .ra }
      rb := { main := some (s.numbered .rb (s.returnFrame .b)), side := s.replySide .rb }
      o1 := s.outputSlot .o1 f, o2 := s.outputSlot .o2 f
      gu := { main := some (s.numbered .gu s.gangFrame), side := s.upSide }
      gd := { main := some (s.numbered .gd s.gangFrame), side := s.downSide } }
  seqs : t.framer.seqs =
    { ra := s.framer.seqs.ra + 1, rb := s.framer.seqs.rb + 1
      o1 := if f.isSome then s.framer.seqs.o1 + 1 else s.framer.seqs.o1
      o2 := if f.isSome then s.framer.seqs.o2 + 1 else s.framer.seqs.o2
      gu := s.framer.seqs.gu + 1, gd := s.framer.seqs.gd + 1 }
  holders : ∀ p, t.framer.holders.get p = (s.framer.holders.get p).next.2

theorem outputSlot_congr {t : State} {p : CtlPort} (hseq : t.framer.seqs.get p.port = s.framer.seqs.get p.port)
    (hholder : t.framer.holders.get p = s.framer.holders.get p) (f : Option MainFrame) : t.outputSlot p f = s.outputSlot p f := by
  cases f with
  | none => rfl
  | some x => simp only [outputSlot, numbered, replySide, hseq, hholder]

theorem sendSlots_sent (s : State) (f : Option MainFrame) : SentAll s f (s.sendSlots f) := by
  unfold sendSlots
  obtain ⟨⟨face1, out1, seqs1, holders1⟩, gang1⟩ := sendRig_sent s .a .ra
  generalize s.sendRig .a .ra = u1 at *
  obtain ⟨⟨face2, out2, seqs2, holders2⟩, gang2⟩ := sendRig_sent u1 .b .rb
  generalize u1.sendRig .b .rb = u2 at *
  obtain ⟨⟨face3, out3, seqs3, holders3⟩, gang3⟩ := sendOutput_sent u2 .o1 f
  generalize u2.sendOutput .o1 f = u3 at *
  obtain ⟨⟨face4, out4, seqs4, holders4⟩, gang4⟩ := sendOutput_sent u3 .o2 f
  generalize u3.sendOutput .o2 f = u4 at *
  obtain ⟨⟨face5, out5, seqs5, holders5⟩, gang5⟩ := sendUp_sent u4
  generalize u4.sendUp = u5 at *
  obtain ⟨⟨face6, out6, seqs6, holders6⟩, gang6⟩ := sendDown_sent u5
  generalize u5.sendDown = u6 at *
  have upTo4 := (face1.trans face2).trans (face3.trans face4)
  have gang14 : u4.gang = s.gang := by rw [gang4, gang3, gang2, gang1]
  have gang15 : u5.gang = { s.gang with below := [] } := by rw [gang5, gang14]
  have upTo5 := upTo4.trans face5
  have slot2 : u1.numbered Rig.b.port (u1.returnFrame .b) = s.numbered .rb (s.returnFrame .b) := by
    rw [face1.returnFrame, numbered, seqs1]
    rfl
  have side2 : u1.replySide .rb = s.replySide .rb := by
    rw [replySide, holders1]
    rfl
  have slot3 : u2.outputSlot .o1 f = s.outputSlot .o1 f :=
    outputSlot_congr (by rw [seqs2, seqs1]; rfl) (by rw [holders2, holders1]; rfl) f
  have slot4 : u3.outputSlot .o2 f = s.outputSlot .o2 f :=
    outputSlot_congr (by rw [seqs3, seqs2, seqs1]; rfl) (by rw [holders3, holders2, holders1]; rfl) f
  have slot5 : u4.numbered .gu u4.gangFrame = s.numbered .gu s.gangFrame := by
    rw [upTo4.gangFrame, numbered, seqs4, seqs3, seqs2, seqs1]
    rfl
  have slot6 : u5.numbered .gd u5.gangFrame = s.numbered .gd s.gangFrame := by
    rw [upTo5.gangFrame, numbered, seqs5, seqs4, seqs3, seqs2, seqs1]
    rfl
  have down : u5.downSide = s.downSide := upTo5.downSide gang15
  have up : u4.upSide = s.upSide := upTo4.upSide gang14
  refine ⟨(upTo5.trans face6).trans ⟨rfl, rfl, rfl, rfl, rfl⟩, ?_, ?_, ?_, fun p => ?_⟩
  · show u6.gang = _
    rw [gang6, gang15]
  · show u6.framer.out = _
    rw [out6, out5, out4, out3, out2, out1, slot6, slot5, slot4, slot3, slot2, side2, down, up]
    rfl
  · show u6.framer.seqs = _
    rw [seqs6, seqs5, seqs4, seqs3, seqs2, seqs1]
    rfl
  · show u6.framer.holders.get p = _
    rw [holders6, holders5, holders4, holders3, holders2, holders1]
    cases p <;> rfl

/-! ## The holders (R169) -/

theorem next_short (h : Holders) : h.next.2.short = h.short.drop 1 := by
  obtain ⟨short, completion⟩ := h
  cases short with
  | cons r m => rfl
  | nil => cases completion <;> rfl

theorem next_of_short {h : Holders} {x : Reply} {m : List Reply} (hs : h.short = x :: m) : h.next.1 = some x := by
  simp only [Holders.next, hs]

theorem next_of_completion {h : Holders} {x : Reply} {m : List Reply} (hs : h.short = []) (hc : h.completion = x :: m) :
    h.next.1 = some x := by
  simp only [Holders.next, hs, hc]

/-! ## The run state's share (R157, R174) -/

/-- What the run state's share leaves of the slots sent. -/
structure SameSlots (s t : State) : Prop where
  count : t.framer.count = s.framer.count
  seqs : t.framer.seqs = s.framer.seqs
  holders : t.framer.holders = s.framer.holders
  out : t.framer.out = s.framer.out
  bypass : t.framer.bypass = s.framer.bypass
  line : t.gang.line = s.gang.line
  pending : t.pending = s.pending

theorem SameSlots.refl (s : State) : SameSlots s s := ⟨rfl, rfl, rfl, rfl, rfl, rfl, rfl⟩

theorem leaveWait_slots (s : State) : SameSlots s s.leaveWait := by
  simp only [leaveWait]
  split
  · exact ⟨rfl, rfl, rfl, rfl, rfl, rfl, rfl⟩
  · exact .refl s

theorem windowEnd_slots (s : State) : SameSlots s s.windowEnd := by
  have lost : SameSlots s s.becomeIsolated.leaveWait := by
    obtain ⟨count, seqs, holders, out, bypass, line, pending⟩ := leaveWait_slots s.becomeIsolated
    exact ⟨count, seqs, holders, out, bypass, line, pending⟩
  simp only [windowEnd]
  split
  · exact leaveWait_slots s
  · split
    · exact lost
    · exact leaveWait_slots s

theorem loadEnd_slots (s : State) (whole : Bool) : SameSlots s (s.loadEnd whole) := by
  obtain ⟨framer, _, _, _, _, pending, _⟩ := loadEnd_fields s whole
  have line : (s.loadEnd whole).gang.line = s.gang.line := by
    simp only [loadEnd, fillVector]
    split <;> simp [Gang.line]
  exact ⟨by rw [framer], by rw [framer], by rw [framer], by rw [framer], by rw [framer], line, pending⟩

theorem runPeriod_slots (s : State) (whole : Bool) : SameSlots s (s.runPeriod whole) := by
  simp only [runPeriod]
  split
  · exact .refl s
  · split
    · exact ⟨rfl, rfl, rfl, rfl, rfl, rfl, rfl⟩
    · exact .refl s
  · split
    · exact loadEnd_slots s whole
    · exact .refl s
  next hrun =>
    simp only [presencePeriod, if_pos hrun]
    split
    next => exact windowEnd_slots s
    next =>
      split
      next => exact leaveWait_slots s
      next => exact .refl s
  · exact .refl s

theorem leaveWait_run (h : s.framer.run = .gangWait) : s.leaveWait.framer.run = .running := by
  rw [leaveWait_of_gangWait h]
  rfl

/-- Nothing changes where the run state stays. -/
theorem runPeriod_of_same_run {whole : Bool} (h : (s.runPeriod whole).framer.run = s.framer.run) : s.runPeriod whole = s := by
  cases hrun : s.framer.run with
  | off => simp only [runPeriod, hrun]
  | hold =>
    simp only [runPeriod, hrun] at h ⊢
    split at h
    next => exact absurd h (by simp [holdEnd])
    next hend => exact if_neg hend
  | load =>
    simp only [runPeriod, hrun] at h ⊢
    split at h
    next =>
      obtain ⟨framer, _⟩ := loadEnd_fields s whole
      rw [framer] at h
      exact absurd h (by simp)
    next hend => exact if_neg hend
  | gangWait =>
    simp only [runPeriod, presencePeriod, hrun, if_true] at h ⊢
    have window : s.windowEnd.framer.run = .running := by
      have lost : s.becomeIsolated.leaveWait.framer.run = .running := leaveWait_run hrun
      simp only [windowEnd]
      split
      · exact leaveWait_run hrun
      · split
        · exact lost
        · exact leaveWait_run hrun
    split at h
    next =>
      rw [window] at h
      cases h
    next hend =>
      rw [if_neg hend]
      split at h
      next =>
        rw [leaveWait_run hrun] at h
        cases h
      next hall => exact if_neg hall
  | running => simp only [runPeriod, hrun]

end State
end Sys2Proof.Machine
end


section
/-! PROOFS, family other. OUTPUT_PERIOD sends one slot on every port (O24). -/

namespace Sys2Proof.Machine
namespace State

variable {s : State}

/-! ## The framer when the slots are sent -/

/-- What the shares of an output period leave of the framer (R172, R175). -/
structure SharedFramer (s v : State) : Prop where
  seqs : v.framer.seqs = s.framer.seqs
  count : v.framer.count = s.clockPeriod.framer.count
  bypass : v.framer.bypass = if s.framer.run = .running then false else s.framer.bypass
  run : v.framer.run = s.framer.run ∨ (s.framer.run = .gangWait ∧ v.framer.run = .running)
  short : ∀ p, (v.framer.holders.get p).short = (s.framer.holders.get p).short
  completion : ∀ p, (s.framer.holders.get p).completion <+: (v.framer.holders.get p).completion

theorem periodShares_shared (s : State) (i : PeriodInput) : SharedFramer s (s.periodShares i) := by
  obtain ⟨⟨framer, short, completion⟩, run⟩ := periodShares_framer s i
  have commit := periodCommit_framer s
  have holders : s.periodCommit.framer.holders = s.framer.holders := by rw [commit]; rfl
  have runs : s.periodCommit.framer.run = s.framer.run := by rw [commit]; rfl
  rw [holders] at short completion
  rw [runs] at run
  refine ⟨(congrArg Framer.seqs framer).trans ?_, (congrArg Framer.count framer).trans ?_, (congrArg Framer.bypass framer).trans ?_,
    run, short, completion⟩
  · rw [commit]
    rfl
  · rw [commit]
  · rw [commit]

theorem clockPeriod_count (hon : s.framer.run ≠ .off) :
    s.clockPeriod.framer.count = if s.framer.run = .hold then s.framer.count else s.framer.count + 1 := by
  have counts : s.counting = true ↔ s.framer.run ≠ .hold := by
    unfold counting acting
    cases hrun : s.framer.run <;> simp_all
  show (if s.counting = true then s.framer.count + 1 else s.framer.count) = _
  by_cases hold : s.framer.run = .hold
  · rw [if_pos hold, if_neg (fun h => counts.1 h hold)]
  · rw [if_neg hold, if_pos (counts.2 hold)]

/-! ## The output frame of the period (R104, R175) -/

theorem periodFrame_of_bypassed (hrun : s.framer.run ≠ .running) (hbypass : s.framer.bypass = true) (i : PeriodInput) :
    (s.periodFrame i).1 = none := by
  have engaged : s.periodCommit.framer.bypass = true := by
    rw [periodCommit_framer]
    simp [hrun, hbypass]
  unfold periodFrame switchAndForm
  cases i.assembleFirst <;> simp [frameNow, engaged]

/-- In RUNNING the output frame is formed, before or after the period's switches. -/
theorem periodFrame_of_running (hrun : s.framer.run = .running) (i : PeriodInput) :
    ∃ x : State, (s.periodFrame i).1 = some x.outputFrame ∧ SamePlay s.periodCommit x ∧ x.routes = s.periodCommit.routes
      ∧ x.framer.bypass = false := by
  have released : s.periodCommit.framer.bypass = false := by
    rw [periodCommit_framer]
    simp [hrun]
  have released' : s.periodCommit.controllerShare.framer.bypass = false := by
    rw [controllerShare_frame.1]
    exact released
  have switched : SamePlay s.periodCommit s.periodCommit.controllerShare := by
    simp only [controllerShare]
    split
    · exact controllerPeriod_samePlay _ _ _
    · exact .refl _
  unfold periodFrame switchAndForm
  cases i.assembleFirst with
  | true => exact ⟨s.periodCommit, by simp [frameNow, released], .refl _, rfl, released⟩
  | false => exact ⟨s.periodCommit.controllerShare, by simp [frameNow, released], switched, by simp, released'⟩

/-! ## The role of a rig (R171) -/

theorem role_of_failed {r : Rig} (h : (s.health.get r).state = .failed) : s.role r = 5 := if_pos h

theorem role_of_timing {r : Rig} (h : (s.health.get r).state ≠ .failed) (ht : s.ctl.groups.g0.st.current = r.source) : s.role r = 1 :=
  (if_neg h).trans (if_pos ((timingRig_eq_some_iff s r).2 ht))

theorem role_of_other {r : Rig} (h : (s.health.get r).state ≠ .failed) (ht : s.ctl.groups.g0.st.current ≠ r.source) :
    s.role r = if s.usedBy r then 2 else if (s.health.get r).state = .stopped then 4 else 3 :=
  (if_neg h).trans (if_neg (fun e => ht ((timingRig_eq_some_iff s r).1 e)))

/-- R171: some group is settled on the rig, or fades from it or to it. -/
theorem usedBy_iff_carrying (s : State) (r : Rig) :
    s.usedBy r = true ↔ ∃ g, (s.ctl.groups.get g).st = .settled r.source
      ∨ ∃ o d n k v, (s.ctl.groups.get g).st = .fading o d n k v ∧ (o = r.source ∨ d = r.source) := by
  rw [usedBy, Oct.any_iff]
  refine exists_congr fun g => ?_
  cases (s.ctl.groups.get g).st with
  | settled d => simp [GroupState.uses]
  | fading o d n k v => simp [GroupState.uses, and_assoc]

/-- R171's table, row by row. -/
theorem role_table (s : State) (r : Rig) :
    let failed := (s.health.get r).state = .failed
    let active := s.ctl.groups.g0.st.current = r.source
    let carrying := ∃ g, (s.ctl.groups.get g).st = .settled r.source
      ∨ ∃ o d n k v, (s.ctl.groups.get g).st = .fading o d n k v ∧ (o = r.source ∨ d = r.source)
    let stopped := (s.health.get r).state = .stopped
    (failed → s.role r = 5) ∧ (¬failed → active → s.role r = 1) ∧ (¬failed → ¬active → carrying → s.role r = 2)
    ∧ (¬failed → ¬active → ¬carrying → stopped → s.role r = 4) ∧ (¬failed → ¬active → ¬carrying → ¬stopped → s.role r = 3) := by
  have carries := usedBy_iff_carrying s r
  refine ⟨role_of_failed, role_of_timing, fun hfailed htiming hcarry => ?_, fun hfailed htiming hcarry hstopped => ?_,
    fun hfailed htiming hcarry hstopped => ?_⟩
  · rw [role_of_other hfailed htiming, if_pos (carries.2 hcarry)]
  · rw [role_of_other hfailed htiming, if_neg (fun h => hcarry (carries.1 h)), if_pos hstopped]
  · rw [role_of_other hfailed htiming, if_neg (fun h => hcarry (carries.1 h)), if_neg hstopped]

/-! ## The period's end -/

/-- The state whose slots have been sent, with the cue kept (R7). -/
def periodSent (s : State) (i : PeriodInput) : State := ((s.periodShares i).sendSlots (s.periodFrame i).1).keepCue

theorem period_runPeriod (s : State) (i : PeriodInput) : s.period i = (s.periodSent i).runPeriod i.imageGood := period_eq s i

theorem periodSent_sent (s : State) (i : PeriodInput) : ∃ w, SentAll (s.periodShares i) (s.periodFrame i).1 w ∧ s.periodSent i = w.keepCue :=
  ⟨_, sendSlots_sent _ _, rfl⟩

/-- A unit whose run state the period leaves is as its slots have left it. -/
theorem period_of_same_run {i : PeriodInput} (h : (s.period i).framer.run = s.framer.run) : s.period i = s.periodSent i := by
  have sent : (s.periodSent i).framer.run = (s.periodShares i).framer.run := sendSlots_run _ _
  have shared := (periodShares_shared s i).run
  rw [period_runPeriod] at h ⊢
  refine runPeriod_of_same_run ?_
  rcases shared with same | ⟨wait, left⟩
  · rw [h, sent, same]
  · have running : (s.periodSent i).framer.run = .running := sent.trans left
    have stays : (s.periodSent i).runPeriod i.imageGood = s.periodSent i := by simp only [runPeriod, running]
    rw [stays, running, wait] at h
    cases h

/-- R171: what a rig's return frame says of the unit, at the period's end. -/
theorem returnFrame_at_end {i : PeriodInput} (h : (s.period i).framer.run = s.framer.run) (r : Rig) :
    (s.periodShares i).returnFrame r = (s.period i).returnFrame r := by
  obtain ⟨w, sent, hw⟩ := periodSent_sent s i
  rw [period_of_same_run h, hw, ← sent.face.returnFrame r]
  rfl

theorem summary_fields (s : State) :
    s.summary =
      let step (r : Rig) : StepState := if s.ctl.groups.g0.st.current = r.source then .inStep else (s.align.rigs.get r).step.state
      { sources := s.ctl.groups.map (fun g => g.st.current)
        healthA := s.health.a.state, stepA := step .a, healthB := s.health.b.state, stepB := step .b
        faultLocked := s.fault.first.isSome, showLock := s.mgmt.lock, bedReady := s.bedReady, bypass := s.framer.bypass
        position := s.gang.position, size := s.gang.size } := by
  rw [summary_eq, stepOf_eq, stepOf_eq]

theorem periodShares_pending (s : State) (i : PeriodInput) : (s.periodShares i).pending = s.pending := by
  simp [periodShares, periodSwitch, periodCommit, periodHealth, periodProgram]

/-- R175: an output frame is formed in RUNNING alone. -/
theorem periodFrame_isSome (hbypass : s.framer.run ≠ .running → s.framer.bypass = true) (i : PeriodInput) :
    (s.periodFrame i).1.isSome = true ↔ s.framer.run = .running := by
  constructor
  · intro h
    refine Decidable.byContradiction fun hrun => ?_
    rw [periodFrame_of_bypassed hrun (hbypass hrun)] at h
    cases h
  · intro hrun
    obtain ⟨x, formed, _⟩ := periodFrame_of_running hrun i
    rw [formed]
    rfl

/-- The output frame of a period in RUNNING, by the program as the period leaves it. -/
theorem periodFrame_at_end (hrun : s.framer.run = .running) (i : PeriodInput) :
    ∃ f, (s.periodFrame i).1 = some f ∧ f.role = 0 ∧ f.summary.bypass = false
      ∧ ((s.period i).align.prog.state ≠ .stopped → f.kind = .audio ∧ f.stopped = false ∧ f.pos = (s.period i).align.prog.pos
          ∧ f.channels.length = (s.period i).routes.active.length)
      ∧ ((s.period i).align.prog.state = .stopped → f.kind = .idle ∧ f.stopped = true ∧ f.pos = { cue := 0, pos := 0 } ∧ f.channels = []) := by
  have hact : s.acting = true := (acting_iff s).2 (.inr hrun)
  obtain ⟨x, formed, play, routes, released⟩ := periodFrame_of_running hrun i
  obtain ⟨role0, _, _, summary0⟩ := outputFrame_head x
  have plays : SamePlay s.periodCommit (s.period i) := period_samePlay hact i
  have tracks : (s.period i).routes = x.routes := by
    obtain ⟨_, kept, _⟩ := period_of_acting hact i
    rw [kept, periodShares_routes, routes]
  have stopped : (s.period i).align.prog.state = .stopped ↔ x.align.prog.state = .stopped := plays.stopped.trans play.stopped.symm
  refine ⟨x.outputFrame, formed, role0, by rw [summary0]; exact released, fun hplay => ?_, fun hstop => ?_⟩
  · rw [outputFrame_of_playing (fun h => hplay (stopped.2 h)), tracks]
    exact ⟨rfl, rfl, play.pos.trans plays.pos.symm, List.length_map _⟩
  · rw [outputFrame_of_stopped (stopped.1 hstop)]
    exact ⟨rfl, rfl, rfl, rfl⟩

/-- The side record of a CONTROL port's slot, where the slot is not the relay's. -/
theorem SentAll.replySide {v w : State} {f : Option MainFrame} (h : SentAll v f w) {p : CtlPort}
    (hp : p = .ra ∨ p = .rb ∨ f.isSome = true) : (w.framer.out.get p.port).side = v.replySide p := by
  rw [h.out]
  rcases hp with rfl | rfl | hf
  · rfl
  · rfl
  · obtain ⟨x, rfl⟩ := Option.isSome_iff_exists.1 hf
    cases p <;> rfl

theorem SentAll.returnFrame {v w : State} {f : Option MainFrame} (h : SentAll v f w) (r : Rig) :
    (w.framer.out.get r.port).main = some (v.numbered r.port (v.returnFrame r)) := by
  rw [h.out]
  cases r <;> rfl

/-- What the gang's slots tell does not see that they have been sent, and the cue kept. -/
theorem SentAll.tick {v w : State} {f : Option MainFrame} (h : SentAll v f w) : w.keepCue.tick = v.tick := by
  have state := h.face.state
  rw [h.gang] at state
  rw [state]
  rfl

theorem SentAll.ownUnitEntry {v w : State} {f : Option MainFrame} (h : SentAll v f w) : w.keepCue.ownUnitEntry = v.ownUnitEntry := by
  have state := h.face.state
  rw [h.gang] at state
  rw [state]
  rfl

end State
open State

/-- Settles O24: the shares hand the framer on, the slots are sent port by port, and the run state's share leaves them. -/
theorem outputPeriodSendsOneSlot : Obligations.OutputPeriodSendsOneSlot := by
  intro s i hon hreset hbypass summary role
  let v := s.periodShares i
  let t := s.period i
  obtain ⟨w, sent, hw⟩ := periodSent_sent s i
  have shared := periodShares_shared s i
  have slots : SameSlots w t := by
    have h := runPeriod_slots (s.periodSent i) i.imageGood
    rw [hw] at h
    obtain ⟨count, seqs, holders, out, bypass, line, pending⟩ := h
    have ht : t = w.keepCue.runPeriod i.imageGood := by rw [← hw]; exact period_runPeriod s i
    rw [ht]
    exact ⟨count, seqs, holders, out, bypass, line, pending⟩
  have out := slots.out.trans sent.out
  refine ⟨t, congrArg Host.Outcome.next (outputPeriod_eq hon hreset i), ?_, ?_, ?_, ?_, ?_, ?_, ?_, ?_, ?_, ?_, ?_⟩
  · rw [slots.count, sent.face.count, shared.count, clockPeriod_count hon]
  · rw [slots.seqs, sent.seqs, shared.seqs]
    simp only [periodFrame_isSome hbypass]
  · intro p
    have short : (t.framer.holders.get p).short = (s.framer.holders.get p).short.drop 1 := by
      rw [slots.holders, sent.holders, next_short, shared.short]
    have side (hp : p = .ra ∨ p = .rb ∨ s.framer.run = .running) : (t.framer.out.get p.port).side = v.replySide p := by
      rw [slots.out]
      exact sent.replySide (hp.imp id (Or.imp id (periodFrame_isSome hbypass i).2))
    refine ⟨short, fun hp => ⟨fun x m hshort => ?_, fun x m hshort hcompletion => ?_⟩⟩
    · rw [side hp, replySide, next_of_short ((shared.short p).trans hshort)]
      rfl
    · obtain ⟨rest, queue⟩ := shared.completion p
      rw [hcompletion, List.cons_append] at queue
      rw [side hp, replySide, next_of_completion ((shared.short p).trans hshort) queue.symm]
      rfl
  · intro r
    refine ⟨{ v.returnFrame r with seq := s.framer.seqs.get r.port }, ?_, rfl, rfl, rfl, rfl, rfl, fun hsame => ?_⟩
    · rw [slots.out, sent.returnFrame, numbered, shared.seqs]
    · rw [returnFrame_at_end hsame r]
      exact ⟨rfl, rfl, summary_fields t, role_table t r⟩
  · intro hrun
    rw [out, periodFrame_of_bypassed hrun (hbypass hrun)]
    exact ⟨rfl, rfl⟩
  · intro hrun
    obtain ⟨f, formed, role0, released, audio, idle⟩ := periodFrame_at_end hrun i
    refine ⟨?_, f, role0, released, ?_, ?_, audio, idle⟩
    · rw [slots.bypass, sent.face.bypass, shared.bypass, if_pos hrun]
    · rw [out, formed, ← shared.seqs]
      rfl
    · rw [out, formed, ← shared.seqs]
      rfl
  · refine ⟨v.gangFrame, ?_, ?_, rfl, rfl, rfl, rfl, rfl, rfl⟩
    · rw [out, ← shared.seqs]
      rfl
    · rw [out, ← shared.seqs]
      rfl
  · have passed := congrArg (fun x => x.2.2.1) slots.line
    rw [sent.gang] at passed
    exact passed
  · have passed := congrArg (fun x => x.2.2.2) slots.line
    rw [sent.gang] at passed
    exact passed
  · intro hrun hsame
    have hact : v.acting = true := periodShares_acting ((acting_iff s).2 hrun) i
    obtain ⟨role0, rest⟩ := Prod.mk.inj (periodShares_line s i)
    obtain ⟨position, rest⟩ := Prod.mk.inj rest
    obtain ⟨relay, below⟩ := Prod.mk.inj rest
    have last : t = w.keepCue := (period_of_same_run hsame).trans hw
    refine ⟨fun hleader => ?_, fun hfollower => ?_⟩
    · intro unset
      have leads : (s.periodShares i).gang.role = .leader := role0.trans hleader
      rw [out]
      refine ⟨if_neg (by simp [leads]), (if_pos ⟨hact, leads⟩).trans ?_⟩
      rw [← sent.tick, ← last]
      rfl
    · intro own
      have follows : (s.periodShares i).gang.role = .follower := role0.trans hfollower
      rw [out]
      refine ⟨(if_neg (by simp [follows])).trans (by rw [relay]), (if_pos ⟨hact, follows⟩).trans ?_⟩
      rw [gangReport, below, position, ← sent.ownUnitEntry, ← last]
      rfl
  · rw [slots.pending, sent.face.state]
    exact periodShares_pending s i

end Sys2Proof.Machine
end
